-- ==== Sys2Proof/Word.lean ====
section
/-!
DEFINITION. The byte and word types and their plainest arithmetic (chapter 00_scope, number formats).
-/
namespace Sys2Proof

/-- One byte of a message, an image or a memory. -/
abbrev Byte := BitVec 8

/-- One register word (R9: all registers are 32 bits wide). -/
abbrev Word := BitVec 32

/-- Bit `i` of a natural number. -/
def natBit (n i : Nat) : Bool := (n >>> i) % 2 == 1

/-- Bits `lo .. lo + len - 1` of a natural number. -/
def natBits (n lo len : Nat) : Nat := (n >>> lo) % 2 ^ len

/-- The two's-complement reading of the low `w` bits of `n`. -/
def toSigned (w : Nat) (n : Nat) : Int :=
  let m := n % 2 ^ w
  if m < 2 ^ (w - 1) then (m : Int) else (m : Int) - 2 ^ w

/-- The low `w` bits of an integer, as an unsigned number. -/
def toUnsigned (w : Nat) (i : Int) : Nat := (i % (2 ^ w : Int)).toNat

/-- Wrap an integer into the two's-complement range of width `w`. -/
def wrapS (w : Nat) (i : Int) : Int := toSigned w (toUnsigned w i)

/-- Limit an integer to `lo .. hi`. -/
def clampI (lo hi x : Int) : Int := if x < lo then lo else if hi < x then hi else x

/-- Saturate to the two's-complement range of width `w` (R4). -/
def satS (w : Nat) (i : Int) : Int := clampI (-(2 ^ (w - 1))) (2 ^ (w - 1) - 1) i

/-- Division by `2 ^ n` rounding half to even (R4). -/
def rneShift (n : Nat) (x : Int) : Int :=
  if n = 0 then x else
    let q := x / (2 ^ n : Int)
    let r := x % (2 ^ n : Int)
    let h : Int := 2 ^ (n - 1)
    if r < h then q else if h < r then q + 1 else if q % 2 = 0 then q else q + 1

/-- Division by a positive `d` rounding half to even. -/
def rneDiv (x : Int) (d : Nat) : Int :=
  if d = 0 then 0 else
    let q := x / (d : Int)
    let r := x % (d : Int)
    if 2 * r < d then q else if (d : Int) < 2 * r then q + 1 else if q % 2 = 0 then q else q + 1

/-- Absolute value as a natural number. -/
def absN (x : Int) : Nat := x.natAbs

/-- The bytes of `n`, least significant first. -/
def leBytes : Nat → Nat → List Byte
  | 0, _ => []
  | k + 1, n => BitVec.ofNat 8 n :: leBytes k (n / 256)

/-- The number that bytes spell, least significant first. -/
def leNat : List Byte → Nat
  | [] => 0
  | b :: bs => b.toNat + 256 * leNat bs

/-- The bytes of `n`, most significant first. -/
def beBytes (k n : Nat) : List Byte := (leBytes k n).reverse

/-- The number that bytes spell, most significant first. -/
def beNat (bs : List Byte) : Nat := leNat bs.reverse

end Sys2Proof
end

