-- ==== Sys2Proof/Word/Kinds.lean ====
section
/-!
DEFINITION. The small closed sets of names that commands and state share: units, cores, resources, results.
-/
namespace Sys2Proof

/-- The two render units (R14). -/
inductive UnitId where
  | a | b
deriving DecidableEq, Repr

/-- The other unit. -/
def UnitId.other : UnitId → UnitId
  | .a => .b
  | .b => .a

/-- 0 for unit A, 1 for unit B (R504). -/
def UnitId.toNat : UnitId → Nat
  | .a => 0
  | .b => 1

/-- The three cores that read and write registers: the management core and the two control cores. -/
inductive Core where
  | mgmt | ua | ub
deriving DecidableEq, Repr

/-- The unit of a control core. -/
def Core.unit : Core → Option UnitId
  | .mgmt => none
  | .ua => some .a
  | .ub => some .b

/-- The control core of a unit. -/
def UnitId.core : UnitId → Core
  | .a => .ua
  | .b => .ub

/-- A register place: shared space, or one unit's space. -/
inductive Space where
  | shared | unit (u : UnitId)
deriving DecidableEq, Repr

/-- A bus master that reads and writes registers: a core, a unit's DMA controller, or the bridge inbound of a unit's matrix
(R464). -/
inductive RegMaster where
  | core (c : Core) | dma (u : UnitId) | bridge (u : UnitId)
deriving DecidableEq, Repr

/-- A number for a register master, used in the keys of read latches. -/
def RegMaster.toNat : RegMaster → Nat
  | .core .mgmt => 0
  | .core .ua => 1
  | .core .ub => 2
  | .dma u => 3 + u.toNat
  | .bridge u => 5 + u.toNat

/-- The core that a register master is, for register blocks that tell masters apart. -/
def RegMaster.theCore : RegMaster → Option Core
  | .core c => some c
  | _ => none

/-- A number for a space, used in register keys. -/
def Space.toNat : Space → Nat
  | .shared => 0
  | .unit .a => 1
  | .unit .b => 2

/-- The owned resources of R28. -/
inductive Res where
  | tt (t : Nat) | gpio (g : Nat) | dma (u : UnitId) (n : Nat) | cap | tdm7
deriving DecidableEq, Repr

/-- Who configures an owned resource: a host session over Dameel, a core's firmware through registers, or the survey
function (R29). -/
inductive Agent where
  | host (sess : Nat) | firmware (c : Core) | survey
deriving DecidableEq, Repr

/-- The owner ID under which an agent acts (R29). -/
def Agent.ownerId : Agent → Nat
  | .host n => n
  | .firmware .mgmt => 0x20
  | .firmware .ua => 0x21
  | .firmware .ub => 0x22
  | .survey => 0x30

/-- The fields of a trigger that a configuration write sets (R66). -/
inductive TrigField where
  | action | target | period | count | width
deriving DecidableEq, Repr

/-- The fields of a GPIO ball that a configuration write sets (R389). -/
inductive GpioField where
  | func | pol | out
deriving DecidableEq, Repr

/-- What the board and the die's parts do at a start: rails in range, training, SRAM fill, the recovery pin (R440, R441,
R540, R541). -/
structure BootEnv where
  coreRails : Bool
  trainA : Bool
  trainB : Bool
  sramA : Bool
  sramB : Bool
  recoveryPin : Bool
  storeBad : List Nat
deriving DecidableEq, Repr

/-- What a request asks of its target (R469). -/
inductive BurstKind where
  | read
  /-- Bytes with their strobes. -/
  | write (data : List (Byte × Bool))
  | loadReserved
  | storeConditional (data : List Byte)
  /-- An atomic operation on a word of 4 or 8 bytes: 0 swap, 1 add, 2 xor, 3 and, 4 or, 5 min, 6 max, 7 minu, 8 maxu. -/
  | amo (op : Nat) (operand : Nat)
deriving DecidableEq, Repr

/-- An ECC finding on the word read: none, corrected, uncorrectable. -/
inductive Ecc where
  | none | ce | ue
deriving DecidableEq, Repr

/-- A burst request to a unit's bus matrix, with what the memory does (R464 to R469, R484, R490). -/
structure Burst where
  master : Nat
  id : Nat
  addr : Nat
  beats : Nat
  /-- Bytes per beat. -/
  size : Nat
  kind : BurstKind
  /-- Engine behind a Novil cluster port, for its regulator. -/
  engine : Nat
  /-- Other masters that request the same target in the same handshake. -/
  others : List Nat
  /-- What ECC finds in the data, and in which 8-byte word from the first that the burst touches. -/
  ecc : Ecc
  word : Nat
  /-- For each 64-byte granule of LP5 memory that the burst touches, the row that it activates in its channel, where it does. -/
  rows : List (Option Nat)
deriving DecidableEq, Repr

/-- What the memory does with one access of a DMA channel: the finding of ECC, its word, and the rows activated. -/
structure MemFind where
  ecc : Ecc := .none
  word : Nat := 0
  rows : List (Option Nat) := []
deriving DecidableEq, Repr

/-- A DMA channel at work, with what the memory does with its successive accesses (R475, R484, R490). -/
structure DmaStep where
  ch : Nat
  mem : List MemFind := []
deriving DecidableEq, Repr

/-- What the checks find while a lane or a pair-law unit handles a pair (R131, R132): a residue mismatch, corrected
errors, history words (by sample index) that are uncorrectable, and an uncorrectable pair record. -/
structure PairCheck where
  res : Bool
  ce : Nat
  histUe : List Nat
  pairUe : Bool
deriving DecidableEq, Repr

/-- Which of a feed's filters a stored word belongs to: the one in force (the new one in a change), the one that a change
leaves, or the one of a change to come, whose contributions are computed ahead of it (R187, R189, R190, R197). -/
inductive CxCopy where
  | now | former | next
deriving DecidableEq, Repr

/-- A stored word of the correction engine that proves uncorrectable (R200): a tap of a filter; a FIR input by its sample
index, in the level-0 history, which level 1 reads too, or in the window of level 2 or 3; a component of a filter's
coefficient spectrum (level, partition, slot, imaginary part) or of an input spectrum (level, segment, slot, imaginary part);
the exponent of either; or a staged contribution of a filter (level, sample index) (R183, R189, R190). -/
inductive CxWord where
  | tap (c : CxCopy) (t : Nat)
  | input (level s : Nat)
  | coef (c : CxCopy) (level j slot : Nat) (im : Bool)
  | coefExp (c : CxCopy) (level j : Nat)
  | spec (level m slot : Nat) (im : Bool)
  | specExp (level m : Nat)
  | staged (c : CxCopy) (level s : Nat)
deriving DecidableEq, Repr

/-- What a unit's checks find as an input block is delivered to it: an uncorrectable word of its record in that unit (R209),
or sample indices of the block that disagree or step wrongly between the units (R19). -/
inductive BlockCheck where
  | record (u : UnitId) | index
deriving DecidableEq, Repr

/-- What the checks find while the feed chain works on a block (R131, R153, R188, R200), with the feed. -/
inductive ChainCheck where
  /-- A residue mismatch of an accumulator or of the output rounding. -/
  | accRes (f : Nat)
  | cxRes (f : Nat)
  | cxUe (f : Nat) (w : CxWord)
  | cxCe (n : Nat)
  /-- A contribution was not complete when due. -/
  | cxLate (f : Nat)
  /-- An uncorrectable word of a bulk ring, by its sample index. -/
  | bulkUe (f s : Nat)
  | bulkCe (n : Nat)
deriving DecidableEq, Repr

/-- A Novil instruction issue: the unit and the engine, and what ECC finds in the instruction word, in the first and in the
second operand word, which for a transfer is its first word, and in the further words of a transfer, by their place (R132,
R247). -/
structure NvIssue where
  u : UnitId
  e : Nat
  fetch : Ecc
  op1 : Ecc
  op2 : Ecc
  words : List (Nat × Ecc) := []
  /-- For each 64-byte granule of LP5 memory that a transfer touches, the row that it activates, where it does (R490). -/
  rows : List (Option Nat) := []
deriving DecidableEq, Repr

/-- The operation of a MAC word and its parallel loads (R253, R255). -/
structure MacOp where
  aa : Nat
  da : Nat
  db : Nat
  xe : Bool
  xp : Nat
  xd : Nat
  ye : Bool
  yp : Nat
  yd : Nat
  pb : Bool
deriving DecidableEq, Repr

/-- The status codes of R367. -/
inductive Status where
  | ok | noEntry | access | type | range | late | busy | locked | admission | tenancy | auth | sequence
  | domainAbort | state | sealed | internal
deriving DecidableEq, Repr

/-- The code of a status (R367). -/
def Status.code : Status → Nat
  | .ok => 0x00 | .noEntry => 0x01 | .access => 0x02 | .type => 0x03 | .range => 0x04 | .late => 0x05
  | .busy => 0x06 | .locked => 0x07 | .admission => 0x08 | .tenancy => 0x09 | .auth => 0x0A
  | .sequence => 0x0B | .domainAbort => 0x0C | .state => 0x0D | .sealed => 0x0E | .internal => 0x0F

/-- A dictionary value: a number in its type's range, or a sequence of bytes (strings and domains). -/
inductive DVal where
  | num (n : Int) | bytes (b : List Byte)
deriving DecidableEq, Repr

/-- The number a value holds, 0 for bytes. -/
def DVal.toInt : DVal → Int
  | .num n => n
  | .bytes _ => 0

/-- The number a value holds, as a natural number. -/
def DVal.toNat (v : DVal) : Nat := v.toInt.toNat

/-- The bytes a value holds, none for a number. -/
def DVal.toBytes : DVal → List Byte
  | .num _ => []
  | .bytes b => b

/-- Where a Dameel datagram comes from or goes to: the Ethernet port, the IPv4 address and the UDP port; of one that has come,
the UDP port that it was sent to and whether it is an IPv4 fragment (R347, R348). -/
structure Peer where
  port : Nat
  ip : Nat
  udp : Nat
  sentTo : Nat
  fragment : Bool
deriving DecidableEq, Repr

/-- How the environment takes a minute record: the writes to flash that fail before one succeeds, and whether its outbound frame
has a bad CRC (R417, R423). -/
structure RecordFate where
  failed : Nat
  bad : Bool
deriving DecidableEq, Repr

/-- What one channel of the island measures in an interval (R411): the A-weighted energy in 64 bits, the C-weighted
peak, LAF and LAS maxima in units of 2^-16 dB, and an envelope overload. -/
structure IslMeas where
  energy : Nat
  peak : Int
  laf : Int
  las : Int
  overload : Bool
deriving DecidableEq, Repr

end Sys2Proof
end

