-- ==== Sys2Proof/Syntax.lean ====
section
/-!
DEFINITION. The commands: one constructor per row of the spec's table of operations and events, with what each carries.
-/
namespace Sys2Proof

/-- A command of the block: a step of the spec's table (the source's rule stands in brackets). -/
inductive Instr where
  /-- POR_N_RELEASE (R440): Release of POR_N starts the device from power-on reset and runs the start-up steps towards READY. -/
  | porNRelease (env : BootEnv)
  /-- PEN_CORE_TIMEOUT (R541): VDD_CORE or VDD_MEM not in range 8 ms after PEN_CORE rises makes the sequencer drop PEN_CORE and retry, tripping after the third failure. -/
  | penCoreTimeout (env : BootEnv)
  /-- PEN_LP_TIMEOUT (R541): A unit's LP5 rail group not in range within 20 ms of PEN_LP disables that unit at start. -/
  | penLpTimeout (u : UnitId)
  /-- PEN_SDS_TIMEOUT (R541): SerDes rails not in range within 20 ms of PEN_SDS leave P0 to P3 down and log the event. -/
  | penSdsTimeout
  /-- SUPPLY_LOSS (R443): Loss of supply takes the device from any state to OFF. -/
  | supplyLoss
  /-- POWER_REQ (R444): A write of POWER_REQ requests STANDBY, IDLE or READY, acted on at once or when the transition in progress ends. -/
  | powerReq (n v : Nat)
  /-- POWER_TRANSITION_END (R444): A power-state transition completes, and a POWER_REQ written meanwhile is then acted on. -/
  | powerTransitionEnd
  /-- WAKE (R318): In STANDBY a standard wake pattern or Dameel wake frame on P0 or M0 wakes the device and sets WAKE_REASON. -/
  | wakeEvent (p : Nat) (f : List Byte) (bad : Bool) (env : BootEnv)
  /-- THERMAL_TRIP (R452): A temperature comparator at TJ_TRIP forces both units into IDLE, latches the trip and drives TRIP_N low. -/
  | thermalTrip (sensor : Nat)
  /-- TEMPERATURE_SAMPLE (R447): Every 10 ms the temperature sensors are sampled and the junction temperature is taken as their maximum. -/
  | temperatureSample (temps : List Int)
  /-- PMB_ALERT (R538): A fall of PMB_ALERT_N makes Subsoil read the regulator's STATUS_WORD and log it. -/
  | pmbAlert (statusWord : Nat)
  /-- PMBUS_READBACK (R450): Within 2 ms after a VOUT_COMMAND write Subsoil reads the regulator output and repeats or abandons voltage control on mismatch. -/
  | pmbusReadback (mv : Nat)
  /-- MONITOR_BLOCK_MARGIN (R448): When a unit closes a block in RENDER its completion margin is classed as warning, critical or overrun for the monitor window. -/
  | monitorBlockMargin (u : UnitId) (margin : Int)
  /-- MONITOR_WINDOW_END (R448): At the end of each one-second monitor window MARGIN_MIN, MARGIN_MEAN and MARGIN_STATE are updated. -/
  | monitorWindowEnd
  /-- MWDT_EXPIRY (R453): Expiry of the management watchdog causes a management restart. -/
  | mwdtExpiry
  /-- MWDT_KICK (R462): A write of 0x0000_4B49 to MWDT_KICK restarts the management watchdog. -/
  | mwdtKick (c : Core) (v : Nat)
  /-- MANAGEMENT_RESTART_DONE (R454): A management restart completes, sessions continue if the retained area passes its CRC, and the restart is logged. -/
  | managementRestartDone (crcOk pin : Bool)
  /-- CONTROL_WATCHDOG_EXPIRY (R453): Expiry of a control-core watchdog disables the unit and reloads its control image. -/
  | controlWatchdogExpiry (u : UnitId)
  /-- CONTROL_IMAGE_LOADED (R234): Completion of a control image load into a unit starts its resynchronisation, or marks the update failed. -/
  | controlImageLoaded (u : UnitId)
  /-- SAMPLE_TICK (R49): The media clock emits the next sample tick, with soft-aligned slewing in RENDER and hard alignment outside it. -/
  | sampleTick
  /-- SECOND_BOUNDARY (R44): When the nanoseconds field wraps to 0 the seconds field increments and PPS_OUT rises. -/
  | secondBoundary
  /-- PPS_OUT_FALL (R44): PPS_OUT falls 100,000,000 ns of timebase time after it rose. -/
  | ppsOutFall
  /-- TB_US_STEP (R505): TB_US increments each time the accumulated increments pass a multiple of 1,000 ns. -/
  | tbUsStep
  /-- TB_INCR_HI_WRITE (R41): A write of TB_INCR_HI applies the staged fraction and new integer increment at the next tick, or is rejected out of range. -/
  | tbIncrHiWrite (c : Core) (v : Nat)
  /-- TB_STEP_HI_WRITE (R42): A write of TB_STEP_HI adds the signed step to PTP time at the next tick unless it would make time negative. -/
  | tbStepHiWrite (c : Core) (v : Nat)
  /-- TB_CTRL_EN (R525): A write of TB_CTRL.EN starts or stops the timebase, ignored when stopping in RENDER. -/
  | tbCtrlEn (c : Core) (v : Bool)
  /-- MCLK_EN (R53): A write of MCLK_EN stops MCLK_OUT or restarts it at a sample tick. -/
  | mclkEn (c : Core) (v : Bool)
  /-- LATCHING_READ (R43): A read of a low word latches the matching high and companion words for the reading master. -/
  | latchingRead (c : Core) (sp : Space) (addr : Nat)
  /-- READ_CLEAR (R10): A read of an RC register returns its value and clears it, keeping a simultaneous hardware set. -/
  | readClear (c : Core) (sp : Space) (addr : Nat)
  /-- REGISTER_WRITE (R10): A write to a register field without behaviour of its own sets, clears or is ignored according to its access type. -/
  | registerWrite (c : Core) (sp : Space) (addr v : Nat)
  /-- PPS_IN_EDGE (R545): A rising edge on PPS_IN is time-stamped and, in leader role, steers the timebase and lock state. -/
  | ppsInEdge (incr : Option Nat) (stepNs : Option Int)
  /-- PPS_IN_TIMEOUT (R47): In leader role, no PPS_IN edge for 3 s moves the lock state to HOLDOVER. -/
  | ppsInTimeout
  /-- TOD_SET (R70): A write of TOD_SET gives the time of day taken at the next PPS_IN edge in leader role. -/
  | todSet (sec ns : Nat)
  /-- PTP_SYNC_RECEIVE (R47): As follower, a Sync interval from the leader updates the servo and the lock state. -/
  | ptpSyncReceive (offset : Int) (incr : Option Nat) (stepNs : Option Int)
  /-- PTP_ANNOUNCE_RECEIVE (R47): An Announce from a leader returns HOLDOVER to ACQUIRING. -/
  | ptpAnnounceReceive
  /-- ANNOUNCE_TIMEOUT (R46): Three announce intervals without an Announce move PTP to the backup port or into HOLDOVER. -/
  | announceTimeout
  /-- PTP_SYNC_SEND (R45): As leader, the device sends a two-step Sync message. -/
  | ptpSyncSend
  /-- PDELAY_REQ_SEND (R280): Every port sends a Pdelay_Req once per second. -/
  | pdelayReqSend (p : Nat)
  /-- PDELAY_EXCHANGE (R280): A valid Pdelay response updates the mean link delay and the estimated link length. -/
  | pdelayExchange (p seq : Nat) (delay : Int)
  /-- PDELAY_TIMEOUT (R280): No valid peer-delay exchange for 3 s clears PD_VALID. -/
  | pdelayTimeout (p : Nat)
  /-- BLOCK_CLOSE (R322): At the ingress deadline the stream engine closes an input block, writes its admitted-input record and delivers it to both units. -/
  | blockClose (ue : List (Nat × Nat)) (ce : Nat) (checks : List BlockCheck)
  /-- HISTORY_COMMIT (R111): Once all readers of the previous block are done, the ingress aligner commits each object's staged block into its history ring and updates its zero run. -/
  | historyCommit (u : UnitId) (ce : Nat) (ue : Bool)
  /-- LAW_RECORD_BROADCAST (R85): The geometry engine evaluates each object's trajectory and laws and broadcasts one law record per object to all tiles. -/
  | lawRecordBroadcast (u : UnitId)
  /-- PAIR_LAW_UPDATE (R116): After the lane finishes a pair, the pair-law unit writes its next gain and delay targets, forming, continuing or releasing the pair. -/
  | pairLawUpdate (u : UnitId) (t : Nat) (c : PairCheck)
  /-- LANE_PAIR_RENDER (R109): A lane takes the next valid pair and computes its 32 interpolated, ramped samples into the feed accumulator. -/
  | lanePairRender (u : UnitId) (t : Nat) (c : PairCheck)
  /-- FEED_CHAIN_BLOCK (R141): Once a feed accumulator completes, the feed chain runs trim, mute, biquads, correction, bulk delay, limiter and silence, then buses and egress staging. -/
  | feedChainBlock (u : UnitId) (checks : List ChainCheck)
  /-- SILENCE_GPIO_UPDATE (R162): At the tick after a block's release deadline the arbiter drives each silence group's GPIO from the selected unit's state. -/
  | silenceGpioUpdate
  /-- SEAL_CLOSE (R215): A unit closes a block with its seal and sends it to the arbiter and over the bridge. -/
  | sealClose (u : UnitId)
  /-- COMPUTE_DEADLINE (R216): At B(n+L) any unclosed block is closed with health 6, unfinished tile lanes and Novil jobs are stopped as overrun faults. -/
  | computeDeadline (u : UnitId)
  /-- LATE_CHECK_REPORT (R216): Before B(n+L)+C each unit reports whether every residue and ECC check of the block's samples passed. -/
  | lateCheckReport (u : UnitId) (ok : Bool)
  /-- HEARTBEAT_RECEIVE (R24): A seal record arrives over the unit bridge from the other unit. -/
  | heartbeatReceive (u : UnitId)
  /-- HEARTBEAT_LOSS (R25): Three consecutive seal records missing at their deadline set BRIDGE_HB_LOSS and raise interrupt 0x040. -/
  | heartbeatLoss (u : UnitId)
  /-- ARBITER_DECISION (R217): At B(n+L)+C the arbiter judges both seals and selects the source of the output block. -/
  | arbiterDecision (copies : Nat)
  /-- SAMPLE_RELEASE (R55): The arbiter releases one output sample to egress by tick s+C, or a hold or fade value. -/
  | sampleRelease (bad : List (Nat × Nat))
  /-- WRITE_APPLY (R63): Pending journaled writes whose apply index is reached take effect before the block's samples are processed. -/
  | writeApply
  /-- LAYOUT_SWITCH (R73): The rebuilt layout table switches at the rebuild's apply index. -/
  | layoutSwitch
  /-- FILTER_SWITCH (R306): A port's filter table switches at the sample tick of its apply index. -/
  | filterSwitch
  /-- RENDER_BEGIN (R445): RENDER begins at block b with enabled units in step from the zero state and deferred writes applied. -/
  | renderBegin
  /-- RENDER_END (R446): RENDER ends before block e and egress carries exact zeros from output index 32(e+L). -/
  | renderEnd
  /-- RATE_CHANGE (R552): A system rate change hard-aligns the media clock and empties keyframe FIFOs, renews leases and discards input records. -/
  | rateChange (v : Nat)
  /-- RESYNC_START (R227): A resynchronisation of a target unit starts and waits for phase 1 conditions. -/
  | resyncStart (u : UnitId)
  /-- RESYNC_PHASE_ADVANCE (R230): A resynchronisation moves to its next phase when the previous phase's blocks have elapsed. -/
  | resyncPhaseAdvance (u : UnitId)
  /-- SEAL_MATCH (R231): In phase 8 a matching seal counts, and a mismatch restarts at phase 2 as a failed attempt. -/
  | sealMatch (u : UnitId)
  /-- RESYNC_ABORT (R232): Heartbeat loss or an ineligible source seal aborts a resynchronisation without counting an attempt. -/
  | resyncAbort (u : UnitId)
  /-- PROMOTE_APPLY (R212): A PROMOTE ends the returning state of a unit from its apply block. -/
  | promoteApply (u : UnitId)
  /-- UPDATE_APPLY (R234): An UPDATE disables the unit at its apply block and loads the staged control image. -/
  | updateApply (u : UnitId)
  /-- OPEN (R354): An open message starts or resumes a session and returns a new epoch, or is refused. -/
  | dmlOpen (src : Peer) (dg : List Byte)
  /-- DISCOVER (R374): A discover message is accepted for a reply after a random delay. -/
  | dmlDiscover (src : Peer) (dg : List Byte)
  /-- DISCOVER_REPLY_SEND (R374): After its random delay the device sends the discover reply. -/
  | discoverReplySend
  /-- DISCOVER_SEND (R374): With DISC_EN set the device sends a discover on each Dameel interface every 30 s. -/
  | discoverSend
  /-- PEER_EXPIRY (R374): A peer not heard for 300 s is removed from PEER_TABLE. -/
  | peerExpiry
  /-- READ (R357): READ returns the value in force, or with PENDING the value and apply index that pending writes will leave. -/
  | dmlRead (src : Peer) (dg : List Byte) (k : Nat)
  /-- WRITE (R358): WRITE tests a value against the checks in order and, if accepted, journals it with an apply index. -/
  | dmlWrite (src : Peer) (dg : List Byte) (k : Nat)
  /-- SUBSCRIBE (R363): SUBSCRIBE registers a change or periodic subscription for a range of elements. -/
  | dmlSubscribe (src : Peer) (dg : List Byte) (k : Nat)
  /-- UNSUBSCRIBE (R357): UNSUBSCRIBE removes a subscription the session holds. -/
  | dmlUnsubscribe (src : Peer) (dg : List Byte) (k : Nat)
  /-- LOCK (R365): LOCK reserves elements for the session against writes from others. -/
  | dmlLock (src : Peer) (dg : List Byte) (k : Nat)
  /-- UNLOCK (R365): UNLOCK releases a lock, all of the session's locks, or by FORCE another session's locks. -/
  | dmlUnlock (src : Peer) (dg : List Byte) (k : Nat)
  /-- DOMAIN_WRITE (R360): DOMAIN_WRITE accepts one block of a domain transfer, journaling it and testing entry rules on the LAST block. -/
  | dmlDomainWrite (src : Peer) (dg : List Byte) (k : Nat)
  /-- DOMAIN_READ (R362): DOMAIN_READ returns part of a domain value with its VERSION. -/
  | dmlDomainRead (src : Peer) (dg : List Byte) (k : Nat)
  /-- DOMAIN_ABORT (R361): DOMAIN_ABORT aborts a running transfer of the session. -/
  | dmlDomainAbort (src : Peer) (dg : List Byte) (k : Nat)
  /-- DOMAIN_TRANSFER_TIMEOUT (R361): A domain transfer with no block for 10 s is aborted. -/
  | domainTransferTimeout (n x : Nat)
  /-- KEEPALIVE (R357): KEEPALIVE renews the lease and returns the time left and the current sample index. -/
  | dmlKeepalive (src : Peer) (dg : List Byte) (k : Nat)
  /-- JOURNAL_READ (R366): JOURNAL_READ returns up to MAX journal records from a sequence number. -/
  | dmlJournalRead (src : Peer) (dg : List Byte) (k : Nat)
  /-- CLOSE (R372): CLOSE ends the session, releasing locks and owner words and discarding subscriptions and transfers. -/
  | dmlClose (src : Peer) (dg : List Byte) (k : Nat)
  /-- LEASE_END (R372): A session's lease ends at index x_e, releasing its resources and reverting its tenancy when REVERT is set. -/
  | leaseEnd (n : Nat)
  /-- REVERT_RETRY (R372): A revert write refused with STATE or LATE is retried at its earliest acceptable index. -/
  | revertRetry (n : Nat)
  /-- KICK (R375): A write of KICK ends a session's lease at once as at expiry. -/
  | kickWrite (n k v : Nat)
  /-- SNAPSHOT (R372): A write of SNAPSHOT records the session's tenancy values and owned resources in the configuration store. -/
  | snapshotWrite (n k v : Nat)
  /-- SUBSCRIPTION_SCAN (R363): Every scan the front end compares subscribed values and queues VALUE notes and refreshes monitors. -/
  | subscriptionScan (volts speeds : List Nat)
  /-- NOTIFICATION_SEND (R363): At most every 10 ms the front end sends a session's queued notes in one notification message. -/
  | notificationSend (n : Nat)
  /-- OWNER_ENTRY_WRITE (R34): A host write of a dictionary owner entry claims with its own ID, releases with 0, or force-releases from an admin session. -/
  | ownerEntryWrite (n : Nat) (r : Res) (v : Nat)
  /-- OWNER_CLAIM (R32): A write of a non-zero CLAIM_ID to an owner word claims the resource or is refused. -/
  | ownerClaim (c : Core) (r : Res) (id : Nat) (rel : Bool)
  /-- OWNER_RELEASE (R33): A write of RELEASE to an owner word frees the resource when permitted. -/
  | ownerRelease (c : Core) (r : Res)
  /-- RENDER (R384): A write of RENDER schedules the start or end of rendering at its apply index, refused unless READY and LOCKED. -/
  | renderWrite (n v a : Nat)
  /-- STORE_RESET (R461): A write of STORE_RESET erases the configuration store, training results and snapshots at the next start. -/
  | storeResetWrite (n v : Nat)
  /-- CONFIG_STORE_SAVE (R381): One second after the last write to a kept entry, and no more often than every 10 s, Subsoil saves the kept entries. -/
  | configStoreSave
  /-- EVENT_LOG_FLUSH (R457): Buffered event records are written to flash within 1 s. -/
  | eventLogFlush
  /-- EVENT_RATE_SECOND (R457): At the end of each second a 0x00FF record reports records suppressed by the per-code limit. -/
  | eventRateSecond
  /-- EVQ_PUSH (R457): Eight writes to EVQ_PUSH form one event record entered into a mailbox event queue. -/
  | evqPush (q : Nat) (w : Nat)
  /-- JOURNAL_SLOT_READ (R462): Each enabled unit reads a new journal slot into its pending table, freeing the slot once both have read it. -/
  | journalSlotRead (u : UnitId)
  /-- CS_COMMIT (R193): A commit of the staged correction image to a slot starts the background rebuild of the slot's other copy. -/
  | csCommit (n k v a : Nat)
  /-- CS_REBUILD_DONE (R193): The background rebuild of a correction slot's coefficient spectra completes. -/
  | csRebuildDone (u : UnitId)
  /-- CS_SWITCH (R193): At its apply index the new copy of a correction slot becomes active and feed filter changes start. -/
  | csSwitch
  /-- CS_EMPTY (R194): A write of CS_EMPTY empties a correction slot at once outside RENDER. -/
  | csEmpty (n k v : Nat)
  /-- NV_GRAPH_COMMIT (R266): A commit of the staged job graph is validated, admitted and prepared in the shadow P pages during its lead. -/
  | nvGraphCommit (n v a : Nat)
  /-- NV_GRAPH_SWITCH (R267): At the switch block each engine swaps P pages, the loader writes new job regions and the new graph's jobs run. -/
  | nvGraphSwitch (u : UnitId)
  /-- UPDATE (R234): A write of UPDATE for a unit is tested and schedules its firmware reload. -/
  | updateWrite (n u v a : Nat)
  /-- MGMT_ACTIVATE (R458): MGMT_ACTIVATE makes the staged management slot active on trial and causes a management restart. -/
  | mgmtActivate (n v : Nat)
  /-- MGMT_CONFIRM (R458): After serving Dameel for 30 s a trial management image clears TRIAL and raises the anti-rollback counter. -/
  | mgmtConfirm
  /-- CTRL_INSTALL (R459): CTRL_INSTALL loads the staged control image into both units at once outside RENDER. -/
  | ctrlInstall (n v : Nat)
  /-- ARB_CLEAR (R238): A write of ARB_CLEAR, or ARB_CMD.CLEAR, clears the arbiter counters. -/
  | arbClear (who : Agent) (v : Nat)
  /-- ARB_HOLD_AT_HI_WRITE (R528): A write of ARB_HOLD_AT_HI commits the staged HOLD_LIMIT from a given output block. -/
  | arbHoldAtHiWrite (c : Core) (v : Nat)
  /-- FRAME_RECEIVE (R301): A received frame passes size, FCS, VLAN and address tests and is claimed by the stream engine or steered to a ring. -/
  | frameReceive (p : Nat) (f : List Byte) (bad : Bool) (stages : Nat) (ovf : Bool)
  /-- RXR_TAIL_WRITE (R312): A write of RXR_TAIL gives receive descriptors to the hardware. -/
  | rxrTailWrite (p r v : Nat)
  /-- TXR_TAIL_WRITE (R315): A write of TXR_TAIL queues transmit descriptors for sending. -/
  | txrTailWrite (p r v : Nat)
  /-- FRAME_TRANSMIT (R315): At a frame boundary the port picks the next frame by priority and sends it, or skips a malformed chain with ERR. -/
  | frameTransmit (p : Nat)
  /-- RING_EN_WRITE (R342): A write of xR_CTRL.EN enables a ring or disables it, dropping or completing the frame in progress. -/
  | ringEnWrite (p : Nat) (tx : Bool) (r : Nat) (en : Bool)
  /-- RING_MODERATION_EXPIRY (R317): A ring raises its interrupt when unsignalled completions reach MOD_FRAMES or MOD_US has elapsed. -/
  | ringModerationExpiry (p : Nat) (tx : Bool) (r : Nat)
  /-- LINK_CHANGE (R340): A port's link goes up or down, setting LINK_LOST when it falls. -/
  | linkChange (p : Nat) (up : Bool) (phy : Nat)
  /-- AUTO_NEGOTIATION_DONE (R279): Clause 73 auto-negotiation and clause 110 training complete or fail and report the resolved FEC. -/
  | autoNegotiationDone (p stage partner fec : Nat)
  /-- PORT_CONFIG_WRITE (R300): A write of SPEED or FEC_EN drops the link and retrains it when no enabled stream uses the port. -/
  | portConfigWrite (n p : Nat) (fec : Bool) (v : Nat)
  /-- MOD_ABS_FALL (R276): Insertion of an SFP module starts a 300 ms wait before its identity page is read. -/
  | modAbsFall (p : Nat)
  /-- SFP_ID_READ (R276): After the wait Subsoil reads the module identity page and, if supported, the diagnostics page. -/
  | sfpIdRead (p : Nat) (idPage diag : Option (List Byte))
  /-- SFP_DIAG_POLL (R276): Every second Subsoil reads the diagnostics page, updating flags and sending SFP_ALARM on changes. -/
  | sfpDiagPoll (p : Nat) (diag : Option (List Byte))
  /-- MOD_ABS_RISE (R276): Removal of an SFP module zeroes its pages and clears SFP_PRESENT. -/
  | modAbsRise (p : Nat)
  /-- STREAM_PACKET_RECEIVE (R320): A claimed RTP packet is checked, its sample indices derived, and each sample stored, discarded late or discarded early. -/
  | streamPacketReceive (p : Nat) (f : List Byte) (stages : Nat) (ovf : Bool)
  /-- EGRESS_PACKET_SEND (R327): An egress stream sends a packet of P released samples on each leg after its last sample's release. -/
  | egressPacketSend (k : Nat)
  /-- SAP_RECEIVE (R331): A received SAP announcement adds or refreshes a session description, or a deletion removes it. -/
  | sapReceive (p : Nat) (b : List Byte)
  /-- SAP_ANNOUNCE (R331): Every 30 s Subsoil announces an SDP description for each announced egress stream leg. -/
  | sapAnnounce
  /-- SAP_SESSION_EXPIRY (R331): A SAP session not refreshed for 3,600 s is removed. -/
  | sapSessionExpiry
  /-- TDM_FRAME (R57): A running TDM port begins a frame at a sample tick, receiving input index t-C and sending output index t-C. -/
  | tdmFrame (t : Nat) (din : List Nat)
  /-- TDM_START (R333): A TDM port starts its bit clock and first frame at its start tick. -/
  | tdmStart (t : Nat)
  /-- TDM_STOP (R333): A TDM_EN write of 0 stops the port after the frame before its apply tick. -/
  | tdmStop (t : Nat)
  /-- RNG_GO (R282): RNG_GO starts TDM link ranging with a marker on the chosen slot. -/
  | rngGo (n t v : Nat)
  /-- RANGING_DONE (R282): After 8 detections ranging records the mean round trip and RNG_STATE becomes done. -/
  | rangingDone (t ns : Nat)
  /-- RANGING_NO_ECHO (R282): No marker seen within 64 frames sets RNG_STATE to no echo. -/
  | rangingNoEcho (t : Nat)
  /-- TRIGGER_ARM (R67): A write of START arms a time trigger with its current fields, or is refused or left missed when too late. -/
  | triggerArm (who : Agent) (t start : Nat)
  /-- TRIGGER_DISARM (R67): A write of DISARM disarms a time trigger. -/
  | triggerDisarm (who : Agent) (t : Nat)
  /-- TRIGGER_FIRE (R67): An armed trigger fires at the tick of its next index and performs its action. -/
  | triggerFire (t : Nat)
  /-- GPIO_PULSE_END (R68): After WIDTH samples a GPIO pulse ends and the ball returns inactive. -/
  | gpioPulseEnd (g : Nat)
  /-- GPIO_CONFIG_WRITE (R390): A write of GPIO_FUNC, GPIO_POL or GPIO_OUT switches the ball at once to its new level source. -/
  | gpioConfigWrite (who : Agent) (g : Nat) (f : GpioField) (v : Nat)
  /-- SURV_GO (R290): A write of SURV_GO schedules a survey step at its apply index, refused without an NL-SURV job. -/
  | survGo (n v a : Nat)
  /-- SURVEY_STEP (R290): A survey step emits the signal on the scheduled feed, captures the response and advances SCHED_POS, or is missed. -/
  | surveyStep
  /-- SURVEY_RESULT_COPY (R275): When NL-SURV's report counters change Subsoil copies step or live results from the current source and sends SURVEY_DONE. -/
  | surveyResultCopy
  /-- NOVIL_JOB_START (R264): A Novil job starts once its engine's previous job, DEPS and flow predecessor have ended, with registers cleared and parameters copied. -/
  | novilJobStart (u : UnitId) (e : Nat)
  /-- NOVIL_TRANSFER_COMPLETE (R261): An inbound Novil transfer finishes writing local memory, releasing any instruction waiting on it. -/
  | novilTransferComplete (u : UnitId) (e : Nat)
  /-- NOP (R254): NOP does nothing for one slot. -/
  | nvNop (c : NvIssue)
  /-- BR (R254): BR branches to TARGET when COND holds. -/
  | nvBr (c : NvIssue) (cond target : Nat)
  /-- CALL (R256): CALL pushes the return address and branches when COND holds. -/
  | nvCall (c : NvIssue) (cond target : Nat)
  /-- RET (R256): RET returns to the address on top of the call stack. -/
  | nvRet (c : NvIssue)
  /-- LOOP (R257): LOOP runs its body LC_s times, from the loop buffer when short. -/
  | nvLoop (c : NvIssue) (lcs target : Nat)
  /-- END (R254): END waits for outstanding transfers and ends the job. -/
  | nvEnd (c : NvIssue)
  /-- DMAW (R254): DMAW waits for every outstanding transfer of the job. -/
  | nvDmaw (c : NvIssue)
  /-- ADD (R250): ADD writes the wrapping sum of two data registers. -/
  | nvAdd (c : NvIssue) (dd da db : Nat)
  /-- SUB (R250): SUB writes the wrapping difference of two data registers. -/
  | nvSub (c : NvIssue) (dd da db : Nat)
  /-- AND (R254): AND writes the bitwise and of two data registers. -/
  | nvAnd (c : NvIssue) (dd da db : Nat)
  /-- OR (R254): OR writes the bitwise or of two data registers. -/
  | nvOr (c : NvIssue) (dd da db : Nat)
  /-- XOR (R254): XOR writes the bitwise exclusive or of two data registers. -/
  | nvXor (c : NvIssue) (dd da db : Nat)
  /-- SHL (R250): SHL shifts left by a register count. -/
  | nvShl (c : NvIssue) (dd da db : Nat)
  /-- SHR (R250): SHR shifts right arithmetically by a register count. -/
  | nvShr (c : NvIssue) (dd da db : Nat)
  /-- SHRL (R250): SHRL shifts right logically by a register count. -/
  | nvShrl (c : NvIssue) (dd da db : Nat)
  /-- MIN (R254): MIN writes the smaller of two data registers. -/
  | nvMin (c : NvIssue) (dd da db : Nat)
  /-- MAX (R254): MAX writes the larger of two data registers. -/
  | nvMax (c : NvIssue) (dd da db : Nat)
  /-- ABS (R250): ABS writes the absolute value, saturating the most negative value. -/
  | nvAbs (c : NvIssue) (dd da : Nat)
  /-- NEG (R250): NEG writes the negation, saturating the most negative value. -/
  | nvNeg (c : NvIssue) (dd da : Nat)
  /-- ADDS (R250): ADDS writes the saturating sum and sets V on saturation. -/
  | nvAdds (c : NvIssue) (dd da db : Nat)
  /-- SUBS (R250): SUBS writes the saturating difference and sets V on saturation. -/
  | nvSubs (c : NvIssue) (dd da db : Nat)
  /-- CMP (R254): CMP sets flags from the difference without writing a register. -/
  | nvCmp (c : NvIssue) (da db : Nat)
  /-- MUL (R250): MUL writes the low 32 bits of the product. -/
  | nvMul (c : NvIssue) (dd da db : Nat)
  /-- LDI (R254): LDI loads a sign-extended 16-bit immediate. -/
  | nvLdi (c : NvIssue) (dd v : Nat)
  /-- LDH (R254): LDH sets the upper half of a data register. -/
  | nvLdh (c : NvIssue) (dd v : Nat)
  /-- ADDI (R254): ADDI adds a sign-extended immediate. -/
  | nvAddi (c : NvIssue) (dd v : Nat)
  /-- CMPI (R254): CMPI sets flags from comparison with an immediate. -/
  | nvCmpi (c : NvIssue) (dd v : Nat)
  /-- SHLI (R254): SHLI shifts left by an immediate count. -/
  | nvShli (c : NvIssue) (dd v : Nat)
  /-- SHRI (R254): SHRI shifts right by an immediate count. -/
  | nvShri (c : NvIssue) (dd v : Nat)
  /-- ANDI (R254): ANDI ands with a zero-extended immediate. -/
  | nvAndi (c : NvIssue) (dd v : Nat)
  /-- LOAD (R253): A load reads X, Y or P memory through a pointer with optional post-update. -/
  | nvLoad (c : NvIssue) (m d ptr : Nat) (upd : Bool)
  /-- STORE (R253): A store writes X or Y memory through a pointer, faulting on P memory or protected regions. -/
  | nvStore (c : NvIssue) (m d ptr : Nat) (upd : Bool)
  /-- MOVE_TO_SPECIAL (R254): A move writes a data register into a pointer, modifier, loop or flag register. -/
  | nvMoveToSpecial (c : NvIssue) (d sp : Nat)
  /-- MOVE_FROM_SPECIAL (R254): A move reads a special register into a data register. -/
  | nvMoveFromSpecial (c : NvIssue) (d sp : Nat)
  /-- STA (R252): STA stores a shifted, rounded and saturated accumulator into a data register. -/
  | nvSta (c : NvIssue) (aa dd sh : Nat) (rm : Bool)
  /-- CLRA (R254): CLRA clears an accumulator. -/
  | nvClra (c : NvIssue) (aa : Nat)
  /-- ADDA (R254): ADDA adds one accumulator to another. -/
  | nvAdda (c : NvIssue) (aa ab : Nat)
  /-- SUBA (R254): SUBA subtracts one accumulator from another. -/
  | nvSuba (c : NvIssue) (aa ab : Nat)
  /-- LDA (R252): LDA loads an accumulator from a shifted data register. -/
  | nvLda (c : NvIssue) (aa dd sh : Nat)
  /-- SHRA (R252): SHRA rounds an accumulator shifted right. -/
  | nvShra (c : NvIssue) (aa sh : Nat) (rm : Bool)
  /-- NEGA (R254): NEGA negates an accumulator. -/
  | nvNega (c : NvIssue) (aa : Nat)
  /-- DMA (R259): DMA issues a window or LP5 transfer from a descriptor in Y memory. -/
  | nvDma (c : NvIssue) (ptr : Nat)
  /-- MAC (R255): MAC adds a product to an accumulator with optional parallel loads. -/
  | nvMac (c : NvIssue) (m : MacOp)
  /-- MSU (R255): MSU subtracts a product from an accumulator with optional parallel loads. -/
  | nvMsu (c : NvIssue) (m : MacOp)
  /-- MPY (R255): MPY loads a product into an accumulator with optional parallel loads. -/
  | nvMpy (c : NvIssue) (m : MacOp)
  /-- MPYN (R255): MPYN loads a negated product into an accumulator with optional parallel loads. -/
  | nvMpyn (c : NvIssue) (m : MacOp)
  /-- BURST_REQUEST (R466): A master's burst request is decoded, arbitrated and served at its target, or given an error response. -/
  | burstRequest (u : UnitId) (b : Burst)
  /-- PEER_WINDOW_ACCESS (R26): A control-core access to the peer window reaches the other unit or receives an error response. -/
  | peerWindowAccess (u : UnitId) (b : Burst) (stall : Bool)
  /-- BRIDGE_TIMEOUT (R27): A peer-window access not completed within 10 µs receives an error response. -/
  | bridgeTimeout (u : UnitId)
  /-- BM_MRST (R470): A write to BM_MRST resets a bus master, draining its outstanding bursts. -/
  | bmMrst (c : Core) (u : UnitId) (mask : Nat)
  /-- MASTER_DRAIN_END (R470): The drain of a reset master ends and the master leaves reset. -/
  | masterDrainEnd (u : UnitId) (m : Nat)
  /-- DMA_GO (R476): DMA_CTRL.GO starts a DMA channel at its first descriptor. -/
  | dmaGo (c : Core) (u : UnitId) (n : Nat)
  /-- DMA_ABORT (R470): DMA_CTRL.ABORT drains and stops a DMA channel. -/
  | dmaAbort (c : Core) (u : UnitId) (n : Nat)
  /-- DMA_DESCRIPTOR_DONE (R476): A DMA descriptor completes, chaining on, ending with DONE or stopping with ERR. -/
  | dmaDescriptorDone (u : UnitId) (w : DmaStep)
  /-- FIFO_DATA_READ (R480): A read of FIFO_DATA returns the next word of the item at stage 0, removing it after its last word. -/
  | fifoDataRead (c : Core) (u : UnitId) (inst : Nat)
  /-- DROP_PKT (R478): FIFO_CMD.DROP_PKT discards items up to the first end-of-packet item. -/
  | fifoDropPkt (c : Core) (u : UnitId) (inst : Nat)
  /-- FLUSH (R478): FIFO_CMD.FLUSH discards everything a FIFO holds. -/
  | fifoFlush (c : Core) (u : UnitId) (inst : Nat)
  /-- SCRUB_PASS (R473): The scrubber reads each SRAM word once per period, correcting single errors and recording uncorrectable ones. -/
  | scrubPass (u : UnitId) (found : List (Nat × Bool))
  /-- SRAM_WAKE_DONE (R474): After the last bank group wakes, WAKE_BUSY clears and scrubbing resumes. -/
  | sramWakeDone (u : UnitId)
  /-- REFRESH_DUE (R489): A channel's refresh interval elapses and a refresh is issued, postponed or forced. -/
  | refreshDue (u : UnitId) (ch : Nat) (busy : Bool)
  /-- POSTPONED_REFRESH (R489): When a channel's real-time queues are empty it issues its postponed refreshes back to back. -/
  | postponedRefresh (u : UnitId) (ch : Nat)
  /-- PERIODIC_TRAINING (R491): Every 100 ms the LP5 controller runs a periodic training step. -/
  | periodicTraining (u : UnitId) (begin_ : Bool)
  /-- FREQ_REQ (R492): A write of LP_CTRL.FREQ_REQ requests an LP5 set-point change, deferred, replaced, cancelled or ignored. -/
  | freqReq (c : Core) (u : UnitId) (v : Nat)
  /-- FREQ_CHANGE_DONE (R492): An LP5 set-point change completes, setting FREQ_DONE and updating LP5_MTS. -/
  | freqChangeDone (u : UnitId) (ok : Bool)
  /-- SR_REQ_ENTER (R493): A write of SR_REQ 1 places every LP5 channel in self-refresh and stops its clocks. -/
  | srReqEnter (c : Core) (u : UnitId)
  /-- SR_REQ_EXIT (R493): A write of SR_REQ 0 restarts the PLL and exits self-refresh. -/
  | srReqExit (c : Core) (u : UnitId)
  /-- SV_PUSH (R507): A write of SV_PUSH_3 pushes a firmware item into the Sieve or refuses it. -/
  | svPush (c : Core) (u : UnitId) (v : Nat)
  /-- SV_POP (R508): A read of SV_POP_0 pops the highest-priority eligible item and puts its flow in service. -/
  | svPop (c : Core) (u : UnitId)
  /-- SV_DONE (R509): A write of SV_DONE takes a flow out of service. -/
  | svDone (c : Core) (u : UnitId) (v : Nat)
  /-- DELAY_RELEASE (R510): At each TB_US step delayed items whose due time is reached move to their priority lists. -/
  | delayRelease (u : UnitId)
  /-- SIEVE_SPILL (R511): When on-chip entries reach SV_SPILL_HI the Sieve moves low-priority tail items to LP5. -/
  | sieveSpill (u : UnitId)
  /-- SIEVE_RELOAD (R511): When entries fall to SV_RELOAD_LO, or a list's on-chip part empties, the Sieve brings spilled items back. -/
  | sieveReload (u : UnitId) (ue : List Nat)
  /-- IC_CLAIM (R517): A read of IC_CLAIM returns the highest deliverable source and puts it in service. -/
  | icClaim (c : Core)
  /-- IC_COMPLETE (R517): A write of IC_COMPLETE ends a source's service. -/
  | icComplete (by_ c : Core) (src : Nat)
  /-- IC_PEND_WRITE (R518): A write of 1 to a software source bit of IC_PEND sets it pending. -/
  | icPendWrite (by_ c : Core) (w v : Nat)
  /-- IC_TIMECMP_HI_WRITE (R524): A write of IC_TIMECMP_HI applies the new machine-timer compare value. -/
  | icTimecmpHiWrite (by_ c : Core) (v : Nat)
  /-- MODERATION_RELEASE (R522): A moderation group is released after MOD_US or when MOD_COUNT members are pending. -/
  | moderationRelease (c : Core) (g : Nat)
  /-- WFI_WAKE (R523): A core sleeping in WFI resumes when its request line rises. -/
  | wfiWake (c : Core)
  /-- MIRROR_RESULT (R395): Subsoil receives an island result frame and replaces the 0xB000 mirror entries together. -/
  | mirrorResult (bad : Bool)
  /-- EXPO_INTERVAL_MISSED (R159): An invalid or absent result interval makes the exposure group stale, and after 8 such intervals failsafe. -/
  | expoIntervalMissed
  /-- KO_LINK_LOST (R430): No result frame for 250 ms clears LINK and sets LINK_LOST. -/
  | koLinkLost
  /-- LOG_REQ (R395): A LOG_REQ or KO_LOG_REQ write sends one log-page request to the island. -/
  | logReq (who : Agent) (v : Nat)
  /-- LOG_REQUEST_TIMEOUT (R395): No island answer within 2 s sets LOG_STATE to no answer. -/
  | logRequestTimeout
  /-- LOG_PAGE_RECEIVE (R417): A log page from the island fills LOG_PAGE and sets LOG_DONE. -/
  | logPageReceive (bad : Bool)
  /-- KO_IMG_START (R429): KO_IMG_CTRL.START begins an image transfer to the island. -/
  | koImgStart (c : Core)
  /-- KO_IMG_DATA (R429): A write of KO_IMG_DATA sends the next word of an image block. -/
  | koImgData (c : Core) (v : Nat)
  /-- KO_IMG_END (R429): KO_IMG_CTRL.END ends an image transfer to the island. -/
  | koImgEnd (c : Core)
  /-- KAO_INSTALL (R426): KAO_INSTALL with the pin asserted sends, writes, verifies and activates a staged island image. -/
  | kaoInstall (n v : Nat)
  /-- TIME_WORD_SEND (R416): Once per second with TIME_EN Subsoil sends a time word and marks the next PPS_OUT edge with the time strobe. -/
  | timeWordSend
  /-- KAOLIN_START (R413): Island power-on reset, KAO_RESET_N, watchdog or install restarts the island and starts suppression of all results. -/
  | kaolinStart (powerOn : Bool)
  /-- KAOLIN_WATCHDOG_EXPIRY (R403): Island watchdog expiry after 2 s without a completed result resets the island. -/
  | kaolinWatchdogExpiry
  /-- SENSE_READING (R407): A microphone supply current reading is taken and after 50 agreeing readings the state changes. -/
  | senseReading (c steps off : Nat)
  /-- COMBINER_RETURN (R406): After 4,096 samples below 0.4 of high-gain full scale the combiner returns to the high-gain path. -/
  | combinerReturn (c : Nat)
  /-- INTERVAL_RESULT (R412): At the end of every 6,000-sample interval the island produces each channel's results and sends a result frame. -/
  | intervalResult (rest : List (List (List Int)))
  /-- SUPPRESSION_END (R414): A family's result suppression ends after its sample count from the trigger. -/
  | suppressionEnd (c fam : Nat)
  /-- MINUTE_RECORD (R420): At the end of every minute the island signs and writes a minute record and sends it outbound. -/
  | minuteRecord (fate : RecordFate)
  /-- STATUS_FRAME (R417): Every second the island sends a status frame. -/
  | statusFrame
  /-- RAW_SAMPLE (R417): The island sends each configured channel's stamped 48 kHz raw sample. -/
  | rawSample (k : Nat) (volts : List (List Int)) (bad full : Bool)
  /-- TIME_STROBE (R416): At the time strobe the island steps or slews its time from the accepted time word. -/
  | timeStrobe (ticks : Nat) (bad : Bool)
  /-- LOG_REQUEST_RECEIVE (R419): The island accepts a log request and answers with the record or not held. -/
  | logRequestReceive (bad : Bool)
  /-- IMAGE_BLOCK_RECEIVE (R419): The island accepts an image block only while KAO_UNSEAL is asserted. -/
  | imageBlockReceive (bad : Bool)
  /-- CONSOLE_ID (R428): The console command id prints identity, configuration version, audit counter and serial number. -/
  | consoleId
  /-- CONSOLE_KEY (R428): The console command key prints the island public key. -/
  | consoleKey
  /-- CONSOLE_TIME (R428): The console command time prints island time and TIME_QUAL. -/
  | consoleTime
  /-- CONSOLE_STATUS (R428): The console command status prints per-channel state, sense current and results. -/
  | consoleStatus
  /-- CONSOLE_LOG (R428): The console command log n prints minute record n or not held. -/
  | consoleLog (n : Nat)
  /-- CONSOLE_UNKNOWN (R428): Any other console input is answered with a question mark. -/
  | consoleUnknown
  /-- POR_N_ASSERT (R531): POR_N driven low holds the main die in reset with every ball in its reset state until POR_N is released. -/
  | porNAssert
  /-- KAO_SUPPLY_LOSS (R420): Loss of the island rails stops the island, losing the minute in progress, so that the next record carries the power-on flag. -/
  | kaoSupplyLoss
  /-- KAO_UNSEAL_CHANGE (R426): A change of the KAO_UNSEAL pin level is sensed by the island; an assertion marks the current minute record and a fall before step 4 ends an install as rejected. -/
  | kaoUnsealChange (level : Bool)
  /-- INGRESS_STREAM_TIMEOUT (R326): When no packets arrive on an ingress stream's legs for 1 s, IS_STATE falls to 1 (or from both legs to one leg receiving). -/
  | ingressStreamTimeout (k : Nat)
  /-- STATUS_FRAME_RECEIVE (R417): Subsoil receives an island status frame, discards it on a bad CRC, or mirrors the software identifier, audit counter, chain delay, staging state and KAO_UNSEAL level. -/
  | statusFrameReceive (bad : Bool)
  /-- REFRESH_DERATE_CHANGE (R489): When the LP5 memory's reported temperature crosses 85 degrees the refresh interval halves or returns, and LP_STAT.DERATE follows. -/
  | refreshDerateChange (u : UnitId) (hot : Bool)
deriving DecidableEq, Repr

end Sys2Proof
end

