-- ==== Sys2Proof/Decode.lean ====
section
/-!
DEFINITION. Commands spelled by words. Every row of spec/opcode_table.json has an empty list of fields: a command of this
block is an event, an access or a message, and no row gives it bits (log entry 14). The encoding that the spec gives to the
instructions of the Novil engines (R251 to R254) is decoded where an engine fetches them, in Machine/NovilCode.lean.
-/
namespace Sys2Proof

/-- The command that a word spells by the table's bits: none, since no row of the table gives bits. -/
def decodeTableWord (_nbits _w : Nat) : Option Instr := none

end Sys2Proof
end

