-- ==== Sys2Proof/Config.lean ====
section
/-!
DEFINITION. What a particular device fixes and what the spec leaves open: the constants here have no body, so that
nothing can evaluate them or prove a value of them (log entries 3 and 4).
-/
namespace Sys2Proof.Config

/-- The Novil flags that the spec leaves open after an instruction, as a function of its word and of the data registers that it
finds, so that a job's results depend on nothing else (R203, R246; log entry 12). -/
opaque nvFlags : Nat → List Int → Nat

/-- A free number for the `k`-th draw: a random draw or a value the spec leaves open (log entry 3). -/
opaque freeNat : Nat → Nat

/-- A free 32-bit word for the `k`-th draw (log entry 3). -/
opaque freeWord : Nat → BitVec 32

/-- SERIAL of 0x1000:03, set when the part was made (R382). -/
opaque serial : Nat

/-- What distinguishes the device's MAC addresses from those of others (R382). -/
opaque macSeed : Nat

/-- MAC_BASE of 0x1000:04: 48 bits of which the low three are 0 (R382). -/
def macBase : Nat := 8 * (macSeed % 2 ^ 45)

/-- Which of its two values ORDER_CODE has: that which ends in "IA" (R382). -/
opaque variantIa : Bool

/-- ORDER_CODE of 0x1000:05: "AFN-1024-IA" or "AFN-1024-EK" (R382). -/
def orderCode : List Byte :=
  ([0x41, 0x46, 0x4E, 0x2D, 0x31, 0x30, 0x32, 0x34, 0x2D] : List (BitVec 8)) ++ if variantIa then [0x49, 0x41] else [0x45, 0x4B]

/-- The level that the board drives at GPIO ball `g` at a PTP time, where the ball is an input (R389). -/
opaque pinLevel (g sec ns : Nat) : Bool

/-- Year, month and day of manufacture, which the device's own data give (R382). -/
opaque mfgYear : Nat
opaque mfgMonth : Nat
opaque mfgDay : Nat

/-- Days of a month of the Gregorian calendar. -/
def monthDays (y m : Nat) : Nat :=
  if m = 2 then (if y % 4 = 0 ∧ (y % 100 ≠ 0 ∨ y % 400 = 0) then 29 else 28)
  else if m = 4 ∨ m = 6 ∨ m = 9 ∨ m = 11 then 30 else 31

/-- MFG_DATE of 0x1000:06: a date in decimal as YYYYMMDD (R382). -/
def mfgDate : Nat :=
  let y := mfgYear % 10000
  let m := mfgMonth % 12 + 1
  10000 * y + 100 * m + mfgDay % monthDays y m + 1

/-- Contents of the boot ROM of a unit, which the spec does not give (log entry 9). -/
opaque bootRom : Nat → Byte

/-- Seed of the neighbour-refresh LFSR of unit `u` (0 or 1) and channel `c`, drawn at each start (R490). -/
opaque lfsrSeed : Nat → Nat → Nat

/-- The last row of an LP5 bank (R490). -/
opaque lastRow : Nat

/-- What stands before the media lines of an egress stream's session description, which the spec leaves open (R331). -/
opaque sdpPart (stream : Nat) : List Byte

/-- The device's own PTP clock identity, which the spec does not give (R45, R331). -/
opaque clockId : Nat

/-- The SHA-256 digest of the NL-SURV library image (R275). -/
opaque nlSurv : List Byte

/-- The image-key digest of the identity OTP, written when the part was made (R432). -/
opaque otpKeyDigest : List Byte

/-- What the header of an island image holds, at places the spec does not give (R424): its kind (0 firmware, 1
configuration), its version (part 0 major, 1 minor, 2 patch), and the metrology authority's public key. -/
opaque islKind (img : List Byte) : Nat
opaque islVersionPart (img : List Byte) (part : Nat) : Nat
opaque islKey (img : List Byte) : List Byte

/-- Field `k` (0 ENABLE to 4 I_SHORT) of channel `c` of a configuration image (R408, R424). -/
opaque islField (img : List Byte) (c k : Nat) : Nat

/-- What stands for a field of a configuration image whose value lies outside its range, which the spec leaves open (R408). -/
opaque islOther (img : List Byte) (c k : Nat) : Nat

/-- By how much a modulator's value exceeds its full scale where its input does (R405). -/
opaque overdrive (high : Bool) (v : Int) : Nat

/-- Gain and phase of channel `c` of the matching constants in island OTP, and how they turn a low-gain sample, after the one
before it, into one matched to the high-gain path (R405). -/
opaque matchGain (c : Nat) : Int
opaque matchPhase (c : Nat) : Int
opaque matchLow (gain phase x before : Int) : Int

/-- Taps of the island's half-band filters 1 and 2 and of its final FIR, in units of 2^-30, by their distance from the middle
(R409). -/
opaque hbTap (stage d : Nat) : Int
opaque firTap (d : Nat) : Int

/-- Tap `j` of what the Z weighting adds to its input, in units of 2^-30, before its bound is kept (R410). -/
opaque zTap (j : Nat) : Int

/-- The A (0) and C (1) weighting filters: the weighted sample and the filter's state after a sample (R410). -/
opaque weigh (w : Nat) (state : List Int) (x : Int) : Int × List Int

/-- The 24-bit raw word of a Z-weighted sample (R417). -/
opaque rawWord (z : Int) : BitVec 24

/-- Digest of the metrology authority's key in island OTP (R424). -/
opaque islKeyDigest : List Byte

/-- The private half of the island's signing key, and its serial number (R422, R428). -/
opaque islPrivate : Nat
opaque islSerial : List Byte

/-- Bytes that a session snapshot of a number of entries takes in the configuration store (R372). -/
opaque snapBytes (entries : Nat) : Nat

/-- The block index of a QUEUE_GAP note in the message of an epoch with a NOTE_SEQ, which the spec does not give (R363). -/
opaque gapBlock (epoch seq : Nat) : Nat

/-- Length of the test access port's instruction register, and what an instruction selects: 0 IDCODE, 1 boundary scan, else
bypass; the spec gives neither (R532). -/
opaque tapIrLen : Nat
opaque tapInstr (ir : List Bool) : Nat

/-- VERSION of a DOMAIN entry at power-on reset (R362). -/
opaque versionBase (key : Nat) : Nat

/-- Word `w` of LP_TRAIN of unit `u` (0 or 1) after its `n`-th training, which the spec does not give (R499). -/
opaque lpTrain (u n w : Nat) : Nat

/-- The correction SRAM window: byte `a` of unit `u` at a number of draws; the arrangement is not specified (R189). -/
opaque cxByte (u draw a : Nat) : Byte

/-- The first 64 KiB unit of the LP5 region that the control firmware of unit `u` (0 or 1) reserves with window `w` (R151, R190,
R260, R495; log entry 168). -/
opaque regionBase (u w : Nat) : Nat

/-- VOUT_MODE of the VDD_CORE regulator, and the word that its output format gives for a voltage in mV (R449). -/
opaque voutMode : Nat
opaque voutWord (mode mv : Nat) : Nat

/-- The bank group of a unit's on-die SRAM that holds an address of its matrix (R471, R474; log entry 208). -/
opaque bankGroup (addr : Nat) : Nat

end Sys2Proof.Config
end

