-- ==== Sys2Proof/Machine/DictTable.lean ====
section
/-!
DEFINITION. The parameter dictionary of chapter 12 and of the chapters it gathers: one row per entry, with its type,
access, element count, default, accepted range, lead, tenancy class, and whether the configuration store keeps it.
-/
namespace Sys2Proof.Machine

/-- The types of R353 that the dictionary uses. -/
inductive DType where
  | u (w : Nat) | i (w : Nat) | bool | str (n : Nat) | ptp80 | dom
  | sidx | gain24 | db16 | dly29 | pos32 | dir16 | c32 | coef32
deriving DecidableEq, Repr

/-- The access kinds of R377. -/
inductive Acc where
  | const | ro | rw | rwa | wo
deriving DecidableEq, Repr

/-- How a row's default is found (R380). -/
inductive Dflt where
  | num (n : Int) | zeros (n : Nat) | empty | elem (base : Int) | cfg | special
deriving DecidableEq, Repr

/-- How a row's range is tested. -/
inductive Rng where
  | any | bool | special
  | lohi (lo hi : Int) | oneof (l : List Int) | len (lo hi : Nat)
  /-- 0, or 32 to 4,096 samples (R170). -/
  | xf
  /-- A channel 0 to 1,279, or 0xFFFF. -/
  | ch1280
  /-- A group 0 to 7, or 255. -/
  | grp8
  /-- A ball 0 to 23, or 255. -/
  | gpio24
deriving DecidableEq, Repr

/-- The lead classes, in blocks at 96 kHz and 48 kHz: network 16 and 8, layout 40 and 20, graph 1,536 and 768. -/
inductive Lead where
  | none | fixed (n : Nat) | network | layout | graph
deriving DecidableEq, Repr

/-- The tenancy class of R371: whose range a session must hold to write the entry. -/
inductive Cls where
  | none | global | ownSnapshot | object | set | feed | feedOrBus | bus | estream | resource | user | tdm
deriving DecidableEq, Repr

/-- The double-buffered table an entry belongs to (R64). -/
inductive Tbl where
  | none | filter | ingress | egress | layout
deriving DecidableEq, Repr

/-- One dictionary entry. -/
structure DEntry where
  idx : Nat
  sub : Nat
  ty : DType
  acc : Acc
  elems : Nat
  dflt : Dflt
  rng : Rng
  lead : Lead
  cls : Cls
  /-- Elements per object, feed, bus or stream of the class. -/
  per : Nat
  kept : Bool
  /-- Read from the machine's own state, not from the stored values. -/
  live : Bool
  /-- Read from the unit the front end reads (R553). -/
  perUnit : Bool
  /-- A zero-cross-stepped gain (R144). -/
  zc : Bool
  /-- A route (R169 and following). -/
  route : Bool
  tbl : Tbl
deriving DecidableEq, Repr

/-- The rows of indices 0x1000 to 0x1200. -/
def dictRows0 : List DEntry :=
  [
    ⟨0x1000, 0x01, .str 16, .const, 1, .empty, .any, .none, .none, 1, false, false, false, false, false, .none⟩, -- PART (R382)
    ⟨0x1000, 0x02, .u 8, .const, 1, .num 177, .any, .none, .none, 1, false, false, false, false, false, .none⟩, -- STEPPING (R382)
    ⟨0x1000, 0x03, .u 64, .const, 1, .cfg, .any, .none, .none, 1, false, false, false, false, false, .none⟩, -- SERIAL (R382)
    ⟨0x1000, 0x04, .u 64, .const, 1, .cfg, .any, .none, .none, 1, false, false, false, false, false, .none⟩, -- MAC_BASE (R382)
    ⟨0x1000, 0x05, .str 16, .const, 1, .cfg, .any, .none, .none, 1, false, false, false, false, false, .none⟩, -- ORDER_CODE (R382)
    ⟨0x1000, 0x06, .u 32, .const, 1, .cfg, .any, .none, .none, 1, false, false, false, false, false, .none⟩, -- MFG_DATE (R382)
    ⟨0x1000, 0x07, .u 32, .const, 1, .num 65536, .any, .none, .none, 1, false, false, false, false, false, .none⟩, -- DICT_VERSION (R382)
    ⟨0x1000, 0x08, .u 32, .ro, 1, .cfg, .any, .none, .none, 1, false, false, false, false, false, .none⟩, -- MGMT_FW_VERSION (R382)
    ⟨0x1000, 0x09, .dom, .ro, 1, .cfg, .any, .none, .none, 1, false, false, false, false, false, .none⟩, -- MGMT_FW_DIGEST (R382)
    ⟨0x1000, 0x0A, .u 32, .ro, 2, .cfg, .any, .none, .none, 1, false, false, false, false, false, .none⟩, -- CTRL_FW_VERSION (R382)
    ⟨0x1000, 0x0B, .dom, .ro, 2, .cfg, .any, .none, .none, 1, false, false, false, false, false, .none⟩, -- CTRL_FW_DIGEST (R382)
    ⟨0x1010, 0x01, .str 64, .rw, 1, .empty, .any, .none, .user, 1, true, false, false, false, false, .none⟩, -- NAME (R383)
    ⟨0x1010, 0x02, .str 64, .rw, 1, .empty, .any, .none, .user, 1, true, false, false, false, false, .none⟩, -- LOCATION (R383)
    ⟨0x1010, 0x03, .str 32, .rw, 1, .empty, .any, .none, .user, 1, true, false, false, false, false, .none⟩, -- ASSET (R383)
    ⟨0x1010, 0x04, .str 128, .rw, 1, .empty, .any, .none, .user, 1, true, false, false, false, false, .none⟩, -- NOTE (R383)
    ⟨0x1010, 0x05, .dom, .rw, 1, .empty, .len 0 256, .none, .user, 1, true, false, false, false, false, .none⟩, -- BLOB (R383)
    ⟨0x1020, 0x01, .u 8, .ro, 1, .num 0, .any, .none, .none, 1, false, false, false, false, false, .none⟩, -- STORE_STATE (R384)
    ⟨0x1020, 0x02, .bool, .wo, 1, .num 0, .bool, .none, .global, 1, false, false, false, false, false, .none⟩, -- STORE_RESET (R384)
    ⟨0x1100, 0x01, .u 8, .ro, 1, .num 0, .any, .none, .none, 1, false, true, false, false, false, .none⟩, -- POWER_STATE (R384)
    ⟨0x1100, 0x02, .u 8, .rw, 1, .num 3, .lohi 1 3, .none, .global, 1, false, false, false, false, false, .none⟩, -- POWER_REQ (R384)
    ⟨0x1100, 0x03, .bool, .rwa, 1, .num 0, .bool, .fixed 2, .global, 1, false, false, false, false, false, .none⟩, -- RENDER (R384)
    ⟨0x1100, 0x04, .sidx, .ro, 1, .num 0, .any, .none, .none, 1, false, false, false, false, false, .none⟩, -- RENDER_BLOCK (R384)
    ⟨0x1200, 0x01, .i 16, .ro, 12, .num 0, .any, .none, .none, 1, false, false, false, false, false, .none⟩, -- TEMP (R385)
    ⟨0x1200, 0x02, .i 16, .ro, 12, .num 0, .any, .none, .none, 1, false, false, false, false, false, .none⟩ -- TEMP_MAX (R385)
  ]

/-- The rows of indices 0x1210 to 0x2003. -/
def dictRows1 : List DEntry :=
  [
    ⟨0x1210, 0x01, .u 16, .ro, 20, .num 0, .any, .none, .none, 1, false, false, false, false, false, .none⟩, -- VOLT (R385)
    ⟨0x1220, 0x01, .u 16, .ro, 24, .num 0, .any, .none, .none, 1, false, false, false, false, false, .none⟩, -- SPEED_INDEX (R385)
    ⟨0x1230, 0x01, .i 16, .const, 1, .num 25600, .any, .none, .none, 1, false, false, false, false, false, .none⟩, -- TJ_WARN (R385)
    ⟨0x1230, 0x02, .i 16, .const, 1, .num 28160, .any, .none, .none, 1, false, false, false, false, false, .none⟩, -- TJ_CRIT (R385)
    ⟨0x1230, 0x03, .i 16, .const, 1, .num 30720, .any, .none, .none, 1, false, false, false, false, false, .none⟩, -- TJ_TRIP (R385)
    ⟨0x1300, 0x01, .i 32, .ro, 2, .num 0, .any, .none, .none, 1, false, false, false, false, false, .none⟩, -- MARGIN_MIN (R385)
    ⟨0x1300, 0x02, .i 32, .ro, 2, .num 0, .any, .none, .none, 1, false, false, false, false, false, .none⟩, -- MARGIN_MEAN (R385)
    ⟨0x1300, 0x03, .u 8, .ro, 2, .num 0, .any, .none, .none, 1, false, false, false, false, false, .none⟩, -- MARGIN_STATE (R385)
    ⟨0x1300, 0x04, .u 32, .ro, 2, .num 0, .any, .none, .none, 1, false, false, false, false, false, .none⟩, -- OVERRUN_BLOCKS (R385)
    ⟨0x1310, 0x01, .u 16, .ro, 1, .num 750, .any, .none, .none, 1, false, false, false, false, false, .none⟩, -- VCORE_SET (R385)
    ⟨0x2001, 0x00, .u 32, .rw, 1, .num 48000, .oneof [48000, 96000], .none, .global, 1, true, false, false, false, false, .none⟩, -- RATE (R70)
    ⟨0x2002, 0x00, .u 8, .rw, 1, .num 4, .lohi 3 32, .none, .global, 1, true, false, false, false, false, .none⟩, -- LATENCY_L (R70)
    ⟨0x2003, 0x00, .sidx, .ro, 1, .num 0, .any, .none, .none, 1, false, true, false, false, false, .none⟩ -- SIDX_NOW (R70)
  ]

/-- The rows of indices 0x2010 to 0x2100. -/
def dictRows2 : List DEntry :=
  [
    ⟨0x2010, 0x01, .u 8, .rw, 1, .num 0, .lohi 0 1, .none, .global, 1, true, false, false, false, false, .none⟩, -- PTP_ROLE (R70)
    ⟨0x2010, 0x02, .u 8, .rw, 1, .num 0, .lohi 0 1, .none, .global, 1, true, false, false, false, false, .none⟩, -- PTP_PROFILE (R70)
    ⟨0x2010, 0x03, .u 8, .rw, 1, .num 127, .lohi 0 127, .none, .global, 1, true, false, false, false, false, .none⟩, -- PTP_DOMAIN (R70)
    ⟨0x2010, 0x04, .u 8, .rw, 1, .num 0, .lohi 0 4, .none, .global, 1, true, false, false, false, false, .none⟩, -- PTP_PORT (R70)
    ⟨0x2010, 0x05, .u 8, .rw, 1, .num 1, .special, .none, .global, 1, true, false, false, false, false, .none⟩, -- PTP_BACKUP (R70)
    ⟨0x2010, 0x06, .u 8, .rw, 1, .num 31, .lohi 0 31, .none, .global, 1, true, false, false, false, false, .none⟩, -- STAMP_POINT (R70)
    ⟨0x2010, 0x07, .u 8, .ro, 1, .num 0, .any, .none, .none, 1, false, true, false, false, false, .none⟩, -- LOCK_STATE (R70)
    ⟨0x2010, 0x08, .i 64, .ro, 1, .num 0, .any, .none, .none, 1, false, true, false, false, false, .none⟩, -- PTP_OFFSET (R70)
    ⟨0x2010, 0x09, .ptp80, .ro, 1, .num 0, .any, .none, .none, 1, false, true, false, false, false, .none⟩, -- PTP_TIME (R70)
    ⟨0x2010, 0x0A, .ptp80, .wo, 1, .num 0, .special, .none, .global, 1, false, false, false, false, false, .none⟩, -- TOD_SET (R70)
    ⟨0x2010, 0x0B, .i 32, .ro, 1, .num 0, .any, .none, .none, 1, false, true, false, false, false, .none⟩, -- MC_OFFSET (R70)
    ⟨0x2010, 0x0C, .u 8, .ro, 1, .num 0, .any, .none, .none, 1, false, true, false, false, false, .none⟩, -- MC_FLAGS (R70)
    ⟨0x2010, 0x0D, .bool, .wo, 1, .num 0, .bool, .none, .global, 1, false, false, false, false, false, .none⟩, -- MC_CLEAR (R70)
    ⟨0x2010, 0x0E, .bool, .rw, 1, .num 1, .bool, .none, .global, 1, false, false, false, false, false, .none⟩, -- MCLK_EN (R70)
    ⟨0x2100, 0x01, .u 8, .rw, 16, .num 0, .any, .none, .resource, 1, false, true, false, false, false, .none⟩, -- OWNER (R66)
    ⟨0x2100, 0x02, .u 8, .rw, 16, .num 0, .lohi 0 5, .none, .resource, 1, false, true, false, false, false, .none⟩, -- ACTION (R66)
    ⟨0x2100, 0x03, .u 8, .rw, 16, .num 0, .special, .none, .resource, 1, false, true, false, false, false, .none⟩, -- TARGET (R66)
    ⟨0x2100, 0x04, .sidx, .rw, 16, .num 0, .any, .none, .resource, 1, false, true, false, false, false, .none⟩, -- START (R66)
    ⟨0x2100, 0x05, .u 32, .rw, 16, .num 0, .special, .none, .resource, 1, false, true, false, false, false, .none⟩, -- PERIOD (R66)
    ⟨0x2100, 0x06, .u 32, .rw, 16, .num 0, .any, .none, .resource, 1, false, true, false, false, false, .none⟩, -- COUNT (R66)
    ⟨0x2100, 0x07, .u 32, .rw, 16, .num 1, .lohi 1 4294967295, .none, .resource, 1, false, true, false, false, false, .none⟩, -- WIDTH (R66)
    ⟨0x2100, 0x08, .u 8, .ro, 16, .num 0, .any, .none, .none, 1, false, true, false, false, false, .none⟩, -- STATE (R66)
    ⟨0x2100, 0x09, .u 32, .ro, 16, .num 0, .any, .none, .none, 1, false, true, false, false, false, .none⟩, -- FIRED (R66)
    ⟨0x2100, 0x0A, .bool, .wo, 16, .num 0, .bool, .none, .resource, 1, false, false, false, false, false, .none⟩ -- DISARM (R66)
  ]

/-- The rows of indices 0x3000 to 0x3020. -/
def dictRows3 : List DEntry :=
  [
    ⟨0x3000, 0x01, .u 8, .rw, 5, .special, .special, .none, .global, 1, true, false, false, false, false, .none⟩, -- SPEED (R300)
    ⟨0x3000, 0x02, .u 8, .rw, 5, .num 3, .lohi 0 3, .none, .global, 1, true, false, false, false, false, .none⟩, -- FEC_EN (R300)
    ⟨0x3000, 0x03, .u 64, .rw, 5, .special, .lohi 0 281474976710655, .none, .global, 1, true, false, false, false, false, .none⟩, -- MAC_ADDR (R300)
    ⟨0x3000, 0x04, .u 16, .rw, 5, .num 1518, .lohi 1518 9216, .none, .global, 1, true, false, false, false, false, .none⟩, -- MAX_FRAME (R300)
    ⟨0x3000, 0x05, .u 8, .rw, 5, .num 0, .lohi 0 7, .none, .global, 1, true, false, false, false, false, .none⟩, -- RX_VLAN (R300)
    ⟨0x3000, 0x06, .u 32, .rw, 5, .num 0, .any, .none, .global, 1, true, false, false, false, false, .none⟩, -- IPV4_ADDR (R300)
    ⟨0x3000, 0x07, .u 32, .rw, 5, .num 0, .special, .none, .global, 1, true, false, false, false, false, .none⟩, -- IPV4_MASK (R300)
    ⟨0x3000, 0x08, .u 32, .rw, 5, .num 0, .any, .none, .global, 1, true, false, false, false, false, .none⟩, -- IPV4_GW (R300)
    ⟨0x3000, 0x09, .u 8, .ro, 5, .num 0, .any, .none, .none, 1, true, true, false, false, false, .none⟩, -- LINK (R300)
    ⟨0x3000, 0x0A, .u 32, .rw, 5, .num 0, .special, .none, .global, 1, true, false, false, false, false, .none⟩, -- PHY_RX_LAT (R300)
    ⟨0x3000, 0x0B, .u 32, .rw, 5, .num 0, .special, .none, .global, 1, true, false, false, false, false, .none⟩, -- PHY_TX_LAT (R300)
    ⟨0x3000, 0x0C, .bool, .rw, 5, .num 0, .special, .none, .global, 1, true, false, false, false, false, .none⟩, -- WAKE_EN (R300)
    ⟨0x3000, 0x0D, .dom, .wo, 5, .empty, .special, .none, .global, 1, true, false, false, false, false, .none⟩, -- WAKE_TOKEN (R300)
    ⟨0x3000, 0x0E, .u 8, .ro, 5, .num 0, .any, .none, .none, 1, false, true, false, false, false, .none⟩, -- WAKE_REASON (R300)
    ⟨0x3010, 0x01, .u 16, .rw, 80, .num 0, .lohi 0 4094, .none, .global, 1, true, false, false, false, false, .none⟩, -- VLAN_ID (R300)
    ⟨0x3020, 0x01, .u 32, .ro, 5, .num 0, .any, .none, .none, 1, false, false, false, false, false, .none⟩, -- P_RUNT (R338)
    ⟨0x3020, 0x02, .u 32, .ro, 5, .num 0, .any, .none, .none, 1, false, false, false, false, false, .none⟩, -- P_GIANT (R338)
    ⟨0x3020, 0x03, .u 32, .ro, 5, .num 0, .any, .none, .none, 1, false, false, false, false, false, .none⟩, -- P_FCS_ERR (R338)
    ⟨0x3020, 0x04, .u 32, .ro, 5, .num 0, .any, .none, .none, 1, false, false, false, false, false, .none⟩, -- P_VLAN_DROP (R338)
    ⟨0x3020, 0x05, .u 32, .ro, 5, .num 0, .any, .none, .none, 1, false, false, false, false, false, .none⟩, -- P_FILTER_DROP (R338)
    ⟨0x3020, 0x06, .u 32, .ro, 5, .num 0, .any, .none, .none, 1, false, false, false, false, false, .none⟩, -- P_NOBUF_DROP (R338)
    ⟨0x3020, 0x07, .u 32, .ro, 5, .num 0, .any, .none, .none, 1, false, false, false, false, false, .none⟩, -- P_RX_OVF_DROP (R338)
    ⟨0x3020, 0x08, .u 32, .ro, 5, .num 0, .any, .none, .none, 1, false, false, false, false, false, .none⟩, -- P_TX_DESC_ERR (R338)
    ⟨0x3020, 0x09, .bool, .wo, 5, .num 0, .bool, .none, .global, 1, false, false, false, false, false, .none⟩ -- CNT_CLR (R338)
  ]

/-- The rows of indices 0x3100 to 0x3200. -/
def dictRows4 : List DEntry :=
  [
    ⟨0x3100, 0x01, .u 64, .rwa, 160, .num 0, .lohi 0 281474976710655, .network, .global, 1, false, false, false, false, false, .filter⟩, -- EXACT_ADDR (R306)
    ⟨0x3100, 0x02, .u 8, .rwa, 160, .num 255, .special, .network, .global, 1, false, false, false, false, false, .filter⟩, -- EXACT_RING (R306)
    ⟨0x3110, 0x01, .u 64, .rwa, 320, .num 0, .special, .network, .global, 1, false, false, false, false, false, .filter⟩, -- GROUP_ADDR (R306)
    ⟨0x3120, 0x01, .sidx, .ro, 1, .num 0, .any, .none, .none, 1, false, false, false, false, false, .none⟩, -- FLT_SWITCHED (R306)
    ⟨0x3120, 0x02, .sidx, .ro, 1, .num 0, .any, .none, .none, 1, false, true, false, false, false, .none⟩, -- FLT_PENDING (R306)
    ⟨0x3200, 0x01, .bool, .rwa, 128, .num 0, .bool, .network, .global, 1, false, false, false, false, false, .ingress⟩, -- IS_ENABLE (R326)
    ⟨0x3200, 0x02, .u 8, .rwa, 128, .num 0, .lohi 0 1, .network, .global, 1, false, false, false, false, false, .ingress⟩, -- IS_PAIR (R326)
    ⟨0x3200, 0x03, .u 8, .rwa, 128, .num 3, .lohi 1 3, .network, .global, 1, false, false, false, false, false, .ingress⟩, -- IS_LEGS (R326)
    ⟨0x3200, 0x04, .u 8, .rwa, 128, .num 0, .lohi 0 1, .network, .global, 1, false, false, false, false, false, .ingress⟩, -- IS_ENC (R326)
    ⟨0x3200, 0x05, .u 8, .rwa, 128, .num 1, .lohi 1 64, .network, .global, 1, false, false, false, false, false, .ingress⟩, -- IS_CHANNELS (R326)
    ⟨0x3200, 0x06, .u 16, .rwa, 128, .num 0, .lohi 0 1279, .network, .global, 1, false, false, false, false, false, .ingress⟩, -- IS_FIRST_CH (R326)
    ⟨0x3200, 0x07, .u 8, .rwa, 128, .num 97, .lohi 96 127, .network, .global, 1, false, false, false, false, false, .ingress⟩, -- IS_PT (R326)
    ⟨0x3200, 0x08, .u 32, .rwa, 128, .num 0, .any, .network, .global, 1, false, false, false, false, false, .ingress⟩, -- IS_RTP_OFS (R326)
    ⟨0x3200, 0x10, .u 8, .ro, 128, .num 0, .any, .none, .none, 1, false, false, false, false, false, .none⟩, -- IS_STATE (R326)
    ⟨0x3200, 0x11, .u 32, .ro, 128, .num 0, .any, .none, .none, 1, false, false, false, false, false, .none⟩, -- IS_CONCEALED (R326)
    ⟨0x3200, 0x12, .u 32, .ro, 128, .num 0, .any, .none, .none, 1, false, false, false, false, false, .none⟩, -- IS_LATE (R326)
    ⟨0x3200, 0x13, .u 32, .ro, 128, .num 0, .any, .none, .none, 1, false, false, false, false, false, .none⟩, -- IS_EARLY (R326)
    ⟨0x3200, 0x14, .u 32, .ro, 128, .num 0, .any, .none, .none, 1, false, false, false, false, false, .none⟩, -- IS_MISMATCH (R326)
    ⟨0x3200, 0x15, .u 32, .ro, 128, .num 0, .any, .none, .none, 1, false, false, false, false, false, .none⟩, -- IS_FORMAT_DROP (R326)
    ⟨0x3200, 0x16, .bool, .wo, 128, .num 0, .bool, .none, .global, 1, false, false, false, false, false, .none⟩ -- IS_CLR (R326)
  ]

/-- The rows of indices 0x3210 to 0x3400. -/
def dictRows5 : List DEntry :=
  [
    ⟨0x3210, 0x01, .u 32, .rwa, 256, .num 0, .special, .network, .global, 1, false, false, false, false, false, .ingress⟩, -- IS_DST_IP (R326)
    ⟨0x3210, 0x02, .u 16, .rwa, 256, .num 5004, .lohi 1 65535, .network, .global, 1, false, false, false, false, false, .ingress⟩, -- IS_DST_PORT (R326)
    ⟨0x3210, 0x03, .u 32, .rwa, 256, .num 0, .any, .network, .global, 1, false, false, false, false, false, .ingress⟩, -- IS_SRC_IP (R326)
    ⟨0x3210, 0x04, .u 32, .ro, 256, .num 0, .any, .none, .none, 1, false, false, false, false, false, .none⟩, -- IS_LOST (R326)
    ⟨0x3210, 0x05, .u 32, .ro, 256, .num 0, .any, .none, .none, 1, false, false, false, false, false, .none⟩, -- IS_DUP (R326)
    ⟨0x3210, 0x06, .u 32, .ro, 256, .num 0, .any, .none, .none, 1, false, false, false, false, false, .none⟩, -- IS_PKTS (R326)
    ⟨0x3300, 0x01, .u 16, .rwa, 1024, .elem 0, .special, .network, .object, 1, false, false, false, false, false, .ingress⟩, -- OBJ_SRC (R325)
    ⟨0x3300, 0x02, .u 16, .rwa, 256, .elem 1024, .special, .network, .global, 1, false, false, false, false, false, .ingress⟩, -- AUX_SRC (R325)
    ⟨0x3400, 0x01, .bool, .rwa, 128, .num 0, .bool, .network, .estream, 1, false, false, false, false, false, .egress⟩, -- ES_ENABLE (R329)
    ⟨0x3400, 0x02, .u 8, .rwa, 128, .num 0, .lohi 0 1, .network, .estream, 1, false, false, false, false, false, .egress⟩, -- ES_PAIR (R329)
    ⟨0x3400, 0x03, .u 8, .rwa, 128, .num 3, .lohi 1 3, .network, .estream, 1, false, false, false, false, false, .egress⟩, -- ES_LEGS (R329)
    ⟨0x3400, 0x04, .u 8, .rwa, 128, .num 0, .lohi 0 1, .network, .estream, 1, false, false, false, false, false, .egress⟩, -- ES_ENC (R329)
    ⟨0x3400, 0x05, .u 8, .rwa, 128, .num 1, .lohi 1 64, .network, .estream, 1, false, false, false, false, false, .egress⟩, -- ES_CHANNELS (R329)
    ⟨0x3400, 0x06, .u 8, .rwa, 128, .num 3, .lohi 0 4, .network, .estream, 1, false, false, false, false, false, .egress⟩, -- ES_PTIME (R329)
    ⟨0x3400, 0x07, .u 8, .rwa, 128, .num 97, .lohi 96 127, .network, .estream, 1, false, false, false, false, false, .egress⟩, -- ES_PT (R329)
    ⟨0x3400, 0x08, .u 32, .rwa, 128, .num 0, .any, .network, .estream, 1, false, false, false, false, false, .egress⟩, -- ES_RTP_OFS (R329)
    ⟨0x3400, 0x09, .u 32, .rwa, 128, .elem 0x57000000, .any, .network, .estream, 1, false, false, false, false, false, .egress⟩, -- ES_SSRC (R329)
    ⟨0x3400, 0x0A, .u 16, .rwa, 128, .num 0, .lohi 0 4094, .network, .estream, 1, false, false, false, false, false, .egress⟩, -- ES_VLAN (R329)
    ⟨0x3400, 0x0B, .u 8, .rwa, 128, .num 5, .lohi 0 7, .network, .estream, 1, false, false, false, false, false, .egress⟩, -- ES_PCP (R329)
    ⟨0x3400, 0x0C, .u 8, .rwa, 128, .num 34, .lohi 0 63, .network, .estream, 1, false, false, false, false, false, .egress⟩, -- ES_DSCP (R329)
    ⟨0x3400, 0x0D, .u 8, .rwa, 128, .num 64, .lohi 1 255, .network, .estream, 1, false, false, false, false, false, .egress⟩, -- ES_TTL (R329)
    ⟨0x3400, 0x0E, .bool, .rw, 128, .num 0, .bool, .none, .estream, 1, false, false, false, false, false, .none⟩, -- ES_ANNOUNCE (R329)
    ⟨0x3400, 0x10, .u 8, .ro, 128, .num 0, .any, .none, .none, 1, false, false, false, false, false, .none⟩, -- ES_STATE (R329)
    ⟨0x3400, 0x11, .u 32, .ro, 128, .num 0, .any, .none, .none, 1, false, false, false, false, false, .none⟩ -- ES_PKTS (R329)
  ]

/-- The rows of indices 0x3410 to 0x3800. -/
def dictRows6 : List DEntry :=
  [
    ⟨0x3410, 0x01, .u 32, .rwa, 256, .num 0, .any, .network, .estream, 2, false, false, false, false, false, .egress⟩, -- ES_DST_IP (R329)
    ⟨0x3410, 0x02, .u 16, .rwa, 256, .num 5004, .lohi 1 65535, .network, .estream, 2, false, false, false, false, false, .egress⟩, -- ES_DST_PORT (R329)
    ⟨0x3410, 0x03, .u 16, .rwa, 256, .num 5004, .lohi 1 65535, .network, .estream, 2, false, false, false, false, false, .egress⟩, -- ES_SRC_PORT (R329)
    ⟨0x3500, 0x01, .u 16, .rwa, 1280, .special, .special, .fixed 2, .feedOrBus, 1, false, false, false, false, true, .none⟩, -- EG_SRC (R169)
    ⟨0x3500, 0x02, .db16, .rwa, 1280, .num 0, .lohi (-32768) 6144, .fixed 2, .feedOrBus, 1, false, false, false, true, false, .none⟩, -- EG_GAIN (R169)
    ⟨0x3500, 0x03, .u 16, .rwa, 1280, .num 0, .xf, .fixed 2, .feedOrBus, 1, false, false, false, false, false, .none⟩, -- EG_XF_LEN (R169)
    ⟨0x3500, 0x04, .u 8, .rwa, 1280, .num 0, .lohi 0 1, .fixed 2, .feedOrBus, 1, false, false, false, false, false, .none⟩, -- EG_XF_LAW (R169)
    ⟨0x3600, 0x01, .u 16, .rwa, 8192, .num 65535, .ch1280, .network, .estream, 64, false, false, false, false, false, .egress⟩, -- ES_MAP (R329)
    ⟨0x3700, 0x01, .u 8, .rw, 1, .num 0, .any, .none, .resource, 1, false, true, false, false, false, .none⟩, -- TDM7_OWNER (R388)
    ⟨0x3700, 0x02, .u 8, .ro, 1, .num 0, .any, .none, .none, 1, false, true, false, false, false, .none⟩, -- TDM7_USE (R388)
    ⟨0x3710, 0x01, .bool, .rwa, 8, .num 0, .bool, .fixed 2, .tdm, 1, false, false, false, false, false, .none⟩, -- TDM_EN (R337)
    ⟨0x3710, 0x02, .u 8, .rw, 8, .num 8, .oneof [2, 4, 8, 16, 32], .none, .tdm, 1, false, false, false, false, false, .none⟩, -- TDM_SLOTS (R337)
    ⟨0x3710, 0x03, .u 8, .rw, 8, .num 1, .lohi 0 15, .none, .tdm, 1, false, false, false, false, false, .none⟩, -- TDM_FORMAT (R337)
    ⟨0x3710, 0x04, .u 16, .rwa, 8, .num 65535, .ch1280, .network, .tdm, 1, false, false, false, false, false, .ingress⟩, -- TDM_IN_FIRST (R337)
    ⟨0x3710, 0x05, .u 8, .ro, 8, .num 0, .any, .none, .none, 1, false, true, false, false, false, .none⟩, -- TDM_STATE (R337)
    ⟨0x3710, 0x06, .u 32, .ro, 8, .num 0, .any, .none, .none, 1, false, true, false, false, false, .none⟩, -- TDM_FRAMES (R337)
    ⟨0x3720, 0x01, .u 16, .rwa, 256, .num 65535, .ch1280, .network, .tdm, 32, false, false, false, false, false, .egress⟩, -- TDM_OUT_MAP (R337)
    ⟨0x3800, 0x01, .u 8, .rw, 24, .num 0, .any, .none, .resource, 1, false, true, false, false, false, .none⟩, -- GPIO_OWNER (R389)
    ⟨0x3800, 0x02, .u 8, .rw, 24, .num 0, .lohi 0 3, .none, .resource, 1, false, false, false, false, false, .none⟩, -- GPIO_FUNC (R389)
    ⟨0x3800, 0x03, .u 8, .rw, 24, .num 0, .lohi 0 1, .none, .resource, 1, false, false, false, false, false, .none⟩, -- GPIO_POL (R389)
    ⟨0x3800, 0x04, .bool, .rw, 24, .num 0, .bool, .none, .resource, 1, false, false, false, false, false, .none⟩, -- GPIO_OUT (R389)
    ⟨0x3800, 0x05, .bool, .ro, 24, .num 0, .any, .none, .none, 1, false, true, false, false, false, .none⟩ -- GPIO_IN (R389)
  ]

/-- The rows of indices 0x3900 to 0x3C30. -/
def dictRows7 : List DEntry :=
  [
    ⟨0x3900, 0x01, .dom, .ro, 128, .empty, .any, .none, .none, 1, false, false, false, false, false, .none⟩, -- SDP_TEXT (R331)
    ⟨0x3900, 0x02, .u 8, .ro, 128, .num 0, .any, .none, .none, 1, false, false, false, false, false, .none⟩, -- SDP_PORT (R331)
    ⟨0x3900, 0x03, .u 32, .ro, 128, .num 0, .any, .none, .none, 1, false, false, false, false, false, .none⟩, -- SDP_AGE (R331)
    ⟨0x3900, 0x05, .dom, .ro, 128, .empty, .any, .none, .none, 1, false, true, false, false, false, .none⟩, -- SDP_OWN (R331)
    ⟨0x3C00, 0x01, .bool, .ro, 4, .num 0, .any, .none, .none, 1, false, false, false, false, false, .none⟩, -- SFP_PRESENT (R278)
    ⟨0x3C00, 0x02, .dom, .ro, 4, .zeros 256, .any, .none, .none, 1, false, false, false, false, false, .none⟩, -- SFP_ID (R278)
    ⟨0x3C00, 0x03, .dom, .ro, 4, .zeros 256, .any, .none, .none, 1, false, false, false, false, false, .none⟩, -- SFP_DIAG (R278)
    ⟨0x3C00, 0x04, .u 16, .ro, 4, .num 0, .any, .none, .none, 1, false, false, false, false, false, .none⟩, -- SFP_FLAGS (R278)
    ⟨0x3C00, 0x05, .u 16, .ro, 4, .num 0, .any, .none, .none, 1, false, false, false, false, false, .none⟩, -- SFP_I2C_ERR (R278)
    ⟨0x3C10, 0x01, .u 8, .ro, 4, .num 0, .any, .none, .none, 1, false, false, false, false, false, .none⟩, -- AN_STATE (R279)
    ⟨0x3C10, 0x02, .u 64, .ro, 4, .num 0, .any, .none, .none, 1, false, false, false, false, false, .none⟩, -- AN_PARTNER (R279)
    ⟨0x3C10, 0x03, .u 8, .ro, 4, .num 0, .any, .none, .none, 1, false, false, false, false, false, .none⟩, -- AN_FEC (R279)
    ⟨0x3C20, 0x01, .u 32, .ro, 5, .num 0, .any, .none, .none, 1, false, false, false, false, false, .none⟩, -- PD_DELAY (R281)
    ⟨0x3C20, 0x02, .u 8, .ro, 5, .num 0, .any, .none, .none, 1, false, false, false, false, false, .none⟩, -- PD_VALID (R281)
    ⟨0x3C20, 0x03, .u 16, .rw, 5, .num 44564, .lohi 6554 65535, .none, .global, 1, true, false, false, false, false, .none⟩, -- PD_VF (R281)
    ⟨0x3C20, 0x04, .u 32, .rw, 5, .num 0, .lohi 0 100000, .none, .global, 1, true, false, false, false, false, .none⟩, -- PD_FIXED (R281)
    ⟨0x3C20, 0x05, .u 32, .ro, 5, .num 0, .any, .none, .none, 1, false, false, false, false, false, .none⟩, -- PD_LENGTH (R281)
    ⟨0x3C30, 0x01, .bool, .wo, 8, .num 0, .bool, .none, .global, 1, false, false, false, false, false, .none⟩, -- RNG_GO (R283)
    ⟨0x3C30, 0x02, .u 8, .rw, 8, .num 31, .special, .none, .global, 1, false, false, false, false, false, .none⟩, -- RNG_SLOT (R283)
    ⟨0x3C30, 0x03, .u 8, .ro, 8, .num 0, .any, .none, .none, 1, false, false, false, false, false, .none⟩, -- RNG_STATE (R283)
    ⟨0x3C30, 0x04, .u 32, .ro, 8, .num 0, .any, .none, .none, 1, false, false, false, false, false, .none⟩ -- RNG_NS (R283)
  ]

/-- The rows of indices 0x4000 to 0x4000. -/
def dictRows8 : List DEntry :=
  [
    ⟨0x4000, 0x01, .bool, .rwa, 1024, .num 0, .bool, .fixed 2, .object, 1, false, false, false, false, false, .none⟩, -- OBJ_ENABLE (R79)
    ⟨0x4000, 0x02, .u 8, .rwa, 1024, .num 0, .lohi 0 4, .fixed 2, .object, 1, false, false, false, false, false, .none⟩, -- LAW (R79)
    ⟨0x4000, 0x03, .u 64, .rwa, 1024, .num 0, .any, .fixed 2, .object, 1, false, false, false, false, true, .none⟩, -- SET_MASK (R79)
    ⟨0x4000, 0x04, .u 16, .rwa, 1024, .num 0, .any, .fixed 2, .object, 1, false, false, false, false, false, .none⟩, -- SPREAD (R79)
    ⟨0x4000, 0x05, .u 8, .rwa, 1024, .num 0, .lohi 0 1, .fixed 2, .object, 1, false, false, false, false, false, .none⟩, -- INTERP (R79)
    ⟨0x4000, 0x06, .u 8, .rwa, 1024, .num 0, .lohi 0 1, .fixed 2, .object, 1, false, false, false, false, false, .none⟩, -- DELAY_MODE (R79)
    ⟨0x4000, 0x07, .dly29, .rwa, 1024, .num 0, .any, .fixed 2, .object, 1, false, false, false, false, false, .none⟩, -- OBJ_DELAY (R79)
    ⟨0x4000, 0x08, .gain24, .rwa, 1024, .num 2097152, .any, .fixed 2, .object, 1, false, false, false, false, false, .none⟩, -- DIRECT_GAIN (R79)
    ⟨0x4000, 0x09, .u 8, .rwa, 1024, .num 0, .lohi 0 1, .fixed 2, .object, 1, false, false, false, false, false, .none⟩, -- TRAJ_SRC (R79)
    ⟨0x4000, 0x0A, .pos32, .rwa, 1024, .num 0, .any, .fixed 2, .object, 1, false, false, false, false, false, .none⟩, -- OBJ_POS_X (R79)
    ⟨0x4000, 0x0B, .pos32, .rwa, 1024, .num 0, .any, .fixed 2, .object, 1, false, false, false, false, false, .none⟩, -- OBJ_POS_Y (R79)
    ⟨0x4000, 0x0C, .pos32, .rwa, 1024, .num 0, .any, .fixed 2, .object, 1, false, false, false, false, false, .none⟩, -- OBJ_POS_Z (R79)
    ⟨0x4000, 0x0D, .db16, .rwa, 1024, .num 0, .lohi (-32768) 6144, .fixed 2, .object, 1, false, false, false, true, false, .none⟩, -- OBJ_TRIM (R79)
    ⟨0x4000, 0x0E, .db16, .rwa, 1024, .num 1536, .lohi 0 3072, .fixed 2, .object, 1, false, false, false, false, false, .none⟩, -- ROLLOFF (R79)
    ⟨0x4000, 0x10, .coef32, .rwa, 1024, .special, .any, .fixed 2, .object, 1, false, false, false, false, false, .none⟩, -- OBQ (R79)
    ⟨0x4000, 0x11, .coef32, .rwa, 1024, .special, .any, .fixed 2, .object, 1, false, false, false, false, false, .none⟩, -- OBQ (R79)
    ⟨0x4000, 0x12, .coef32, .rwa, 1024, .special, .any, .fixed 2, .object, 1, false, false, false, false, false, .none⟩, -- OBQ (R79)
    ⟨0x4000, 0x13, .coef32, .rwa, 1024, .special, .any, .fixed 2, .object, 1, false, false, false, false, false, .none⟩, -- OBQ (R79)
    ⟨0x4000, 0x14, .coef32, .rwa, 1024, .special, .any, .fixed 2, .object, 1, false, false, false, false, false, .none⟩, -- OBQ (R79)
    ⟨0x4000, 0x15, .coef32, .rwa, 1024, .special, .any, .fixed 2, .object, 1, false, false, false, false, false, .none⟩, -- OBQ (R79)
    ⟨0x4000, 0x16, .coef32, .rwa, 1024, .special, .any, .fixed 2, .object, 1, false, false, false, false, false, .none⟩, -- OBQ (R79)
    ⟨0x4000, 0x17, .coef32, .rwa, 1024, .special, .any, .fixed 2, .object, 1, false, false, false, false, false, .none⟩, -- OBQ (R79)
    ⟨0x4000, 0x18, .coef32, .rwa, 1024, .special, .any, .fixed 2, .object, 1, false, false, false, false, false, .none⟩, -- OBQ (R79)
    ⟨0x4000, 0x19, .coef32, .rwa, 1024, .special, .any, .fixed 2, .object, 1, false, false, false, false, false, .none⟩, -- OBQ (R79)
    ⟨0x4000, 0x1A, .coef32, .rwa, 1024, .special, .any, .fixed 2, .object, 1, false, false, false, false, false, .none⟩, -- OBQ (R79)
    ⟨0x4000, 0x1B, .coef32, .rwa, 1024, .special, .any, .fixed 2, .object, 1, false, false, false, false, false, .none⟩, -- OBQ (R79)
    ⟨0x4000, 0x1C, .coef32, .rwa, 1024, .special, .any, .fixed 2, .object, 1, false, false, false, false, false, .none⟩, -- OBQ (R79)
    ⟨0x4000, 0x1D, .coef32, .rwa, 1024, .special, .any, .fixed 2, .object, 1, false, false, false, false, false, .none⟩, -- OBQ (R79)
    ⟨0x4000, 0x1E, .coef32, .rwa, 1024, .special, .any, .fixed 2, .object, 1, false, false, false, false, false, .none⟩, -- OBQ (R79)
    ⟨0x4000, 0x1F, .coef32, .rwa, 1024, .special, .any, .fixed 2, .object, 1, false, false, false, false, false, .none⟩, -- OBQ (R79)
    ⟨0x4000, 0x20, .coef32, .rwa, 1024, .special, .any, .fixed 2, .object, 1, false, false, false, false, false, .none⟩, -- OBQ (R79)
    ⟨0x4000, 0x21, .coef32, .rwa, 1024, .special, .any, .fixed 2, .object, 1, false, false, false, false, false, .none⟩, -- OBQ (R79)
    ⟨0x4000, 0x22, .coef32, .rwa, 1024, .special, .any, .fixed 2, .object, 1, false, false, false, false, false, .none⟩, -- OBQ (R79)
    ⟨0x4000, 0x23, .coef32, .rwa, 1024, .special, .any, .fixed 2, .object, 1, false, false, false, false, false, .none⟩, -- OBQ (R79)
    ⟨0x4000, 0x30, .u 16, .ro, 1024, .num 0, .any, .none, .none, 1, false, false, true, false, false, .none⟩, -- OBJ_STATUS (R79)
    ⟨0x4000, 0x31, .u 16, .wo, 1024, .num 0, .any, .none, .object, 1, false, false, false, false, false, .none⟩, -- OBJ_STATUS_CLR (R79)
    ⟨0x4000, 0x32, .u 32, .ro, 1024, .num 0, .any, .none, .none, 1, false, false, true, false, false, .none⟩, -- PAIR_UNITS (R79)
    ⟨0x4000, 0x33, .u 32, .ro, 1024, .num 0, .any, .none, .none, 1, false, false, true, false, false, .none⟩, -- CLAMP_COUNT (R130)
    ⟨0x4000, 0x34, .u 32, .ro, 1024, .num 0, .any, .none, .none, 1, false, false, true, false, false, .none⟩, -- SLOPE_COUNT (R130)
    ⟨0x4000, 0x35, .u 16, .ro, 1024, .num 0, .any, .none, .none, 1, false, false, true, false, false, .none⟩, -- KF_DROPS (R79)
    ⟨0x4000, 0x36, .u 16, .rwa, 1024, .num 512, .xf, .fixed 2, .object, 1, false, false, false, false, false, .none⟩, -- XF_LEN (R170)
    ⟨0x4000, 0x37, .u 8, .rwa, 1024, .num 1, .lohi 0 1, .fixed 2, .object, 1, false, false, false, false, false, .none⟩ -- XF_LAW (R170)
  ]

/-- The rows of indices 0x4100 to 0x5100. -/
def dictRows9 : List DEntry :=
  [
    ⟨0x4100, 0x01, .dom, .wo, 1024, .empty, .special, .none, .object, 1, false, false, false, false, false, .none⟩, -- KEYFRAMES (R82)
    ⟨0x4100, 0x02, .u 8, .ro, 1024, .num 0, .any, .none, .none, 1, false, false, true, false, false, .none⟩, -- KF_LEVEL (R82)
    ⟨0x5000, 0x01, .pos32, .rwa, 1024, .num 0, .any, .layout, .feed, 1, false, false, false, false, false, .layout⟩, -- FEED_POS_X (R72)
    ⟨0x5000, 0x02, .pos32, .rwa, 1024, .num 0, .any, .layout, .feed, 1, false, false, false, false, false, .layout⟩, -- FEED_POS_Y (R72)
    ⟨0x5000, 0x03, .pos32, .rwa, 1024, .num 0, .any, .layout, .feed, 1, false, false, false, false, false, .layout⟩, -- FEED_POS_Z (R72)
    ⟨0x5000, 0x04, .dir16, .rwa, 1024, .num (-16384), .any, .layout, .feed, 1, false, false, false, false, false, .layout⟩, -- NORM_X (R72)
    ⟨0x5000, 0x05, .dir16, .rwa, 1024, .num 0, .any, .layout, .feed, 1, false, false, false, false, false, .layout⟩, -- NORM_Y (R72)
    ⟨0x5000, 0x06, .dir16, .rwa, 1024, .num 0, .any, .layout, .feed, 1, false, false, false, false, false, .layout⟩, -- NORM_Z (R72)
    ⟨0x5000, 0x07, .u 64, .rwa, 1024, .num 0, .any, .layout, .feed, 1, false, false, false, false, false, .layout⟩, -- SET_MEMBERS (R72)
    ⟨0x5000, 0x08, .gain24, .rwa, 1024, .num 2097152, .lohi 0 2097152, .layout, .feed, 1, false, false, false, false, false, .layout⟩, -- TAPER (R72)
    ⟨0x5000, 0x09, .i 32, .rwa, 1024, .num 0, .lohi (-2097152) 2097152, .fixed 2, .feed, 1, false, false, false, false, false, .none⟩, -- FINE_OFS (R72)
    ⟨0x5000, 0x0A, .u 8, .ro, 1024, .num 0, .any, .none, .none, 1, false, true, false, false, false, .none⟩, -- FEED_GEO_STATUS (R72)
    ⟨0x5100, 0x01, .u 8, .rwa, 64, .num 0, .lohi 0 1, .layout, .set, 1, false, false, false, false, false, .layout⟩, -- DIM (R75)
    ⟨0x5100, 0x02, .u 8, .rwa, 64, .num 0, .lohi 0 63, .layout, .set, 1, false, false, false, false, false, .layout⟩, -- VIRTUAL (R75)
    ⟨0x5100, 0x03, .gain24, .rwa, 64, .num 2097152, .lohi 0 8388607, .layout, .set, 1, false, false, false, false, false, .layout⟩, -- DF_GAIN (R75)
    ⟨0x5100, 0x04, .u 8, .rwa, 64, .num 0, .lohi 0 1, .layout, .set, 1, false, false, false, false, false, .layout⟩, -- TRI_SRC (R75)
    ⟨0x5100, 0x05, .dom, .rwa, 64, .empty, .special, .layout, .set, 1, false, false, false, false, false, .layout⟩, -- TRI_LIST (R75)
    ⟨0x5100, 0x06, .str 32, .rw, 64, .empty, .any, .none, .set, 1, false, false, false, false, false, .none⟩, -- SET_NAME (R75)
    ⟨0x5100, 0x07, .u 8, .ro, 64, .num 0, .any, .none, .none, 1, false, true, false, false, false, .none⟩, -- SET_STATUS (R75)
    ⟨0x5100, 0x08, .u 16, .ro, 64, .num 0, .any, .none, .none, 1, false, true, false, false, false, .none⟩ -- TRI_COUNT (R75)
  ]

/-- The rows of indices 0x6000 to 0x6100. -/
def dictRows10 : List DEntry :=
  [
    ⟨0x6000, 0x01, .db16, .rwa, 1024, .num 0, .lohi (-32768) 6144, .fixed 2, .feed, 1, false, false, false, true, false, .none⟩, -- FEED_TRIM (R164)
    ⟨0x6000, 0x02, .bool, .rwa, 1024, .num 0, .bool, .fixed 2, .feed, 1, false, false, false, false, false, .none⟩, -- MUTE (R164)
    ⟨0x6000, 0x03, .bool, .rwa, 1024, .num 0, .bool, .fixed 2, .feed, 1, false, false, false, false, false, .none⟩, -- POLARITY (R164)
    ⟨0x6000, 0x04, .u 32, .rwa, 1024, .num 0, .special, .fixed 2, .feed, 1, false, false, false, false, true, .none⟩, -- BULK (R164)
    ⟨0x6000, 0x05, .u 16, .rwa, 1024, .num 512, .xf, .fixed 2, .feed, 1, false, false, false, false, false, .none⟩, -- BULK_XF (R164)
    ⟨0x6000, 0x06, .u 8, .rwa, 1024, .num 255, .special, .fixed 128, .feed, 1, false, false, false, false, false, .none⟩, -- CORR_SLOT (R196)
    ⟨0x6000, 0x07, .u 16, .ro, 1024, .num 0, .any, .none, .none, 1, false, false, true, false, false, .none⟩, -- FEED_STATUS (R164)
    ⟨0x6000, 0x08, .u 16, .wo, 1024, .num 0, .any, .none, .feed, 1, false, false, false, false, false, .none⟩, -- FEED_STATUS_CLR (R164)
    ⟨0x6000, 0x09, .u 16, .rwa, 1024, .num 1024, .xf, .fixed 2, .feed, 1, false, false, false, false, false, .none⟩, -- CORR_XF_LEN (R196)
    ⟨0x6000, 0x0A, .u 16, .ro, 1024, .num 1, .any, .none, .none, 1, false, false, true, false, false, .none⟩, -- CORR_TAPS (R196)
    ⟨0x6000, 0x0B, .bool, .ro, 1024, .num 0, .any, .none, .none, 1, false, false, true, false, false, .none⟩, -- CORR_FADE (R196)
    ⟨0x6100, 0x01, .coef32, .rwa, 16384, .num 268435456, .any, .fixed 2, .feed, 16, false, false, false, false, false, .none⟩, -- BQ_B0 (R149)
    ⟨0x6100, 0x02, .coef32, .rwa, 16384, .num 0, .any, .fixed 2, .feed, 16, false, false, false, false, false, .none⟩, -- BQ_B1 (R149)
    ⟨0x6100, 0x03, .coef32, .rwa, 16384, .num 0, .any, .fixed 2, .feed, 16, false, false, false, false, false, .none⟩, -- BQ_B2 (R149)
    ⟨0x6100, 0x04, .coef32, .rwa, 16384, .num 0, .any, .fixed 2, .feed, 16, false, false, false, false, false, .none⟩, -- BQ_A1 (R149)
    ⟨0x6100, 0x05, .coef32, .rwa, 16384, .num 0, .any, .fixed 2, .feed, 16, false, false, false, false, false, .none⟩ -- BQ_A2 (R149)
  ]

/-- The rows of indices 0x6200 to 0x6210. -/
def dictRows11 : List DEntry :=
  [
    ⟨0x6200, 0x01, .dom, .wo, 8, .empty, .special, .none, .global, 1, false, false, false, false, false, .none⟩, -- CS_IMAGE (R195)
    ⟨0x6200, 0x02, .bool, .rwa, 8, .num 0, .oneof [1], .fixed 1024, .global, 1, false, false, false, false, false, .none⟩, -- CS_COMMIT (R195)
    ⟨0x6200, 0x03, .bool, .wo, 8, .num 0, .oneof [1], .none, .global, 1, false, false, false, false, false, .none⟩, -- CS_EMPTY (R195)
    ⟨0x6200, 0x04, .u 8, .ro, 8, .num 0, .any, .none, .none, 1, false, false, false, false, false, .none⟩, -- CS_STATE (R195)
    ⟨0x6200, 0x05, .u 32, .ro, 8, .num 0, .any, .none, .none, 1, false, false, false, false, false, .none⟩, -- CS_RATE (R195)
    ⟨0x6200, 0x06, .u 16, .ro, 8, .num 0, .any, .none, .none, 1, false, false, false, false, false, .none⟩, -- CS_COUNT (R195)
    ⟨0x6200, 0x07, .u 32, .ro, 8, .num 0, .any, .none, .none, 1, false, false, false, false, false, .none⟩, -- CS_CRC (R195)
    ⟨0x6200, 0x08, .sidx, .ro, 8, .num 0, .any, .none, .none, 1, false, false, false, false, false, .none⟩, -- CS_SWITCHED (R195)
    ⟨0x6200, 0x09, .sidx, .ro, 8, .num 0, .any, .none, .none, 1, false, false, false, false, false, .none⟩, -- CS_PENDING (R195)
    ⟨0x6210, 0x01, .u 8, .ro, 1, .num 0, .any, .none, .none, 1, false, false, false, false, false, .none⟩, -- UPLOAD_STATE (R195)
    ⟨0x6210, 0x02, .u 8, .ro, 1, .num 255, .any, .none, .none, 1, false, false, false, false, false, .none⟩ -- UPLOAD_SLOT (R195)
  ]

/-- The rows of indices 0x6400 to 0x6500. -/
def dictRows12 : List DEntry :=
  [
    ⟨0x6400, 0x01, .bool, .rwa, 1024, .num 0, .bool, .fixed 2, .feed, 1, false, false, false, false, false, .none⟩, -- LIM_ENABLE (R156)
    ⟨0x6400, 0x02, .db16, .rwa, 1024, .num 0, .lohi (-15360) 10752, .fixed 2, .feed, 1, false, false, false, false, false, .none⟩, -- THR_PEAK (R156)
    ⟨0x6400, 0x03, .db16, .rwa, 1024, .num 0, .lohi (-15360) 10752, .fixed 2, .feed, 1, false, false, false, false, false, .none⟩, -- THR_ENV (R156)
    ⟨0x6400, 0x04, .db16, .rwa, 1024, .num (-1536), .lohi (-15360) 10752, .fixed 2, .feed, 1, false, false, false, false, false, .none⟩, -- THR_RMS (R156)
    ⟨0x6400, 0x05, .u 8, .rwa, 1024, .num 1, .lohi 0 7, .fixed 2, .feed, 1, false, false, false, false, false, .none⟩, -- DET_EN (R156)
    ⟨0x6400, 0x06, .u 16, .rwa, 1024, .num 32, .lohi 0 256, .fixed 2, .feed, 1, false, false, false, false, false, .none⟩, -- LOOKAHEAD (R156)
    ⟨0x6400, 0x07, .u 8, .rwa, 1024, .num 3, .lohi 0 12, .fixed 2, .feed, 1, false, false, false, false, false, .none⟩, -- ATT_SHIFT (R156)
    ⟨0x6400, 0x08, .u 8, .rwa, 1024, .num 13, .lohi 4 20, .fixed 2, .feed, 1, false, false, false, false, false, .none⟩, -- REL_SHIFT (R156)
    ⟨0x6400, 0x09, .u 8, .rwa, 1024, .num 11, .lohi 4 20, .fixed 2, .feed, 1, false, false, false, false, false, .none⟩, -- ENV_SHIFT (R156)
    ⟨0x6400, 0x0A, .u 8, .rwa, 1024, .num 12, .lohi 4 20, .fixed 2, .feed, 1, false, false, false, false, false, .none⟩, -- RMS_SHIFT (R156)
    ⟨0x6400, 0x0B, .db16, .rwa, 1024, .num 0, .lohi (-15360) 10752, .fixed 2, .feed, 1, false, false, false, false, false, .none⟩, -- CEILING (R156)
    ⟨0x6400, 0x0C, .u 8, .rwa, 1024, .num 255, .grp8, .fixed 2, .feed, 1, false, false, false, false, false, .none⟩, -- EXPO_GROUP (R156)
    ⟨0x6400, 0x10, .db16, .ro, 1024, .num 0, .any, .none, .none, 1, false, false, true, false, false, .none⟩, -- GR (R156)
    ⟨0x6400, 0x11, .u 32, .ro, 1024, .num 0, .any, .none, .none, 1, false, false, true, false, false, .none⟩, -- CLIP_COUNT (R156)
    ⟨0x6400, 0x12, .bool, .wo, 1024, .num 0, .bool, .none, .feed, 1, false, false, false, false, false, .none⟩, -- LIM_CLR (R156)
    ⟨0x6500, 0x01, .u 8, .rwa, 8, .num 4, .lohi 0 15, .fixed 2, .global, 1, false, false, false, false, false, .none⟩, -- EXPO_SRC (R160)
    ⟨0x6500, 0x02, .db16, .rwa, 8, .num 25600, .lohi 10240 32512, .fixed 2, .global, 1, false, false, false, false, false, .none⟩, -- EXPO_LIMIT (R160)
    ⟨0x6500, 0x03, .db16, .rwa, 8, .num 768, .lohi 128 5120, .fixed 2, .global, 1, false, false, false, false, false, .none⟩, -- EXPO_WINDOW (R160)
    ⟨0x6500, 0x04, .db16, .rwa, 8, .num 3072, .lohi 0 10240, .fixed 2, .global, 1, false, false, false, false, false, .none⟩, -- EXPO_RANGE (R160)
    ⟨0x6500, 0x05, .u 8, .rwa, 8, .num 1, .lohi 0 1, .fixed 2, .global, 1, false, false, false, false, false, .none⟩, -- EXPO_FAILSAFE (R160)
    ⟨0x6500, 0x06, .db16, .ro, 8, .num 0, .any, .none, .none, 1, false, false, true, false, false, .none⟩, -- EXPO_OFFSET (R160)
    ⟨0x6500, 0x07, .u 8, .ro, 8, .num 0, .any, .none, .none, 1, false, false, false, false, false, .none⟩ -- EXPO_STATE (R160)
  ]

/-- The rows of indices 0x6600 to 0x8000. -/
def dictRows13 : List DEntry :=
  [
    ⟨0x6600, 0x01, .db16, .rwa, 1024, .num (-23040), .lohi (-32512) 0, .fixed 2, .feed, 1, false, false, false, false, false, .none⟩, -- SIL_THR (R163)
    ⟨0x6600, 0x02, .u 32, .rwa, 1024, .num 48000, .lohi 32 16777216, .fixed 2, .feed, 1, false, false, false, false, false, .none⟩, -- SIL_HOLD (R163)
    ⟨0x6600, 0x03, .u 8, .rwa, 1024, .num 0, .lohi 0 1, .fixed 2, .feed, 1, false, false, false, false, false, .none⟩, -- SIL_TAP (R163)
    ⟨0x6600, 0x04, .u 8, .rwa, 1024, .num 255, .grp8, .fixed 2, .feed, 1, false, false, false, false, false, .none⟩, -- SIL_GROUP (R163)
    ⟨0x6600, 0x05, .bool, .ro, 1024, .num 0, .any, .none, .none, 1, false, false, true, false, false, .none⟩, -- SIL_STATE (R163)
    ⟨0x6610, 0x01, .db16, .rwa, 1024, .num (-23040), .lohi (-32512) 0, .fixed 2, .object, 1, false, false, false, false, false, .none⟩, -- OBJ_SIL_THR (R163)
    ⟨0x6610, 0x02, .u 32, .rwa, 1024, .num 48000, .lohi 32 16777216, .fixed 2, .object, 1, false, false, false, false, false, .none⟩, -- OBJ_SIL_HOLD (R163)
    ⟨0x6610, 0x05, .bool, .ro, 1024, .num 0, .any, .none, .none, 1, false, false, true, false, false, .none⟩, -- OBJ_SIL_STATE (R163)
    ⟨0x6620, 0x01, .u 8, .rwa, 8, .num 255, .gpio24, .fixed 2, .global, 1, false, false, false, false, false, .none⟩, -- SIL_GPIO (R163)
    ⟨0x6620, 0x02, .u 8, .rwa, 8, .num 0, .lohi 0 1, .fixed 2, .global, 1, false, false, false, false, false, .none⟩, -- SIL_POL (R163)
    ⟨0x6620, 0x03, .bool, .ro, 8, .num 0, .any, .none, .none, 1, false, false, true, false, false, .none⟩, -- GROUP_STATE (R163)
    ⟨0x6F00, 0x01, .db16, .rwa, 1, .num 128, .lohi 1 12288, .fixed 2, .global, 1, false, false, false, false, false, .none⟩, -- ZC_STEP (R145)
    ⟨0x6F00, 0x02, .u 16, .rwa, 1, .num 2400, .lohi 32 65535, .fixed 2, .global, 1, false, false, false, false, false, .none⟩, -- ZC_TIMEOUT (R145)
    ⟨0x7000, 0x01, .c32, .rwa, 1, .num 359871283, .lohi 262144000 471859200, .fixed 2, .global, 1, false, false, false, false, false, .none⟩, -- SOUND_SPEED (R107)
    ⟨0x7000, 0x02, .pos32, .rwa, 1, .num 262144, .lohi 16384 4194304, .fixed 2, .global, 1, false, false, false, false, false, .none⟩, -- DF_REF (R107)
    ⟨0x7000, 0x03, .pos32, .rwa, 1, .num 262144, .lohi 0 4194304, .fixed 2, .global, 1, false, false, false, false, false, .none⟩, -- DBAP_BLUR_MAX (R107)
    ⟨0x7000, 0x04, .sidx, .ro, 1, .num 0, .any, .none, .none, 1, false, false, false, false, false, .none⟩, -- LAYOUT_SWITCHED (R107)
    ⟨0x7000, 0x05, .sidx, .ro, 1, .num 0, .any, .none, .none, 1, false, true, false, false, false, .none⟩, -- LAYOUT_PENDING (R107)
    ⟨0x8000, 0x01, .dom, .wo, 32, .empty, .special, .none, .global, 1, false, false, false, false, false, .none⟩, -- NV_IMAGE (R272)
    ⟨0x8000, 0x02, .dom, .ro, 32, .empty, .any, .none, .none, 1, false, true, false, false, false, .none⟩, -- NV_DIGEST (R272)
    ⟨0x8000, 0x03, .u 8, .ro, 32, .num 0, .any, .none, .none, 1, false, true, false, false, false, .none⟩, -- NV_IMG_STATE (R272)
    ⟨0x8000, 0x04, .bool, .wo, 32, .num 0, .oneof [1], .none, .global, 1, false, false, false, false, false, .none⟩ -- NV_IMG_CLEAR (R272)
  ]

/-- The rows of indices 0x8010 to 0x8410. -/
def dictRows14 : List DEntry :=
  [
    ⟨0x8010, 0x01, .dom, .wo, 1, .empty, .special, .none, .global, 1, false, false, false, false, false, .none⟩, -- NV_GRAPH (R272)
    ⟨0x8010, 0x02, .bool, .rwa, 1, .num 0, .oneof [1], .graph, .global, 1, false, false, false, false, false, .none⟩, -- NV_GRAPH_COMMIT (R272)
    ⟨0x8010, 0x03, .u 8, .ro, 1, .num 0, .any, .none, .none, 1, false, true, false, false, false, .none⟩, -- NV_GRAPH_STATE (R272)
    ⟨0x8010, 0x04, .sidx, .ro, 1, .num 0, .any, .none, .none, 1, false, false, false, false, false, .none⟩, -- NV_GRAPH_SWITCHED (R272)
    ⟨0x8100, 0x01, .u 32, .rwa, 65280, .num 0, .any, .fixed 2, .global, 1, false, false, false, false, false, .none⟩, -- NV_PARAM (R272)
    ⟨0x8200, 0x01, .u 32, .ro, 32, .num 0, .any, .none, .none, 1, false, false, false, false, false, .none⟩, -- NV_SLOTS (R272)
    ⟨0x8200, 0x02, .u 32, .ro, 32, .num 0, .any, .none, .none, 1, false, false, false, false, false, .none⟩, -- NV_SLOTS_PEAK (R272)
    ⟨0x8200, 0x03, .bool, .wo, 32, .num 0, .bool, .none, .global, 1, false, false, false, false, false, .none⟩, -- NV_ENG_CLR (R272)
    ⟨0x8210, 0x01, .u 32, .ro, 255, .num 0, .any, .none, .none, 1, false, false, true, false, false, .none⟩, -- JOB_SLOTS (R272)
    ⟨0x8210, 0x02, .u 32, .ro, 255, .num 0, .any, .none, .none, 1, false, false, true, false, false, .none⟩, -- JOB_STOPS (R272)
    ⟨0x8210, 0x03, .u 32, .ro, 255, .num 0, .any, .none, .none, 1, false, false, true, false, false, .none⟩, -- JOB_FAULTS (R272)
    ⟨0x8210, 0x04, .u 32, .ro, 255, .num 0, .any, .none, .none, 1, false, false, true, false, false, .none⟩, -- JOB_LAST_FAULT (R272)
    ⟨0x8210, 0x05, .bool, .wo, 255, .num 0, .bool, .none, .global, 1, false, false, false, false, false, .none⟩, -- JOB_CLR (R272)
    ⟨0x8220, 0x01, .u 32, .ro, 4080, .num 0, .any, .none, .none, 1, false, false, true, false, false, .none⟩, -- JOB_REPORT (R272)
    ⟨0x8400, 0x01, .db16, .rwa, 256, .num 0, .lohi (-32768) 6144, .fixed 2, .bus, 1, false, false, false, true, false, .none⟩, -- BUS_GAIN (R168)
    ⟨0x8400, 0x02, .bool, .rwa, 256, .num 0, .bool, .fixed 2, .bus, 1, false, false, false, false, false, .none⟩, -- BUS_MUTE (R168)
    ⟨0x8410, 0x01, .u 16, .rwa, 4096, .num 65535, .special, .fixed 2, .bus, 16, false, false, false, false, true, .none⟩, -- SEND_SRC (R168)
    ⟨0x8410, 0x02, .gain24, .rwa, 4096, .num 2097152, .any, .fixed 2, .bus, 16, false, false, false, false, false, .none⟩, -- SEND_GAIN (R168)
    ⟨0x8410, 0x03, .u 16, .rwa, 4096, .num 512, .xf, .fixed 2, .bus, 16, false, false, false, false, false, .none⟩, -- SEND_XF_LEN (R168)
    ⟨0x8410, 0x04, .u 8, .rwa, 4096, .num 1, .lohi 0 1, .fixed 2, .bus, 16, false, false, false, false, false, .none⟩ -- SEND_XF_LAW (R168)
  ]

/-- The rows of indices 0x9000 to 0x9010. -/
def dictRows15 : List DEntry :=
  [
    ⟨0x9000, 0x01, .u 8, .ro, 2, .elem 0, .any, .none, .none, 1, false, true, false, false, false, .none⟩, -- UNIT_STATE (R238)
    ⟨0x9000, 0x02, .u 8, .ro, 2, .num 0, .any, .none, .none, 1, false, true, false, false, false, .none⟩, -- CLAIM (R238)
    ⟨0x9000, 0x03, .u 8, .rwa, 2, .num 8, .lohi 0 15, .fixed 2, .global, 1, false, false, false, false, false, .none⟩, -- PREFERENCE (R238)
    ⟨0x9000, 0x04, .u 8, .rwa, 2, .num 15, .oneof [2, 6, 12, 14, 15], .fixed 2, .global, 1, false, false, false, false, false, .none⟩, -- HEALTH_CAP (R238)
    ⟨0x9000, 0x05, .bool, .rwa, 2, .num 0, .oneof [1], .fixed 2, .global, 1, false, false, false, false, false, .none⟩, -- PROMOTE (R238)
    ⟨0x9000, 0x06, .bool, .rwa, 2, .num 0, .oneof [1], .fixed 2, .global, 1, false, false, false, false, false, .none⟩, -- RESYNC (R238)
    ⟨0x9000, 0x07, .bool, .rwa, 2, .num 1, .bool, .fixed 2, .global, 1, false, false, false, false, false, .none⟩, -- UNIT_ENABLE (R238)
    ⟨0x9000, 0x08, .u 8, .ro, 2, .num 0, .any, .none, .none, 1, false, true, false, false, false, .none⟩, -- RESYNC_PHASE (R238)
    ⟨0x9000, 0x09, .u 32, .ro, 2, .num 0, .any, .none, .none, 1, false, false, false, false, false, .none⟩, -- FAULT_BLOCKS (R238)
    ⟨0x9000, 0x0A, .u 16, .ro, 2, .num 0, .any, .none, .none, 1, false, false, false, false, false, .none⟩, -- RESYNC_DONE (R238)
    ⟨0x9000, 0x0B, .u 16, .rw, 2, .num 32, .lohi 1 65535, .none, .global, 1, false, false, false, false, false, .none⟩, -- CE_LIMIT (R238)
    ⟨0x9010, 0x01, .u 8, .ro, 1, .num 0, .any, .none, .none, 1, false, true, false, false, false, .none⟩, -- SOURCE (R238)
    ⟨0x9010, 0x02, .u 8, .rwa, 1, .num 8, .lohi 1 64, .fixed 2, .global, 1, false, false, false, false, false, .none⟩, -- HOLD_LIMIT (R238)
    ⟨0x9010, 0x03, .bool, .rwa, 1, .num 0, .bool, .fixed 2, .global, 1, false, false, false, false, false, .none⟩, -- AUTO_PROMOTE (R238)
    ⟨0x9010, 0x04, .u 32, .ro, 1, .num 0, .any, .none, .none, 1, false, true, false, false, false, .none⟩, -- SWITCHES (R238)
    ⟨0x9010, 0x05, .u 32, .ro, 1, .num 0, .any, .none, .none, 1, false, true, false, false, false, .none⟩, -- HOLDS (R238)
    ⟨0x9010, 0x06, .u 32, .ro, 1, .num 0, .any, .none, .none, 1, false, true, false, false, false, .none⟩, -- OUTAGES (R238)
    ⟨0x9010, 0x07, .u 64, .ro, 1, .num 0, .any, .none, .none, 1, false, true, false, false, false, .none⟩, -- OUTAGE_SAMPLES (R238)
    ⟨0x9010, 0x08, .u 32, .ro, 1, .num 0, .any, .none, .none, 1, false, true, false, false, false, .none⟩, -- DIVERGENCES (R238)
    ⟨0x9010, 0x09, .u 32, .ro, 1, .num 0, .any, .none, .none, 1, false, true, false, false, false, .none⟩, -- STAGING_UE (R238)
    ⟨0x9010, 0x0A, .u 32, .ro, 1, .num 0, .any, .none, .none, 1, false, true, false, false, false, .none⟩, -- VOTE_CE (R238)
    ⟨0x9010, 0x0B, .sidx, .ro, 1, .num 0, .any, .none, .none, 1, false, true, false, false, false, .none⟩, -- LAST_EVENT (R238)
    ⟨0x9010, 0x0C, .bool, .wo, 1, .num 0, .bool, .none, .global, 1, false, false, false, false, false, .none⟩ -- ARB_CLEAR (R238)
  ]

/-- The rows of indices 0x9020 to 0xA010. -/
def dictRows16 : List DEntry :=
  [
    ⟨0x9020, 0x01, .sidx, .rw, 1, .num 0, .special, .none, .global, 1, false, false, false, false, false, .none⟩, -- IR_BLOCK (R238)
    ⟨0x9020, 0x02, .dom, .ro, 1, .empty, .any, .none, .none, 1, false, true, false, false, false, .none⟩, -- IR_RECORD (R238)
    ⟨0x9020, 0x03, .sidx, .ro, 1, .num 0, .any, .none, .none, 1, false, true, false, false, false, .none⟩, -- IR_OLDEST (R238)
    ⟨0x9030, 0x01, .u 32, .ro, 2, .cfg, .any, .none, .none, 1, false, true, false, false, false, .none⟩, -- RESULT_CLASS (R238)
    ⟨0x9030, 0x02, .bool, .rwa, 2, .num 0, .oneof [1], .fixed 2, .global, 1, false, false, false, false, false, .none⟩, -- UPDATE (R238)
    ⟨0x9030, 0x03, .u 8, .ro, 2, .num 0, .any, .none, .none, 1, false, true, false, false, false, .none⟩, -- UPDATE_STATE (R238)
    ⟨0xA000, 0x01, .u 8, .rw, 1, .num 0, .any, .none, .resource, 1, false, true, false, false, false, .none⟩, -- CAP_OWNER (R294)
    ⟨0xA000, 0x02, .u 16, .rw, 4, .num 65535, .special, .none, .global, 1, true, false, false, false, false, .none⟩, -- CAP_SRC (R294)
    ⟨0xA000, 0x03, .i 32, .rw, 4, .num 0, .any, .none, .global, 1, true, false, false, false, false, .none⟩, -- EXT_IN (R294)
    ⟨0xA000, 0x04, .pos32, .rw, 4, .num 0, .any, .none, .global, 1, true, false, false, false, false, .none⟩, -- MIC_POS_X (R294)
    ⟨0xA000, 0x05, .pos32, .rw, 4, .num 0, .any, .none, .global, 1, true, false, false, false, false, .none⟩, -- MIC_POS_Y (R294)
    ⟨0xA000, 0x06, .pos32, .rw, 4, .num 0, .any, .none, .global, 1, true, false, false, false, false, .none⟩, -- MIC_POS_Z (R294)
    ⟨0xA000, 0x07, .u 32, .ro, 1, .num 0, .any, .none, .none, 1, false, false, false, false, false, .none⟩, -- CAP_SLIPS (R294)
    ⟨0xA010, 0x01, .u 8, .rw, 1, .num 0, .lohi 0 1, .none, .global, 1, false, false, false, false, false, .none⟩, -- SIG_TYPE (R294)
    ⟨0xA010, 0x02, .u 32, .rw, 1, .num 20, .special, .none, .global, 1, false, false, false, false, false, .none⟩, -- SIG_F1 (R294)
    ⟨0xA010, 0x03, .u 32, .rw, 1, .num 20000, .special, .none, .global, 1, false, false, false, false, false, .none⟩, -- SIG_F2 (R294)
    ⟨0xA010, 0x04, .u 32, .rw, 1, .num 262144, .lohi 4096 1048576, .none, .global, 1, false, false, false, false, false, .none⟩, -- SIG_LEN (R294)
    ⟨0xA010, 0x05, .u 8, .rw, 1, .num 16, .lohi 10 18, .none, .global, 1, false, false, false, false, false, .none⟩, -- SIG_ORDER (R294)
    ⟨0xA010, 0x06, .u 8, .rw, 1, .num 2, .lohi 1 16, .none, .global, 1, false, false, false, false, false, .none⟩, -- SIG_PERIODS (R294)
    ⟨0xA010, 0x07, .db16, .rw, 1, .num (-5120), .lohi (-15360) 0, .none, .global, 1, false, false, false, false, false, .none⟩, -- SIG_LEVEL (R294)
    ⟨0xA010, 0x08, .u 8, .rw, 1, .num 0, .lohi 0 1, .none, .global, 1, false, false, false, false, false, .none⟩, -- SIG_POINT (R294)
    ⟨0xA010, 0x09, .u 32, .rw, 1, .num 32768, .lohi 0 65536, .none, .global, 1, false, false, false, false, false, .none⟩ -- SIG_TAIL (R294)
  ]

/-- The rows of indices 0xA020 to 0xA110. -/
def dictRows17 : List DEntry :=
  [
    ⟨0xA020, 0x01, .u 16, .rw, 64, .num 0, .lohi 0 1023, .none, .global, 1, false, false, false, false, false, .none⟩, -- SCHED_FEED (R294)
    ⟨0xA020, 0x02, .u 8, .rw, 1, .num 1, .lohi 1 64, .none, .global, 1, false, false, false, false, false, .none⟩, -- SCHED_LEN (R294)
    ⟨0xA020, 0x03, .u 8, .rw, 1, .num 0, .special, .none, .global, 1, false, false, false, false, false, .none⟩, -- SCHED_POS (R294)
    ⟨0xA020, 0x04, .bool, .rwa, 1, .num 0, .oneof [1], .fixed 2, .global, 1, false, false, false, false, false, .none⟩, -- SURV_GO (R294)
    ⟨0xA020, 0x05, .u 32, .ro, 1, .num 0, .any, .none, .none, 1, false, false, false, false, false, .none⟩, -- SURV_MISSED (R294)
    ⟨0xA030, 0x01, .i 32, .rw, 1024, .num 0, .any, .none, .global, 1, true, false, false, false, false, .none⟩, -- EXT_OUT (R294)
    ⟨0xA030, 0x02, .pos32, .rw, 4096, .num 0, .special, .none, .global, 1, true, false, false, false, false, .none⟩, -- KNOWN_DIST (R294)
    ⟨0xA100, 0x01, .u 8, .ro, 256, .num 0, .any, .none, .none, 1, false, false, false, false, false, .none⟩, -- RES_STATE (R294)
    ⟨0xA100, 0x02, .u 8, .ro, 256, .num 0, .any, .none, .none, 1, false, false, false, false, false, .none⟩, -- RES_VALID (R294)
    ⟨0xA100, 0x03, .i 32, .ro, 256, .num 0, .any, .none, .none, 1, false, false, false, false, false, .none⟩, -- RES_TOF (R294)
    ⟨0xA100, 0x04, .db16, .ro, 256, .num (-32768), .any, .none, .none, 1, false, false, false, false, false, .none⟩, -- RES_LEVEL (R294)
    ⟨0xA100, 0x05, .i 8, .ro, 256, .num 0, .any, .none, .none, 1, false, false, false, false, false, .none⟩, -- RES_POL (R294)
    ⟨0xA100, 0x06, .db16, .ro, 256, .num 0, .any, .none, .none, 1, false, false, false, false, false, .none⟩, -- RES_SNR (R294)
    ⟨0xA100, 0x07, .dom, .ro, 256, .empty, .any, .none, .none, 1, false, false, false, false, false, .none⟩, -- RES_IR (R294)
    ⟨0xA110, 0x01, .pos32, .ro, 64, .num 0, .any, .none, .none, 1, false, false, false, false, false, .none⟩, -- POS_EST_X (R294)
    ⟨0xA110, 0x02, .pos32, .ro, 64, .num 0, .any, .none, .none, 1, false, false, false, false, false, .none⟩, -- POS_EST_Y (R294)
    ⟨0xA110, 0x03, .pos32, .ro, 64, .num 0, .any, .none, .none, 1, false, false, false, false, false, .none⟩, -- POS_EST_Z (R294)
    ⟨0xA110, 0x04, .u 8, .ro, 64, .num 0, .any, .none, .none, 1, false, false, false, false, false, .none⟩, -- POS_STATE (R294)
    ⟨0xA110, 0x05, .u 32, .ro, 64, .num 0, .any, .none, .none, 1, false, false, false, false, false, .none⟩, -- POS_RESID (R294)
    ⟨0xA110, 0x06, .c32, .ro, 64, .num 0, .any, .none, .none, 1, false, false, false, false, false, .none⟩ -- C_EST (R294)
  ]

/-- The rows of indices 0xA200 to 0xB010. -/
def dictRows18 : List DEntry :=
  [
    ⟨0xA200, 0x01, .bool, .rwa, 1024, .num 0, .bool, .fixed 2, .feed, 1, false, false, false, false, false, .none⟩, -- LS_ENABLE (R297)
    ⟨0xA200, 0x02, .db16, .rwa, 1024, .num 11776, .lohi 10240 20480, .fixed 2, .feed, 1, false, false, false, false, false, .none⟩, -- LS_MARGIN (R297)
    ⟨0xA200, 0x03, .db16, .rwa, 1024, .num (-15360), .lohi (-25600) 0, .fixed 2, .feed, 1, false, false, false, false, false, .none⟩, -- LS_GATE (R297)
    ⟨0xA200, 0x04, .i 32, .ro, 1024, .num 0, .any, .none, .none, 1, false, false, false, false, false, .none⟩, -- LS_DELAY (R297)
    ⟨0xA200, 0x05, .i 32, .ro, 1024, .num 0, .any, .none, .none, 1, false, false, false, false, false, .none⟩, -- LS_DRIFT (R297)
    ⟨0xA200, 0x06, .bool, .ro, 1024, .num 0, .any, .none, .none, 1, false, false, false, false, false, .none⟩, -- LS_VALID (R297)
    ⟨0xA210, 0x01, .u 8, .rw, 1, .num 0, .lohi 0 3, .none, .global, 1, false, false, false, false, false, .none⟩, -- LS_CAP (R297)
    ⟨0xA210, 0x02, .u 32, .rw, 1, .num 1048576, .lohi 65536 4194304, .none, .global, 1, false, false, false, false, false, .none⟩, -- LS_WINDOW (R297)
    ⟨0xB000, 0x01, .i 32, .ro, 4, .num 0, .any, .none, .none, 1, false, false, false, false, false, .none⟩, -- LAEQ_1S (R394)
    ⟨0xB000, 0x02, .i 32, .ro, 4, .num 0, .any, .none, .none, 1, false, false, false, false, false, .none⟩, -- LAEQ_1MIN (R394)
    ⟨0xB000, 0x03, .i 32, .ro, 4, .num 0, .any, .none, .none, 1, false, false, false, false, false, .none⟩, -- LAEQ_15MIN (R394)
    ⟨0xB000, 0x04, .i 32, .ro, 4, .num 0, .any, .none, .none, 1, false, false, false, false, false, .none⟩, -- LAEQ_60MIN (R394)
    ⟨0xB000, 0x05, .i 32, .ro, 4, .num 0, .any, .none, .none, 1, false, false, false, false, false, .none⟩, -- LCPEAK (R394)
    ⟨0xB000, 0x06, .u 8, .ro, 4, .num 0, .any, .none, .none, 1, false, false, false, false, false, .none⟩, -- VALID (R394)
    ⟨0xB000, 0x07, .u 8, .ro, 4, .num 3, .any, .none, .none, 1, false, false, false, false, false, .none⟩, -- MIC_STATE (R394)
    ⟨0xB000, 0x08, .u 32, .ro, 1, .num 0, .any, .none, .none, 1, false, false, false, false, false, .none⟩, -- RESULT_SEQ (R394)
    ⟨0xB000, 0x09, .ptp80, .ro, 1, .num 0, .any, .none, .none, 1, false, false, false, false, false, .none⟩, -- RESULT_TIME (R394)
    ⟨0xB000, 0x0A, .bool, .ro, 1, .num 0, .any, .none, .none, 1, false, true, false, false, false, .none⟩, -- LINK_OK (R394)
    ⟨0xB010, 0x01, .u 32, .rw, 1, .num 0, .lohi 1 4294967295, .none, .global, 1, false, false, false, false, false, .none⟩, -- LOG_REQ (R394)
    ⟨0xB010, 0x02, .dom, .ro, 1, .empty, .any, .none, .none, 1, false, false, false, false, false, .none⟩, -- LOG_PAGE (R394)
    ⟨0xB010, 0x03, .u 8, .ro, 1, .num 0, .any, .none, .none, 1, false, false, false, false, false, .none⟩ -- LOG_STATE (R394)
  ]

/-- The rows of indices 0xB020 to 0xC100. -/
def dictRows19 : List DEntry :=
  [
    ⟨0xB020, 0x01, .str 32, .ro, 1, .empty, .any, .none, .none, 1, false, false, false, false, false, .none⟩, -- KAO_SWID (R394)
    ⟨0xB020, 0x02, .u 8, .ro, 1, .num 0, .any, .none, .none, 1, false, false, false, false, false, .none⟩, -- KAO_AUDIT (R394)
    ⟨0xB020, 0x03, .u 32, .ro, 1, .num 0, .any, .none, .none, 1, false, false, false, false, false, .none⟩, -- KAO_CHAIN_NS (R394)
    ⟨0xB020, 0x04, .bool, .ro, 1, .num 0, .any, .none, .none, 1, false, true, false, false, false, .none⟩, -- KAO_UNSEAL (R394)
    ⟨0xB030, 0x01, .dom, .wo, 1, .empty, .special, .none, .global, 1, false, false, false, false, false, .none⟩, -- KAO_IMAGE (R394)
    ⟨0xB030, 0x02, .bool, .wo, 1, .num 0, .bool, .none, .global, 1, false, false, false, false, false, .none⟩, -- KAO_INSTALL (R394)
    ⟨0xB030, 0x03, .u 8, .ro, 1, .num 0, .any, .none, .none, 1, false, false, false, false, false, .none⟩, -- KAO_STAGE (R394)
    ⟨0xB040, 0x01, .bool, .rw, 1, .num 0, .bool, .none, .global, 1, false, false, false, false, false, .none⟩, -- RAW_EN (R394)
    ⟨0xC000, 0x01, .u 16, .rw, 1, .num 28760, .lohi 1024 65535, .none, .global, 1, true, false, false, false, false, .none⟩, -- DAMEEL_PORT (R375)
    ⟨0xC000, 0x02, .u 8, .rw, 1, .num 31, .lohi 1 31, .none, .global, 1, true, false, false, false, false, .none⟩, -- DAMEEL_IFACES (R375)
    ⟨0xC000, 0x03, .u 32, .ro, 1, .num 0, .any, .none, .none, 1, false, false, false, false, false, .none⟩, -- AUTH_FAILS (R375)
    ⟨0xC000, 0x04, .bool, .rw, 1, .num 1, .bool, .none, .global, 1, true, false, false, false, false, .none⟩, -- DISC_EN (R375)
    ⟨0xC000, 0x05, .dom, .ro, 1, .empty, .any, .none, .none, 1, false, true, false, false, false, .none⟩, -- PEER_TABLE (R375)
    ⟨0xC100, 0x01, .dom, .wo, 17, .zeros 32, .special, .none, .global, 1, true, false, false, false, false, .none⟩, -- CRED (R375)
    ⟨0xC100, 0x02, .u 8, .rw, 17, .special, .lohi 0 3, .none, .global, 1, true, false, false, false, false, .none⟩, -- ROLE (R375)
    ⟨0xC100, 0x03, .u 8, .rw, 17, .num 8, .lohi 0 15, .none, .global, 1, true, false, false, false, false, .none⟩, -- PRIORITY (R375)
    ⟨0xC100, 0x04, .u 32, .rw, 17, .num 5000, .lohi 1000 60000, .none, .global, 1, true, false, false, false, false, .none⟩, -- LEASE_MS (R375)
    ⟨0xC100, 0x05, .bool, .rw, 17, .num 0, .bool, .none, .global, 1, true, false, false, false, false, .none⟩, -- REVERT (R375)
    ⟨0xC100, 0x06, .u 8, .ro, 17, .num 0, .any, .none, .none, 1, false, true, false, false, false, .none⟩, -- SESS_STATE (R375)
    ⟨0xC100, 0x07, .u 64, .ro, 17, .num 0, .any, .none, .none, 1, false, true, false, false, false, .none⟩, -- SESS_PEER (R375)
    ⟨0xC100, 0x08, .bool, .wo, 17, .num 0, .bool, .none, .global, 1, false, false, false, false, false, .none⟩ -- KICK (R375)
  ]

/-- The rows of indices 0xC200 to 0xD100. -/
def dictRows20 : List DEntry :=
  [
    ⟨0xC200, 0x01, .dom, .rw, 17, .zeros 128, .special, .none, .global, 1, true, false, false, false, false, .none⟩, -- TEN_OBJ (R375)
    ⟨0xC200, 0x02, .u 64, .rw, 17, .num 0, .any, .none, .global, 1, true, false, false, false, false, .none⟩, -- TEN_SET (R375)
    ⟨0xC200, 0x03, .dom, .rw, 17, .zeros 128, .special, .none, .global, 1, true, false, false, false, false, .none⟩, -- TEN_FEED (R375)
    ⟨0xC200, 0x04, .dom, .rw, 17, .zeros 32, .special, .none, .global, 1, true, false, false, false, false, .none⟩, -- TEN_BUS (R375)
    ⟨0xC200, 0x05, .dom, .rw, 17, .zeros 16, .special, .none, .global, 1, true, false, false, false, false, .none⟩, -- TEN_ESTREAM (R375)
    ⟨0xC200, 0x06, .bool, .wo, 17, .num 0, .bool, .none, .ownSnapshot, 1, false, false, false, false, false, .none⟩, -- SNAPSHOT (R375)
    ⟨0xC300, 0x01, .u 8, .ro, 17, .num 0, .any, .none, .none, 1, false, true, false, false, false, .none⟩, -- LOCKS (R375)
    ⟨0xC300, 0x02, .u 16, .ro, 17, .num 0, .any, .none, .none, 1, false, true, false, false, false, .none⟩, -- SUBS (R375)
    ⟨0xC300, 0x03, .u 32, .ro, 17, .num 0, .any, .none, .none, 1, false, false, false, false, false, .none⟩, -- CONFLICTS (R375)
    ⟨0xD000, 0x01, .u 32, .ro, 1, .num 0, .any, .none, .none, 1, false, true, false, false, false, .none⟩, -- LOG_NEWEST (R397)
    ⟨0xD000, 0x02, .u 32, .ro, 1, .num 0, .any, .none, .none, 1, false, true, false, false, false, .none⟩, -- LOG_OLDEST (R397)
    ⟨0xD000, 0x03, .dom, .ro, 65536, .empty, .any, .none, .none, 1, false, true, false, false, false, .none⟩, -- LOG_RECORD (R397)
    ⟨0xD100, 0x01, .dom, .wo, 2, .empty, .special, .none, .global, 1, false, false, false, false, false, .none⟩, -- UPD_IMAGE (R397)
    ⟨0xD100, 0x02, .u 8, .ro, 2, .num 0, .any, .none, .none, 1, false, false, false, false, false, .none⟩, -- UPD_STATE (R397)
    ⟨0xD100, 0x03, .u 32, .ro, 2, .num 0, .any, .none, .none, 1, false, false, false, false, false, .none⟩, -- UPD_VERSION (R397)
    ⟨0xD100, 0x04, .u 32, .ro, 1, .num 0, .any, .none, .none, 1, false, false, false, false, false, .none⟩, -- UPD_CLASS (R397)
    ⟨0xD100, 0x05, .bool, .wo, 1, .num 0, .bool, .none, .global, 1, false, false, false, false, false, .none⟩, -- MGMT_ACTIVATE (R397)
    ⟨0xD100, 0x06, .u 8, .ro, 1, .num 0, .any, .none, .none, 1, false, true, false, false, false, .none⟩, -- MGMT_SLOT (R397)
    ⟨0xD100, 0x07, .bool, .wo, 1, .num 0, .oneof [1], .none, .global, 1, false, false, false, false, false, .none⟩ -- CTRL_INSTALL (R459)
  ]

/-- The rows of indices 0xE000 to 0xE100. -/
def dictRows21 : List DEntry :=
  [
    ⟨0xE000, 0x01, .u 32, .ro, 2, .num 0, .any, .none, .none, 1, false, false, false, false, false, .none⟩, -- SRAM_CE (R399)
    ⟨0xE000, 0x02, .u 32, .ro, 2, .num 0, .any, .none, .none, 1, false, false, false, false, false, .none⟩, -- LP5_CE (R399)
    ⟨0xE000, 0x03, .u 32, .ro, 2, .num 0, .any, .none, .none, 1, false, false, false, false, false, .none⟩, -- LP5_UE (R399)
    ⟨0xE000, 0x04, .u 32, .ro, 2, .num 0, .any, .none, .none, 1, false, false, false, false, false, .none⟩, -- LP5_FORCED_REF (R399)
    ⟨0xE000, 0x05, .u 16, .ro, 2, .num 6400, .any, .none, .none, 1, false, true, false, false, false, .none⟩, -- LP5_MTS (R399)
    ⟨0xE000, 0x06, .bool, .ro, 2, .num 0, .any, .none, .none, 1, false, true, false, false, false, .none⟩, -- HB_LOSS (R399)
    ⟨0xE000, 0x07, .bool, .wo, 1, .num 0, .bool, .none, .global, 1, false, false, false, false, false, .none⟩, -- DIAG_CLR (R399)
    ⟨0xE100, 0x01, .u 32, .ro, 128, .num 0, .any, .none, .none, 1, false, true, false, false, false, .none⟩, -- TILE_UNITS (R139)
    ⟨0xE100, 0x02, .u 16, .ro, 128, .num 0, .any, .none, .none, 1, false, true, false, false, false, .none⟩, -- TILE_SAT (R139)
    ⟨0xE100, 0x03, .u 16, .wo, 128, .num 0, .any, .none, .global, 1, false, false, false, false, false, .none⟩, -- TILE_SAT_CLR (R139)
    ⟨0xE100, 0x04, .u 32, .ro, 128, .num 0, .any, .none, .none, 1, false, false, false, false, false, .none⟩, -- TILE_RES (R139)
    ⟨0xE100, 0x05, .bool, .ro, 128, .num 0, .any, .none, .none, 1, false, true, false, false, false, .none⟩ -- TILE_UE (R139)
  ]

/-- The rows in pages, each with the index above its last. -/
def dictPages : List (Nat × List DEntry) :=
  [(0x1201, dictRows0),
   (0x2004, dictRows1),
   (0x2101, dictRows2),
   (0x3021, dictRows3),
   (0x3201, dictRows4),
   (0x3401, dictRows5),
   (0x3801, dictRows6),
   (0x3C31, dictRows7),
   (0x4001, dictRows8),
   (0x5101, dictRows9),
   (0x6101, dictRows10),
   (0x6211, dictRows11),
   (0x6501, dictRows12),
   (0x8001, dictRows13),
   (0x8411, dictRows14),
   (0x9011, dictRows15),
   (0xA011, dictRows16),
   (0xA111, dictRows17),
   (0xB011, dictRows18),
   (0xC101, dictRows19),
   (0xD101, dictRows20),
   (0xE101, dictRows21)]

/-- The whole dictionary. -/
def dictTable : List DEntry := dictPages.flatMap (·.2)

/-- The page that holds the rows of an index. -/
def dictPage (idx : Nat) : List DEntry :=
  match dictPages.find? (fun p => decide (idx < p.1)) with
  | some p => p.2
  | none => []

/-- The row of an index and sub-index, if the dictionary has one. -/
def dictFind (idx sub : Nat) : Option DEntry :=
  (dictPage idx).find? (fun e => e.idx == idx && e.sub == sub)

/-- Whether any row has this index. -/
def dictHasIndex (idx : Nat) : Bool := (dictPage idx).any (fun e => e.idx == idx)

end Sys2Proof.Machine
end

