-- ==== Sys2Proof/Machine/RegTable.lean ====
section
/-!
DEFINITION. The register tables of the chapters: one row per register or register array, with its place, its reset
value and the masks of its software-written, write-one-to-clear and read-clear fields (R10).
-/
namespace Sys2Proof.Machine

/-- Where a row's block stands: in each unit's register space or in the shared space. -/
inductive RSpace where
  | unit | shared
deriving DecidableEq, Repr

/-- How a row repeats. -/
inductive RStride where
  | linear (step count : Nat)
  /-- The descriptor rings: per port 0x1000, receive rings at 0x100 + 0x40 r, transmit rings at 0x200 + 0x40 r. -/
  | ring
  /-- The hash table words of each port. -/
  | hash
deriving DecidableEq, Repr

/-- The reset value of a row. -/
inductive RReset where
  | val (n : Nat)
  /-- Computed: the row's value is a function of its place or of the configuration. -/
  | calc
deriving DecidableEq, Repr

/-- One register row. -/
structure REntry where
  space : RSpace
  base : Nat
  off : Nat
  stride : RStride
  reset : RReset
  /-- Fields software writes and reads back. -/
  rw : Nat
  /-- Fields cleared by writing 1. -/
  w1c : Nat
  /-- Fields cleared by a read. -/
  rc : Nat
deriving DecidableEq, Repr

/-- Rows 0 and following. -/
def regRows0 : List REntry :=
  [
    ⟨.unit, 0x20000000, 0x0000, .linear 0x0 1, .val 0x1, 0x3, 0x0, 0x0⟩, -- SILT_CTRL (R136)
    ⟨.unit, 0x20000000, 0x0004, .linear 0x0 1, .val 0x0, 0x0, 0x3F, 0x0⟩, -- SILT_STAT (R137)
    ⟨.unit, 0x20000000, 0x0008, .linear 0x0 1, .val 0x0, 0x0, 0x0, 0x0⟩, -- SILT_BLK_LO (R135)
    ⟨.unit, 0x20000000, 0x000C, .linear 0x0 1, .val 0x0, 0x0, 0x0, 0x0⟩, -- SILT_BLK_HI (R135)
    ⟨.unit, 0x20000000, 0x0010, .linear 0x0 1, .val 0x0, 0x0, 0x0, 0xFFFFFFFF⟩, -- ECC_CE_COUNT (R135)
    ⟨.unit, 0x20000000, 0x0014, .linear 0x0 1, .val 0x0, 0x0, 0x0, 0xFFFFFFFF⟩, -- RES_ERR_COUNT (R135)
    ⟨.unit, 0x20000000, 0x0018, .linear 0x0 1, .val 0x0, 0x0, 0x0, 0x0⟩, -- UNITS_USED (R135)
    ⟨.unit, 0x20000000, 0x001C, .linear 0x0 1, .val 0x0, 0x0, 0x0, 0x0⟩, -- CLAMP_PAIRS (R135)
    ⟨.unit, 0x20000000, 0x0020, .linear 0x0 1, .val 0x0, 0x0, 0x0, 0x0⟩, -- SLOPE_PAIRS (R135)
    ⟨.unit, 0x20000000, 0x0024, .linear 0x0 1, .val 0x0, 0x0, 0x0, 0x0⟩, -- SKIP_PAIRS (R135)
    ⟨.unit, 0x20000000, 0x1000, .linear 0x10 64, .val 0x0, 0x0, 0x0, 0x0⟩, -- TILE_UNITS (R135)
    ⟨.unit, 0x20000000, 0x1004, .linear 0x10 64, .val 0x0, 0x0, 0xFFFF, 0x0⟩, -- TILE_SAT (R135)
    ⟨.unit, 0x20000000, 0x1008, .linear 0x10 64, .val 0x0, 0x0, 0x0, 0x0⟩, -- TILE_SKIP (R135)
    ⟨.unit, 0x20000000, 0x100C, .linear 0x10 64, .val 0x0, 0x0, 0x10000, 0xFFFF⟩, -- TILE_ERR (R138)
    ⟨.unit, 0x20000000, 0x8000, .linear 0x4 2056, .calc, 0x0, 0x0, 0x0⟩, -- INTERP_TABLE (R135)
    ⟨.unit, 0x20020000, 0x0000, .linear 0x0 1, .val 0x1, 0x3, 0x0, 0x0⟩, -- FC_CTRL (R175)
    ⟨.unit, 0x20020000, 0x0004, .linear 0x0 1, .val 0x0, 0x0, 0x3F, 0x0⟩, -- FC_STAT (R176)
    ⟨.unit, 0x20020000, 0x0008, .linear 0x0 1, .val 0x0, 0x0, 0x0, 0x0⟩, -- XF_USED (R175)
    ⟨.unit, 0x20020000, 0x000C, .linear 0x0 1, .val 0x0, 0x0, 0x0, 0x0⟩, -- GATED_FEEDS (R175)
    ⟨.unit, 0x20020000, 0x0010, .linear 0x0 1, .val 0x0, 0x0, 0x0, 0x0⟩, -- LIMITING_FEEDS (R175)
    ⟨.unit, 0x20020000, 0x0014, .linear 0x0 1, .val 0x0, 0x0, 0x0, 0x0⟩, -- SILENT_FEEDS (R175)
    ⟨.unit, 0x20020000, 0x0018, .linear 0x0 1, .val 0x0, 0x0, 0x0, 0xFFFFFFFF⟩, -- BULK_CE_COUNT (R175)
    ⟨.unit, 0x20020000, 0x001C, .linear 0x0 1, .val 0x0, 0x0, 0x0, 0x0⟩, -- SIL_GROUPS (R175)
    ⟨.unit, 0x20020000, 0x0100, .linear 0x4 32, .val 0x0, 0x0, 0xFFFFFFFF, 0x0⟩, -- FEED_SAT (R175)
    ⟨.unit, 0x20020000, 0x1000, .linear 0x0 1, .val 0x0, 0x1, 0x0, 0x0⟩, -- CX_CTRL (R201)
    ⟨.unit, 0x20020000, 0x1004, .linear 0x0 1, .val 0x0, 0x0, 0x3F, 0x0⟩, -- CX_STAT (R202)
    ⟨.unit, 0x20020000, 0x1008, .linear 0x0 1, .val 0x0, 0x0, 0x0, 0x0⟩, -- CX_FADE_COST (R201)
    ⟨.unit, 0x20020000, 0x100C, .linear 0x0 1, .val 0x0, 0x0, 0x0, 0x0⟩, -- CX_FADING (R201)
    ⟨.unit, 0x20020000, 0x1010, .linear 0x0 1, .val 0x0, 0x0, 0x0, 0xFFFFFFFF⟩, -- CX_CE_COUNT (R201)
    ⟨.unit, 0x20020000, 0x1014, .linear 0x0 1, .val 0x0, 0x0, 0x0, 0xFFFFFFFF⟩ -- CX_SAT_COUNT (R201)
  ]

/-- Rows 30 and following. -/
def regRows1 : List REntry :=
  [
    ⟨.unit, 0x20020000, 0x1018, .linear 0x0 1, .val 0x0, 0x0, 0x0, 0xFFFFFFFF⟩, -- CX_RES_COUNT (R201)
    ⟨.unit, 0x20020000, 0x101C, .linear 0x0 1, .val 0xFF, 0x0, 0x0, 0x0⟩, -- CX_REBUILD (R201)
    ⟨.unit, 0x20020000, 0x1100, .linear 0x4 32, .val 0x0, 0x0, 0xFFFFFFFF, 0x0⟩, -- CX_SAT (R201)
    ⟨.unit, 0x20020000, 0x2000, .linear 0x8 2048, .calc, 0x0, 0x0, 0x0⟩, -- TW_RE (R201)
    ⟨.unit, 0x20020000, 0x2004, .linear 0x8 2048, .calc, 0x0, 0x0, 0x0⟩, -- TW_IM (R201)
    ⟨.unit, 0x20030000, 0x0000, .linear 0x1000 16, .val 0x0, 0x1, 0x0, 0x0⟩, -- NV_CTRL (R273)
    ⟨.unit, 0x20030000, 0x0004, .linear 0x1000 16, .val 0x0, 0x0, 0x1F, 0x0⟩, -- NV_STAT (R274)
    ⟨.unit, 0x20030000, 0x0008, .linear 0x1000 16, .val 0xFF, 0x0, 0x0, 0x0⟩, -- NV_JOB (R273)
    ⟨.unit, 0x20030000, 0x000C, .linear 0x1000 16, .val 0x0, 0x0, 0x0, 0x0⟩, -- NV_PC (R273)
    ⟨.unit, 0x20030000, 0x0010, .linear 0x1000 16, .val 0x0, 0x0, 0x0, 0x0⟩, -- NV_SLOTS_LAST (R273)
    ⟨.unit, 0x20030000, 0x0014, .linear 0x1000 16, .val 0x0, 0x0, 0x0, 0x0⟩, -- NV_DMA_LAST (R273)
    ⟨.unit, 0x20030000, 0x0018, .linear 0x1000 16, .val 0x0, 0x0, 0x0, 0x0⟩, -- NV_WIN_LAST (R273)
    ⟨.unit, 0x20030000, 0x001C, .linear 0x1000 16, .val 0x0, 0x0, 0x0, 0xFFFFFFFF⟩, -- NV_STOPS (R273)
    ⟨.unit, 0x20030000, 0x0020, .linear 0x1000 16, .val 0x0, 0x0, 0x0, 0xFFFFFFFF⟩, -- NV_FAULTS (R273)
    ⟨.unit, 0x20030000, 0x0024, .linear 0x1000 16, .val 0x0, 0x0, 0x0, 0x0⟩, -- NV_FAULT_INFO (R273)
    ⟨.unit, 0x20030000, 0x0028, .linear 0x1000 16, .val 0x0, 0x0, 0x0, 0xFFFFFFFF⟩, -- NV_CE_COUNT (R273)
    ⟨.unit, 0x20030000, 0x002C, .linear 0x1000 16, .val 0x0, 0x0, 0x0, 0x0⟩, -- NV_BLK_LO (R273)
    ⟨.unit, 0x20030000, 0x0030, .linear 0x1000 16, .val 0x0, 0x0, 0x0, 0x0⟩, -- NV_BLK_HI (R273)
    ⟨.unit, 0x20040000, 0x0000, .linear 0x0 1, .val 0x1, 0x3, 0x0, 0x0⟩, -- SV_CTRL (R514)
    ⟨.unit, 0x20040000, 0x0004, .linear 0x0 1, .val 0x0, 0x0, 0x4D, 0x0⟩, -- SV_STAT (R514)
    ⟨.unit, 0x20040000, 0x0010, .linear 0x4 4, .val 0x0, 0x0, 0x0, 0x0⟩, -- SV_PUSH (R514)
    ⟨.unit, 0x20040000, 0x0020, .linear 0x0 1, .val 0x0, 0x0, 0x0, 0x0⟩, -- SV_PUSH_RES (R514)
    ⟨.unit, 0x20040000, 0x0024, .linear 0x0 1, .val 0x0, 0xFFFFFFFF, 0x0, 0x0⟩, -- SV_DUE_LO (R514)
    ⟨.unit, 0x20040000, 0x0028, .linear 0x0 1, .val 0x0, 0xFFFF, 0x0, 0x0⟩, -- SV_DUE_HI (R514)
    ⟨.unit, 0x20040000, 0x0030, .linear 0x4 4, .val 0x0, 0x0, 0x0, 0x0⟩, -- SV_POP (R514)
    ⟨.unit, 0x20040000, 0x0040, .linear 0x0 1, .val 0x0, 0x0, 0x0, 0x0⟩, -- SV_DONE (R514)
    ⟨.unit, 0x20040000, 0x0044, .linear 0x0 1, .val 0x0, 0x0, 0x0, 0x0⟩, -- SV_LEVEL (R514)
    ⟨.unit, 0x20040000, 0x0048, .linear 0x0 1, .val 0x0, 0x1FFFFF, 0x0, 0x0⟩, -- SV_WM (R514)
    ⟨.unit, 0x20040000, 0x004C, .linear 0x0 1, .val 0x0, 0x0, 0x0, 0x1FFFFF⟩, -- SV_MAX (R514)
    ⟨.unit, 0x20040000, 0x0050, .linear 0x0 1, .val 0x0, 0x0, 0x0, 0x0⟩ -- SV_ONCHIP (R514)
  ]

/-- Rows 60 and following. -/
def regRows2 : List REntry :=
  [
    ⟨.unit, 0x20040000, 0x0054, .linear 0x0 1, .val 0xC00, 0xFFF, 0x0, 0x0⟩, -- SV_SPILL_HI (R514)
    ⟨.unit, 0x20040000, 0x0058, .linear 0x0 1, .val 0x400, 0xFFF, 0x0, 0x0⟩, -- SV_RELOAD_LO (R514)
    ⟨.unit, 0x20040000, 0x005C, .linear 0x0 1, .val 0x0, 0xFF000000, 0x0, 0x0⟩, -- SV_SPILL_BASE_LO (R514)
    ⟨.unit, 0x20040000, 0x0060, .linear 0x0 1, .val 0x0, 0x7, 0x0, 0x0⟩, -- SV_SPILL_BASE_HI (R514)
    ⟨.unit, 0x20040000, 0x0064, .linear 0x0 1, .val 0x0, 0x0, 0x0, 0xFFFFFFFF⟩, -- SV_PUSH_REJ (R514)
    ⟨.unit, 0x20040000, 0x0068, .linear 0x0 1, .val 0x0, 0x0, 0x0, 0xFFFFFFFF⟩, -- SV_LOST (R514)
    ⟨.unit, 0x20040000, 0x0080, .linear 0x4 8, .val 0x0, 0x0, 0x0, 0x0⟩, -- SV_PRIO_LEVEL (R514)
    ⟨.unit, 0x20050000, 0x0000, .linear 0x4 256, .val 0x0, 0x1FF, 0x0, 0x0⟩, -- IC_SRCCFG (R524)
    ⟨.unit, 0x20050000, 0x0400, .linear 0x4 8, .val 0x0, 0x0, 0x0, 0x0⟩, -- IC_PEND (R524)
    ⟨.unit, 0x20050000, 0x0420, .linear 0x4 8, .val 0x0, 0xFFFFFFFF, 0x0, 0x0⟩, -- IC_ENABLE (R524)
    ⟨.unit, 0x20050000, 0x0440, .linear 0x0 1, .val 0x0, 0xF, 0x0, 0x0⟩, -- IC_THRESHOLD (R524)
    ⟨.unit, 0x20050000, 0x0444, .linear 0x0 1, .val 0x0, 0x0, 0x0, 0x0⟩, -- IC_CLAIM (R524)
    ⟨.unit, 0x20050000, 0x0448, .linear 0x0 1, .val 0x0, 0x0, 0x0, 0x0⟩, -- IC_COMPLETE (R524)
    ⟨.unit, 0x20050000, 0x044C, .linear 0x0 1, .val 0x0, 0x0, 0x1, 0x0⟩, -- IC_STAT (R524)
    ⟨.unit, 0x20050000, 0x0480, .linear 0x4 16, .val 0x0, 0xFFFF, 0x0, 0x0⟩, -- IC_MOD (R524)
    ⟨.unit, 0x20050000, 0x04C0, .linear 0x0 1, .val 0xFFFFFFFF, 0xFFFFFFFF, 0x0, 0x0⟩, -- IC_TIMECMP_LO (R524)
    ⟨.unit, 0x20050000, 0x04C4, .linear 0x0 1, .val 0xFFFF, 0xFFFF, 0x0, 0x0⟩, -- IC_TIMECMP_HI (R524)
    ⟨.unit, 0x20060000, 0x0000, .linear 0x0 1, .val 0x0, 0x1, 0x0, 0x0⟩, -- BM_CTRL (R496)
    ⟨.unit, 0x20060000, 0x0004, .linear 0x0 1, .val 0x0, 0x0, 0x1, 0x0⟩, -- BM_STAT (R496)
    ⟨.unit, 0x20060000, 0x0008, .linear 0x0 1, .val 0x0, 0x0, 0x0, 0x0⟩, -- BM_MRST (R496)
    ⟨.unit, 0x20060000, 0x000C, .linear 0x0 1, .val 0x0, 0x0, 0x0, 0x0⟩, -- BM_MRST_BUSY (R496)
    ⟨.unit, 0x20060000, 0x0010, .linear 0x0 1, .val 0x0, 0x0, 0x0, 0xFFFFFFFF⟩, -- BM_ERR_COUNT (R496)
    ⟨.unit, 0x20060000, 0x0020, .linear 0x0 1, .val 0x0, 0x0, 0x0, 0x0⟩, -- BM_ERR_FIFO_LEVEL (R480)
    ⟨.unit, 0x20060000, 0x0024, .linear 0x0 1, .val 0x30, 0x7F, 0x0, 0x0⟩, -- BM_ERR_FIFO_WM (R480)
    ⟨.unit, 0x20060000, 0x0028, .linear 0x0 1, .val 0x0, 0x0, 0x0, 0x7F⟩, -- BM_ERR_FIFO_MAX (R480)
    ⟨.unit, 0x20060000, 0x002C, .linear 0x0 1, .val 0x0, 0x0, 0x5, 0x0⟩, -- BM_ERR_FIFO_STAT (R480)
    ⟨.unit, 0x20060000, 0x0030, .linear 0x0 1, .val 0x0, 0x0, 0x0, 0x0⟩, -- BM_ERR_FIFO_DATA (R480)
    ⟨.unit, 0x20060000, 0x0034, .linear 0x0 1, .val 0x0, 0x0, 0x0, 0x0⟩, -- BM_ERR_FIFO_CMD (R480)
    ⟨.unit, 0x20060000, 0x0100, .linear 0x8 8, .val 0xCFF88888, 0xFFFFFFFF, 0x0, 0x0⟩, -- BM_PRIO_LO (R496)
    ⟨.unit, 0x20060000, 0x0104, .linear 0x8 8, .val 0x66A4, 0xFFFF, 0x0, 0x0⟩ -- BM_PRIO_HI (R496)
  ]

/-- Rows 90 and following. -/
def regRows3 : List REntry :=
  [
    ⟨.unit, 0x20060000, 0x0200, .linear 0x10 22, .calc, 0xFFFF, 0x0, 0x0⟩, -- REG_RATE (R497)
    ⟨.unit, 0x20060000, 0x0204, .linear 0x10 22, .val 0x1000, 0xFFFFF, 0x0, 0x0⟩, -- REG_BURST (R496)
    ⟨.unit, 0x20060000, 0x0208, .linear 0x10 22, .val 0x1000, 0x0, 0x0, 0x0⟩, -- REG_LEVEL (R496)
    ⟨.unit, 0x20070000, 0x0000, .linear 0x0 1, .val 0x80C04, 0xF1F0F, 0x0, 0x0⟩, -- LP_CTRL (R500)
    ⟨.unit, 0x20070000, 0x0004, .linear 0x0 1, .val 0x0, 0x0, 0xBF0, 0x0⟩, -- LP_STAT (R501)
    ⟨.unit, 0x20070000, 0x0008, .linear 0x0 1, .val 0x204, 0xFFFF, 0x0, 0x0⟩, -- LP_AGE (R499)
    ⟨.unit, 0x20070000, 0x000C, .linear 0x0 1, .val 0x0, 0x0, 0x0, 0xFFFFFFFF⟩, -- LP_CE_COUNT (R499)
    ⟨.unit, 0x20070000, 0x0010, .linear 0x0 1, .val 0x0, 0x0, 0x0, 0xFFFFFFFF⟩, -- LP_UE_COUNT (R499)
    ⟨.unit, 0x20070000, 0x0014, .linear 0x0 1, .val 0x0, 0x0, 0x0, 0xFFFFFFFF⟩, -- LP_FORCED_REF (R499)
    ⟨.unit, 0x20070000, 0x0018, .linear 0x0 1, .val 0x0, 0x0, 0x0, 0xFFFFFFFF⟩, -- LP_NBR_COUNT (R499)
    ⟨.unit, 0x20070000, 0x0020, .linear 0x0 1, .val 0x0, 0x0, 0x0, 0x0⟩, -- LP_ECC_FIFO_LEVEL (R480)
    ⟨.unit, 0x20070000, 0x0024, .linear 0x0 1, .val 0x30, 0x7F, 0x0, 0x0⟩, -- LP_ECC_FIFO_WM (R480)
    ⟨.unit, 0x20070000, 0x0028, .linear 0x0 1, .val 0x0, 0x0, 0x0, 0x7F⟩, -- LP_ECC_FIFO_MAX (R480)
    ⟨.unit, 0x20070000, 0x002C, .linear 0x0 1, .val 0x0, 0x0, 0x5, 0x0⟩, -- LP_ECC_FIFO_STAT (R480)
    ⟨.unit, 0x20070000, 0x0030, .linear 0x0 1, .val 0x0, 0x0, 0x0, 0x0⟩, -- LP_ECC_FIFO_DATA (R480)
    ⟨.unit, 0x20070000, 0x0034, .linear 0x0 1, .val 0x0, 0x0, 0x0, 0x0⟩, -- LP_ECC_FIFO_CMD (R480)
    ⟨.unit, 0x20070000, 0x0100, .linear 0x4 8, .val 0x0, 0x0, 0x0, 0x0⟩, -- LP_POSTPONED (R499)
    ⟨.unit, 0x20070000, 0x0200, .linear 0x10 8, .val 0x0, 0x8001FFFF, 0x0, 0x0⟩, -- LP_REG_BASE (R499)
    ⟨.unit, 0x20070000, 0x0204, .linear 0x10 8, .val 0x0, 0x1FFFF, 0x0, 0x0⟩, -- LP_REG_LIMIT (R499)
    ⟨.unit, 0x20070000, 0x0208, .linear 0x10 8, .val 0x0, 0x0FFF0FFF, 0x0, 0x0⟩, -- LP_REG_MASK (R499)
    ⟨.unit, 0x20070000, 0x1000, .linear 0x4 1024, .val 0x0, 0xFFFFFFFF, 0x0, 0x0⟩, -- LP_TRAIN (R499)
    ⟨.unit, 0x20080000, 0x0000, .linear 0x0 1, .val 0x1001, 0xFF03, 0x0, 0x0⟩, -- SC_CTRL (R498)
    ⟨.unit, 0x20080000, 0x0004, .linear 0x0 1, .val 0x0, 0x0, 0x3, 0x0⟩, -- SC_STAT (R498)
    ⟨.unit, 0x20080000, 0x0008, .linear 0x0 1, .val 0x0, 0x0, 0x0, 0xFFFFFFFF⟩, -- SC_CE_COUNT (R498)
    ⟨.unit, 0x20080000, 0x000C, .linear 0x0 1, .val 0x0, 0x0, 0x0, 0x0⟩, -- SC_UE_ADDR (R498)
    ⟨.unit, 0x20080000, 0x0010, .linear 0x0 1, .val 0x0, 0x0, 0x0, 0x0⟩, -- SC_RET_LO (R498)
    ⟨.unit, 0x20080000, 0x0014, .linear 0x0 1, .val 0x0, 0x0, 0x0, 0x0⟩, -- SC_RET_HI (R498)
    ⟨.unit, 0x20080000, 0x0100, .linear 0x20 16, .val 0x0, 0x0, 0x0, 0x0⟩, -- DMA_OWN (R498)
    ⟨.unit, 0x20080000, 0x0104, .linear 0x20 16, .val 0x0, 0x0, 0x0, 0x0⟩, -- DMA_CTRL (R498)
    ⟨.unit, 0x20080000, 0x0108, .linear 0x20 16, .val 0x0, 0xFFFE0, 0x0, 0x0⟩ -- DMA_DESC (R498)
  ]

/-- Rows 120 and following. -/
def regRows4 : List REntry :=
  [
    ⟨.unit, 0x20080000, 0x010C, .linear 0x20 16, .val 0x0, 0x0, 0x1E, 0x0⟩, -- DMA_STAT (R498)
    ⟨.unit, 0x20080000, 0x0110, .linear 0x20 16, .val 0x0, 0x0, 0x0, 0x0⟩, -- DMA_BYTES (R498)
    ⟨.unit, 0x20090000, 0x0000, .linear 0x0 1, .val 0x380, 0x0, 0x0, 0x0⟩, -- HL_STAT (R241)
    ⟨.unit, 0x20090000, 0x0004, .linear 0x0 1, .val 0xF, 0xF, 0x0, 0x0⟩, -- HL_CAP (R240)
    ⟨.unit, 0x20090000, 0x0008, .linear 0x0 1, .val 0x0, 0x0, 0x7FF, 0x0⟩, -- HL_FAULT (R242)
    ⟨.unit, 0x20090000, 0x000C, .linear 0x0 1, .val 0x0, 0x0, 0x0, 0x0⟩, -- SEAL_BLK_LO (R240)
    ⟨.unit, 0x20090000, 0x0010, .linear 0x0 1, .val 0x0, 0x0, 0x0, 0x0⟩, -- SEAL_BLK_HI (R240)
    ⟨.unit, 0x20090000, 0x0014, .linear 0x0 1, .val 0x0, 0x0, 0x0, 0x0⟩, -- SEAL_CRC_LO (R240)
    ⟨.unit, 0x20090000, 0x0018, .linear 0x0 1, .val 0x0, 0x0, 0x0, 0x0⟩, -- SEAL_CRC_HI (R240)
    ⟨.unit, 0x20090000, 0x001C, .linear 0x0 1, .val 0x0, 0x0, 0x0, 0x0⟩, -- SEAL_CLAIM (R240)
    ⟨.unit, 0x20090000, 0x0020, .linear 0x0 1, .val 0x0, 0x0, 0x0, 0xFFFFFFFF⟩, -- HL_FAULT_BLOCKS (R240)
    ⟨.unit, 0x20090000, 0x0024, .linear 0x0 1, .val 0x0, 0x0, 0x0, 0x0⟩, -- CE_WINDOW (R240)
    ⟨.unit, 0x20090000, 0x0028, .linear 0x0 1, .val 0x20, 0xFFFF, 0x0, 0x0⟩, -- HL_CE_LIMIT (R240)
    ⟨.unit, 0x20090000, 0x002C, .linear 0x0 1, .val 0x0, 0x0, 0x0, 0x0⟩, -- RESYNC_COUNT (R240)
    ⟨.unit, 0x20090000, 0x0030, .linear 0x0 1, .val 0x0, 0x0, 0x0, 0x0⟩, -- MATCH_RUN (R240)
    ⟨.unit, 0x200A0000, 0x0000, .linear 0x0 1, .val 0x0, 0x0, 0x1, 0x0⟩, -- BRIDGE_HB_LOSS (R25)
    ⟨.shared, 0x30000000, 0x0000, .linear 0x0 1, .val 0x1, 0x1, 0x0, 0x0⟩, -- TB_CTRL (R525)
    ⟨.shared, 0x30000000, 0x0004, .linear 0x0 1, .val 0x0, 0x0, 0x4F, 0x0⟩, -- TB_STAT (R525)
    ⟨.shared, 0x30000000, 0x0008, .linear 0x0 1, .val 0x0, 0xFFFFFFFF, 0x0, 0x0⟩, -- TB_INCR_LO (R525)
    ⟨.shared, 0x30000000, 0x000C, .linear 0x0 1, .val 0x2, 0xFF, 0x0, 0x0⟩, -- TB_INCR_HI (R525)
    ⟨.shared, 0x30000000, 0x0010, .linear 0x0 1, .val 0x0, 0xFFFFFFFF, 0x0, 0x0⟩, -- TB_STEP_LO (R525)
    ⟨.shared, 0x30000000, 0x0014, .linear 0x0 1, .val 0x0, 0xFFFFFFFF, 0x0, 0x0⟩, -- TB_STEP_HI (R525)
    ⟨.shared, 0x30000000, 0x0018, .linear 0x0 1, .val 0x0, 0x0, 0x0, 0x0⟩, -- TB_TIME_NS (R525)
    ⟨.shared, 0x30000000, 0x001C, .linear 0x0 1, .val 0x0, 0x0, 0x0, 0x0⟩, -- TB_TIME_SEC_LO (R525)
    ⟨.shared, 0x30000000, 0x0020, .linear 0x0 1, .val 0x0, 0x0, 0x0, 0x0⟩, -- TB_TIME_SEC_HI (R525)
    ⟨.shared, 0x30000000, 0x0024, .linear 0x0 1, .val 0x0, 0x0, 0x0, 0x0⟩, -- TB_TIME_FRAC (R525)
    ⟨.shared, 0x30000000, 0x0028, .linear 0x0 1, .val 0x0, 0x0, 0x0, 0x0⟩, -- SIDX_LO (R525)
    ⟨.shared, 0x30000000, 0x002C, .linear 0x0 1, .val 0x0, 0x0, 0x0, 0x0⟩, -- SIDX_HI (R525)
    ⟨.shared, 0x30000000, 0x0030, .linear 0x0 1, .val 0x0, 0x0, 0x0, 0x0⟩, -- TB_US_LO (R525)
    ⟨.shared, 0x30000000, 0x0034, .linear 0x0 1, .val 0x0, 0x0, 0x0, 0x0⟩ -- TB_US_HI (R525)
  ]

/-- Rows 150 and following. -/
def regRows5 : List REntry :=
  [
    ⟨.shared, 0x30000000, 0x0038, .linear 0x0 1, .val 0x0, 0x0, 0x0, 0x0⟩, -- PPS_IN_NS (R525)
    ⟨.shared, 0x30000000, 0x003C, .linear 0x0 1, .val 0x0, 0x0, 0x0, 0x0⟩, -- PPS_IN_SEC (R525)
    ⟨.shared, 0x30000000, 0x0040, .linear 0x0 1, .val 0x0, 0x0, 0x0, 0x0⟩, -- TB_MC_OFFSET (R525)
    ⟨.shared, 0x30000000, 0x0044, .linear 0x0 1, .val 0x1, 0x1, 0x0, 0x0⟩, -- MC_CTRL (R525)
    ⟨.shared, 0x30010000, 0x0000, .linear 0x1000 5, .val 0x8, 0x17, 0x0, 0x0⟩, -- PORT_CTRL (R339)
    ⟨.shared, 0x30010000, 0x0004, .linear 0x1000 5, .val 0x0, 0x0, 0x1C0, 0x0⟩, -- PORT_STAT (R340)
    ⟨.shared, 0x30010000, 0x0008, .linear 0x1000 5, .val 0x5EE, 0x3FFF, 0x0, 0x0⟩, -- PORT_MAX_FRAME (R338)
    ⟨.shared, 0x30010000, 0x000C, .linear 0x1000 5, .val 0x0, 0xFFFFFFFF, 0x0, 0x0⟩, -- MAC_LO (R338)
    ⟨.shared, 0x30010000, 0x0010, .linear 0x1000 5, .val 0x0, 0xFFFF, 0x0, 0x0⟩, -- MAC_HI (R338)
    ⟨.shared, 0x30010000, 0x0014, .linear 0x1000 5, .calc, 0x0, 0x0, 0x0⟩, -- TS_RX_LAT (R338)
    ⟨.shared, 0x30010000, 0x0018, .linear 0x1000 5, .calc, 0x0, 0x0, 0x0⟩, -- TS_TX_LAT (R338)
    ⟨.shared, 0x30010000, 0x0020, .linear 0x1000 5, .val 0x0, 0x0, 0x0, 0x0⟩, -- RX_FRAMES (R338)
    ⟨.shared, 0x30010000, 0x0024, .linear 0x1000 5, .val 0x0, 0x0, 0x0, 0x0⟩, -- TX_FRAMES (R338)
    ⟨.shared, 0x30010000, 0x0028, .linear 0x1000 5, .val 0x0, 0x0, 0x0, 0xFFFFFFFF⟩, -- RUNT (R338)
    ⟨.shared, 0x30010000, 0x002C, .linear 0x1000 5, .val 0x0, 0x0, 0x0, 0xFFFFFFFF⟩, -- GIANT (R338)
    ⟨.shared, 0x30010000, 0x0030, .linear 0x1000 5, .val 0x0, 0x0, 0x0, 0xFFFFFFFF⟩, -- FCS_ERR (R338)
    ⟨.shared, 0x30010000, 0x0034, .linear 0x1000 5, .val 0x0, 0x0, 0x0, 0xFFFFFFFF⟩, -- VLAN_DROP (R338)
    ⟨.shared, 0x30010000, 0x0038, .linear 0x1000 5, .val 0x0, 0x0, 0x0, 0xFFFFFFFF⟩, -- FILTER_DROP (R338)
    ⟨.shared, 0x30010000, 0x003C, .linear 0x1000 5, .val 0x0, 0x0, 0x0, 0xFFFFFFFF⟩, -- NOBUF_DROP (R338)
    ⟨.shared, 0x30010000, 0x0040, .linear 0x1000 5, .val 0x0, 0x0, 0x0, 0xFFFFFFFF⟩, -- RX_OVF_DROP (R338)
    ⟨.shared, 0x30010000, 0x0044, .linear 0x1000 5, .val 0x0, 0x0, 0x0, 0xFFFFFFFF⟩, -- TX_DESC_ERR (R338)
    ⟨.shared, 0x30010000, 0x0048, .linear 0x1000 5, .val 0x0, 0x0, 0x0, 0x7F⟩, -- PORT_FIFO_MAX (R338)
    ⟨.shared, 0x30010000, 0x0100, .ring, .val 0x100, 0xFFFF01FF, 0x0, 0x0⟩, -- XR_CTRL (R342)
    ⟨.shared, 0x30010000, 0x0104, .ring, .val 0x0, 0xFFFFFFE0, 0x0, 0x0⟩, -- XR_BASE (R341)
    ⟨.shared, 0x30010000, 0x0108, .ring, .val 0x4, 0xFF, 0x0, 0x0⟩, -- XR_BUF (R341)
    ⟨.shared, 0x30010000, 0x010C, .ring, .val 0x0, 0x0, 0x0, 0x0⟩, -- XR_HEAD (R341)
    ⟨.shared, 0x30010000, 0x0110, .ring, .val 0x0, 0xFFF, 0x0, 0x0⟩, -- XR_TAIL (R341)
    ⟨.shared, 0x30010000, 0x0114, .ring, .calc, 0x0, 0x0, 0x0⟩, -- XR_LEVEL (R341)
    ⟨.shared, 0x30010000, 0x0118, .ring, .val 0x0, 0x1FFF, 0x0, 0x0⟩, -- XR_WM (R341)
    ⟨.shared, 0x30010000, 0x011C, .ring, .val 0x0, 0x0, 0x0, 0x1FFF⟩ -- XR_MAX (R341)
  ]

/-- Rows 180 and following. -/
def regRows6 : List REntry :=
  [
    ⟨.shared, 0x30010000, 0x0120, .ring, .val 0x0, 0x0, 0x39, 0x0⟩, -- XR_STAT (R343)
    ⟨.shared, 0x30010000, 0x0800, .hash, .val 0x0, 0x0, 0x0, 0x0⟩, -- HASH (R338)
    ⟨.shared, 0x30020000, 0x0000, .linear 0x0 1, .val 0x0, 0x1, 0x0, 0x0⟩, -- SE_CTRL (R345)
    ⟨.shared, 0x30020000, 0x0004, .linear 0x0 1, .val 0x0, 0x0, 0x33, 0x0⟩, -- SE_STAT (R345)
    ⟨.shared, 0x30020000, 0x0008, .linear 0x0 1, .val 0x0, 0x0, 0x0, 0x0⟩, -- SE_CLOSED_LO (R345)
    ⟨.shared, 0x30020000, 0x000C, .linear 0x0 1, .val 0x0, 0x0, 0x0, 0x0⟩, -- SE_CLOSED_HI (R345)
    ⟨.shared, 0x30020000, 0x0010, .linear 0x0 1, .val 0x0, 0x0, 0x0, 0x0⟩, -- SE_PPS_X (R345)
    ⟨.shared, 0x30020000, 0x0014, .linear 0x0 1, .val 0x0, 0x0, 0x0, 0x0⟩, -- SE_PPS_Y (R345)
    ⟨.shared, 0x30020000, 0x0018, .linear 0x0 1, .val 0x0, 0x0, 0x0, 0x7F007F⟩, -- SE_FIFO_MAX (R345)
    ⟨.shared, 0x30020000, 0x001C, .linear 0x0 1, .val 0x0, 0x0, 0x0, 0xFFFFFFFF⟩, -- SE_DROP_X (R345)
    ⟨.shared, 0x30020000, 0x0020, .linear 0x0 1, .val 0x0, 0x0, 0x0, 0xFFFFFFFF⟩, -- SE_DROP_Y (R345)
    ⟨.shared, 0x30020000, 0x0024, .linear 0x0 1, .val 0x0, 0x0, 0x0, 0xFFFFFFFF⟩, -- SE_CE_COUNT (R345)
    ⟨.shared, 0x30020000, 0x0028, .linear 0x0 1, .val 0x0, 0x0, 0x0, 0x0⟩, -- CAP_OWN (R345)
    ⟨.shared, 0x30030000, 0x0000, .linear 0x0 1, .val 0x0, 0x0, 0x0, 0x0⟩, -- ARB_CMD (R527)
    ⟨.shared, 0x30030000, 0x0004, .linear 0x0 1, .val 0x0, 0x0, 0x3F00, 0x0⟩, -- ARB_STAT (R527)
    ⟨.shared, 0x30030000, 0x0008, .linear 0x0 1, .val 0x8, 0x0, 0x0, 0x0⟩, -- ARB_HOLD (R527)
    ⟨.shared, 0x30030000, 0x000C, .linear 0x0 1, .val 0x8, 0x7F, 0x0, 0x0⟩, -- ARB_HOLD_NEXT (R527)
    ⟨.shared, 0x30030000, 0x0010, .linear 0x0 1, .val 0x0, 0xFFFFFFFF, 0x0, 0x0⟩, -- ARB_HOLD_AT_LO (R527)
    ⟨.shared, 0x30030000, 0x0014, .linear 0x0 1, .val 0x0, 0x7FFFFFF, 0x0, 0x0⟩, -- ARB_HOLD_AT_HI (R527)
    ⟨.shared, 0x30030000, 0x0018, .linear 0x0 1, .val 0x0, 0x0, 0x0, 0x0⟩, -- ARB_CLAIM (R527)
    ⟨.shared, 0x30030000, 0x001C, .linear 0x0 1, .val 0x0, 0x0, 0x0, 0x0⟩, -- ARB_BLK_LO (R527)
    ⟨.shared, 0x30030000, 0x0020, .linear 0x0 1, .val 0x0, 0x0, 0x0, 0x0⟩, -- ARB_BLK_HI (R527)
    ⟨.shared, 0x30030000, 0x0024, .linear 0x4 8, .val 0x0, 0x0, 0x0, 0x0⟩, -- ARB_COUNT (R527)
    ⟨.shared, 0x30030000, 0x0044, .linear 0x0 1, .val 0x0, 0x0, 0x0, 0x0⟩, -- LAST_EVT_LO (R527)
    ⟨.shared, 0x30030000, 0x0048, .linear 0x0 1, .val 0x0, 0x0, 0x0, 0x0⟩, -- LAST_EVT_HI (R527)
    ⟨.shared, 0x30040000, 0x0000, .linear 0x100 8, .val 0x0, 0x0, 0xE, 0x0⟩, -- TDM_STAT (R346)
    ⟨.shared, 0x30040000, 0x0004, .linear 0x100 8, .val 0x0, 0x0, 0x0, 0x0⟩, -- TDM_FRAMES_REG (R346)
    ⟨.shared, 0x30040000, 0x0008, .linear 0x100 8, .val 0x0, 0x0, 0x0, 0x0⟩, -- TDM_START_LO (R346)
    ⟨.shared, 0x30040000, 0x000C, .linear 0x100 8, .val 0x0, 0x0, 0x0, 0x0⟩, -- TDM_START_HI (R346)
    ⟨.shared, 0x30040000, 0x0010, .linear 0x100 8, .val 0x108, 0x0, 0x0, 0x0⟩ -- TDM_CFG (R346)
  ]

/-- Rows 210 and following. -/
def regRows7 : List REntry :=
  [
    ⟨.shared, 0x30040000, 0x0800, .linear 0x0 1, .val 0x0, 0x0, 0x0, 0x0⟩, -- TDM7_OWN (R346)
    ⟨.shared, 0x30050000, 0x0000, .linear 0x0 1, .val 0x0, 0x3, 0x0, 0x0⟩, -- MB_CTRL (R462)
    ⟨.shared, 0x30050000, 0x0004, .linear 0x0 1, .val 0x0, 0x0, 0x1C2, 0x0⟩, -- MB_STAT (R463)
    ⟨.shared, 0x30050000, 0x0008, .linear 0x0 1, .val 0x1, 0xFFFFFFFF, 0x0, 0x0⟩, -- JSEQ_LO (R462)
    ⟨.shared, 0x30050000, 0x000C, .linear 0x0 1, .val 0x0, 0xFFFFFFFF, 0x0, 0x0⟩, -- JSEQ_HI (R462)
    ⟨.shared, 0x30050000, 0x0010, .linear 0x0 1, .val 0x0, 0x3FFF, 0x0, 0x0⟩, -- JRNL_WR (R462)
    ⟨.shared, 0x30050000, 0x0014, .linear 0x0 1, .val 0x0, 0x0, 0x0, 0x0⟩, -- JRNL_RD_A (R462)
    ⟨.shared, 0x30050000, 0x0018, .linear 0x0 1, .val 0x0, 0x0, 0x0, 0x0⟩, -- JRNL_RD_B (R462)
    ⟨.shared, 0x30050000, 0x001C, .linear 0x0 1, .val 0x0, 0x0, 0x0, 0x0⟩, -- RESTART_INFO (R462)
    ⟨.shared, 0x30050000, 0x0020, .linear 0x0 1, .val 0x0, 0x0, 0x0, 0x0⟩, -- MWDT_KICK (R462)
    ⟨.shared, 0x30050000, 0x0024, .linear 0x0 1, .val 0x3E8, 0xFFFF, 0x0, 0x0⟩, -- MWDT_TIMEOUT (R462)
    ⟨.shared, 0x30050000, 0x0040, .linear 0x4 3, .val 0x0, 0x0, 0x0, 0x0⟩, -- EVQ_LEVEL (R462)
    ⟨.shared, 0x30050000, 0x0060, .linear 0x4 3, .val 0x0, 0x0, 0x0, 0x0⟩, -- EVQ_PUSH (R462)
    ⟨.shared, 0x30050000, 0x0100, .linear 0x4 24, .val 0x0, 0x0, 0x0, 0x0⟩, -- GPIO_OWN (R462)
    ⟨.shared, 0x30060000, 0x0000, .linear 0x0 1, .val 0x0, 0x7, 0x0, 0x0⟩, -- KO_CTRL (R429)
    ⟨.shared, 0x30060000, 0x0004, .linear 0x0 1, .val 0x0, 0x0, 0xE6, 0x0⟩, -- KO_STAT (R430)
    ⟨.shared, 0x30060000, 0x0008, .linear 0x0 1, .val 0x0, 0x0, 0x0, 0x0⟩, -- KO_RESULT_SEQ (R429)
    ⟨.shared, 0x30060000, 0x000C, .linear 0x0 1, .val 0x0, 0x0, 0x0, 0xFFFFFFFF⟩, -- KO_FRAME_ERR (R429)
    ⟨.shared, 0x30060000, 0x0010, .linear 0x0 1, .val 0x0, 0xFFFFFFFF, 0x0, 0x0⟩, -- KO_LOG_REQ (R429)
    ⟨.shared, 0x30060000, 0x0014, .linear 0x0 1, .val 0x0, 0x0, 0x0, 0x0⟩, -- KO_IMG_DATA (R429)
    ⟨.shared, 0x30060000, 0x0018, .linear 0x0 1, .val 0x0, 0x0, 0x0, 0x0⟩, -- KO_IMG_CTRL (R429)
    ⟨.shared, 0x30060000, 0x001C, .linear 0x0 1, .val 0x0, 0x0, 0x0, 0xFFFFFFFF⟩, -- KO_RAW_DROP (R429)
    ⟨.shared, 0x30070000, 0x0000, .linear 0x40 16, .val 0x0, 0x0, 0x0, 0x0⟩, -- TT_OWN (R526)
    ⟨.shared, 0x30070000, 0x0004, .linear 0x40 16, .val 0x0, 0xFF07, 0x0, 0x0⟩, -- TT_ACTION (R526)
    ⟨.shared, 0x30070000, 0x0008, .linear 0x40 16, .val 0x0, 0xFFFFFFFF, 0x0, 0x0⟩, -- TT_START_LO (R526)
    ⟨.shared, 0x30070000, 0x000C, .linear 0x40 16, .val 0x0, 0xFFFFFFFF, 0x0, 0x0⟩, -- TT_START_HI (R526)
    ⟨.shared, 0x30070000, 0x0010, .linear 0x40 16, .val 0x0, 0xFFFFFFFF, 0x0, 0x0⟩, -- TT_PERIOD (R526)
    ⟨.shared, 0x30070000, 0x0014, .linear 0x40 16, .val 0x0, 0xFFFFFFFF, 0x0, 0x0⟩, -- TT_COUNT (R526)
    ⟨.shared, 0x30070000, 0x0018, .linear 0x40 16, .val 0x1, 0xFFFFFFFF, 0x0, 0x0⟩, -- TT_WIDTH (R526)
    ⟨.shared, 0x30070000, 0x001C, .linear 0x40 16, .val 0x0, 0x0, 0x100, 0x0⟩ -- TT_STATE (R526)
  ]

/-- Rows 240 and following. -/
def regRows8 : List REntry :=
  [
    ⟨.shared, 0x30070000, 0x0020, .linear 0x40 16, .val 0x0, 0x0, 0x0, 0x0⟩, -- TT_FIRED (R526)
    ⟨.shared, 0x30070000, 0x0024, .linear 0x40 16, .val 0x0, 0x0, 0x0, 0x0⟩ -- TT_DISARM (R526)
  ]

/-- Every register row. -/
def regTable : List REntry :=
  regRows0 ++ regRows1 ++ regRows2 ++ regRows3 ++ regRows4 ++ regRows5 ++ regRows6 ++ regRows7 ++ regRows8

/-- Whether a register offset from a row's block is one of the row's registers. -/
def REntry.covers (r : REntry) (addr : Nat) : Bool :=
  match r.stride with
  | .linear step count =>
    if addr < r.base + r.off then false
    else
      let d := addr - (r.base + r.off)
      if step = 0 then d == 0 else d % step == 0 && d / step < count
  | .ring =>
    if addr < r.base then false
    else
      let d := addr - r.base
      let p := d / 0x1000
      let o := d % 0x1000
      p < 5 && 0x100 ≤ o && o < 0x300 && (o - 0x100) % 0x40 == r.off - 0x100
  | .hash =>
    if addr < r.base then false
    else
      let d := addr - r.base
      let o := d % 0x1000
      d / 0x1000 < 5 && 0x800 ≤ o && o < 0xA00 && o % 4 == 0

/-- The row of a register address. -/
def regFind (addr : Nat) : Option REntry := regTable.find? (fun r => r.covers addr)

end Sys2Proof.Machine
end

