-- ==== Sys2Proof/Machine/NovilCode.lean ====
section
/-!
DEFINITION. The Novil instruction words (R253, R254): the formats, decoding and encoding, and the layouts of images and
job graphs (R262, R268).
-/
namespace Sys2Proof.Machine
open Sys2Proof

/-! ### Instruction words -/

/-- A Novil instruction by format (R253); functions are coded as in R254. -/
inductive NvInsn where
  | control (fn cond lcs target : Nat)
  | alu (fn dd da db : Nat)
  | imm (fn dd imm : Nat)
  | ldst (st : Bool) (mem d ptr : Nat) (upd : Bool)
  | move (fromSpecial : Bool) (d sp : Nat)
  | acc (fn aa dd sh : Nat) (rm : Bool) (ab : Nat)
  | dma (ptr : Nat)
  | mac (fn : Nat) (m : MacOp)
deriving DecidableEq, Repr

/-- A special register that a move may read (R254). -/
def spReadable (sp : Nat) : Bool := sp ≤ 0x25

/-- A special register that a move may write (R254). -/
def spWritable (sp : Nat) : Bool := sp ≤ 0x22

/-- The fields lie in their ranges and no function, condition, memory or special code is reserved. -/
def NvInsn.wf : NvInsn → Bool
  | .control fn cond lcs target => fn < 7 && cond < 11 && lcs < 2 && target < 0x10000
  | .alu fn dd da db => fn < 16 && dd < 16 && da < 16 && db < 16
  | .imm fn dd v => fn < 7 && dd < 16 && v < 0x10000
  | .ldst _ mem d ptr _ => mem < 3 && d < 16 && ptr < 8
  | .move fromSp d sp => d < 16 && (if fromSp then spReadable sp else spWritable sp)
  | .acc fn aa dd sh _ ab => fn < 7 && aa < 4 && dd < 16 && sh < 64 && ab < 4
  | .dma ptr => ptr < 8
  | .mac fn m => fn < 4 && m.aa < 4 && m.da < 16 && m.db < 16 && m.xp < 8 && m.xd < 8 && m.yp < 8 && m.yd < 8

/-- A flag as a bit. -/
def bit01 (b : Bool) : Nat := if b then 1 else 0

/-- The fields of a word by its major opcode, reserved bits unchecked (R253). -/
def nvFields (w : Nat) : Option NvInsn :=
  match natBits w 27 5 with
  | 0 => some (.control (natBits w 24 3) (natBits w 20 4) (natBits w 19 1) (natBits w 0 16))
  | 1 => some (.alu (natBits w 23 4) (natBits w 19 4) (natBits w 15 4) (natBits w 11 4))
  | 2 => some (.imm (natBits w 20 3) (natBits w 23 4) (natBits w 0 16))
  | 3 => some (.ldst (natBit w 26) (natBits w 24 2) (natBits w 20 4) (natBits w 17 3) (natBit w 16))
  | 4 => some (.move (natBit w 26) (natBits w 22 4) (natBits w 16 6))
  | 5 => some (.acc (natBits w 24 3) (natBits w 22 2) (natBits w 18 4) (natBits w 12 6) (natBit w 11) (natBits w 9 2))
  | 6 => some (.dma (natBits w 24 3))
  | 8 => some (.mac (natBits w 25 2) ⟨natBits w 23 2, natBits w 19 4, natBits w 15 4, natBit w 14, natBits w 11 3,
      natBits w 8 3, natBit w 7, natBits w 4 3, natBits w 1 3, natBit w 0⟩)
  | _ => none

/-- The word of an instruction (R253). -/
def nvEncode : NvInsn → Nat
  | .control fn cond lcs target => fn * 2 ^ 24 + cond * 2 ^ 20 + lcs * 2 ^ 19 + target
  | .alu fn dd da db => 2 ^ 27 + fn * 2 ^ 23 + dd * 2 ^ 19 + da * 2 ^ 15 + db * 2 ^ 11
  | .imm fn dd v => 2 * 2 ^ 27 + dd * 2 ^ 23 + fn * 2 ^ 20 + v
  | .ldst st mem d ptr upd =>
    3 * 2 ^ 27 + bit01 st * 2 ^ 26 + mem * 2 ^ 24 + d * 2 ^ 20 + ptr * 2 ^ 17 + bit01 upd * 2 ^ 16
  | .move fromSp d sp => 4 * 2 ^ 27 + bit01 fromSp * 2 ^ 26 + d * 2 ^ 22 + sp * 2 ^ 16
  | .acc fn aa dd sh rm ab =>
    5 * 2 ^ 27 + fn * 2 ^ 24 + aa * 2 ^ 22 + dd * 2 ^ 18 + sh * 2 ^ 12 + bit01 rm * 2 ^ 11 + ab * 2 ^ 9
  | .dma ptr => 6 * 2 ^ 27 + ptr * 2 ^ 24
  | .mac fn m =>
    8 * 2 ^ 27 + fn * 2 ^ 25 + m.aa * 2 ^ 23 + m.da * 2 ^ 19 + m.db * 2 ^ 15 + bit01 m.xe * 2 ^ 14 + m.xp * 2 ^ 11 +
      m.xd * 2 ^ 8 + bit01 m.ye * 2 ^ 7 + m.yp * 2 ^ 4 + m.yd * 2 + bit01 m.pb

/-- The instruction that a word holds: none where a major opcode is not listed, a reserved bit is not 0 or a function code
is reserved (R253). -/
def nvDecode (w : Nat) : Option NvInsn :=
  match nvFields w with
  | some i => if i.wf && nvEncode i == w then some i else none
  | none => none

/-! ### Images (R268) -/

/-- A region record. -/
structure NvRegion where
  mem : Nat
  kind : Nat
  start : Nat
  words : Nat
  window : Nat
deriving DecidableEq, Repr

/-- A big-endian field of a byte sequence. -/
def fieldAt (b : List Byte) (off n : Nat) : Nat := beNat ((b.drop off).take n)

/-- CODE_WORDS of an image. -/
def imgCode (b : List Byte) : Nat := fieldAt b 4 2
/-- ENTRIES of an image. -/
def imgEntries (b : List Byte) : Nat := fieldAt b 6 2
/-- REGIONS of an image. -/
def imgRegionCount (b : List Byte) : Nat := fieldAt b 8 2
/-- Entry k of an image. -/
def imgEntry (b : List Byte) (k : Nat) : Nat := fieldAt b (16 + 4 * k) 4

/-- The region records of an image. -/
def imgRegions (b : List Byte) : List NvRegion :=
  (List.range (imgRegionCount b)).map (fun k =>
    let o := 80 + 16 * k
    ⟨fieldAt b o 1, fieldAt b (o + 1) 1, fieldAt b (o + 4) 4, fieldAt b (o + 8) 4, fieldAt b (o + 12) 4⟩)

/-- The first byte of the code. -/
def imgCodeAt (b : List Byte) : Nat := 80 + 16 * imgRegionCount b

/-- Successive big-endian words. -/
def wordsAt (b : List Byte) (off : Nat) : Nat → List Nat
  | 0 => []
  | n + 1 => fieldAt b off 4 :: wordsAt b (off + 4) n

/-- The code words of an image. -/
def imgCodeWords (b : List Byte) : List Nat := wordsAt b (imgCodeAt b) (imgCode b)

/-- The constant regions of an image with the word offset of their contents behind the code. -/
def constOffsets : List NvRegion → Nat → List (NvRegion × Nat)
  | [], _ => []
  | r :: l, o => if r.kind = 0 then (r, o) :: constOffsets l (o + r.words) else constOffsets l o

/-- The constant regions of an image with their words. -/
def imgConstants (b : List Byte) : List (NvRegion × List Nat) :=
  (constOffsets (imgRegions b) 0).map (fun e =>
    (e.1, wordsAt b (imgCodeAt b + 4 * (imgCode b + e.2)) e.1.words))

/-- The words that an image's memory of a code holds, in virtual words (R268). -/
def memLimit (mem : Nat) : Nat := if mem = 0 then 0x8000 else if mem = 1 then 0x7F00 else 25165824

/-- Two ranges share a word. -/
def rangesMeet (a n b m : Nat) : Bool := 0 < n && 0 < m && a < b + m && b < a + n

/-- Two elements of a list at different places stand in a relation. -/
def anyPair {α : Type} (p : α → α → Bool) : List α → Bool
  | [] => false
  | a :: l => l.any (p a) || anyPair p l

/-- A region record is one that R268 allows. -/
def NvRegion.ok (r : NvRegion) : Bool :=
  r.mem ≤ 2 && r.kind ≤ 4 && !(r.mem == 2 && r.kind == 0) && r.start + r.words ≤ memLimit r.mem &&
    (if r.kind = 2 then r.window ≤ 65536 else r.window == 0)

/-- The image passes the tests of R268. -/
def imgOk (b : List Byte) : Bool :=
  let rs := imgRegions b
  let consts := ((rs.filter (fun r => r.kind == 0)).map (·.words)).sum
  fieldAt b 0 4 == 1 && 1 ≤ imgCode b && imgCode b ≤ 8192 && 1 ≤ imgEntries b && imgEntries b ≤ 16 &&
    imgRegionCount b ≤ 16 && fieldAt b 10 2 == 0 &&
    b.length == 80 + 16 * imgRegionCount b + 4 * imgCode b + 4 * consts &&
    (List.range 16).all (fun k => if k < imgEntries b then imgEntry b k < imgCode b else imgEntry b k == 0) &&
    (List.range (imgRegionCount b)).all (fun k => fieldAt b (82 + 16 * k) 2 == 0) &&
    rs.all NvRegion.ok && !anyPair (fun x y => x.mem == y.mem && rangesMeet x.start x.words y.start y.words) rs

/-! ### Job graphs (R262) -/

/-- A job record of the graph (R262). -/
structure NvJob where
  id : Nat
  engine : Nat
  image : Nat
  entry : Nat
  flow : Nat
  budget : Nat
  dmaBytes : Nat
  winBytes : Nat
  insFirst : Nat
  insCount : Nat
  busFirst : Nat
  busCount : Nat
  exchFirst : Nat
  exchWords : Nat
  deps : List Nat
  pBase : Nat
  xBase : Nat
  yBase : Nat
  lpBase : Nat
deriving DecidableEq, Repr

/-- The job record at an offset. -/
def jobAt (b : List Byte) (o : Nat) : NvJob :=
  let f := fun (k n : Nat) => fieldAt b (o + k) n
  { id := f 0 1, engine := f 1 1, image := f 2 1, entry := f 3 1, flow := f 4 2, budget := f 8 4, dmaBytes := f 12 4
    winBytes := f 16 4, insFirst := f 20 2, insCount := f 22 1, busFirst := f 23 1, busCount := f 24 1
    exchFirst := f 28 4, exchWords := f 32 4
    deps := ((List.range 8).map (fun k => f (36 + k) 1)).filter (· ≠ 0xFF)
    pBase := f 44 2, xBase := f 46 2, yBase := f 48 2, lpBase := f 52 4 }

/-- RATE of a graph image. -/
def graphRate (b : List Byte) : Nat := fieldAt b 4 4

/-- The jobs of a graph image. -/
def graphJobs (b : List Byte) : List NvJob := (List.range (fieldAt b 8 2)).map (fun k => jobAt b (16 + 64 * k))

/-- The reserved bytes of the job record at an offset are 0. -/
def jobReserved (b : List Byte) (o : Nat) : Bool :=
  fieldAt b (o + 6) 2 == 0 && fieldAt b (o + 25) 3 == 0 && fieldAt b (o + 50) 2 == 0 && fieldAt b (o + 56) 8 == 0

/-- JOB_IDs strictly rise. -/
def jobsRise : List NvJob → Bool
  | [] => true
  | [_] => true
  | a :: b :: l => a.id < b.id && jobsRise (b :: l)

/-- The header and the form of a graph image (R262). -/
def graphForm (b : List Byte) : Bool :=
  let n := fieldAt b 8 2
  fieldAt b 0 4 == 1 && (graphRate b == 48000 || graphRate b == 96000) && n ≤ 255 && fieldAt b 10 6 == 0 &&
    b.length == 16 + 64 * n && (List.range n).all (fun k => jobReserved b (16 + 64 * k)) && jobsRise (graphJobs b)

/-- The engine block budget in slots (R38, R265). -/
def slotLimit (rate : Nat) : Nat := if rate = 96000 then 100000 else 200000

/-- The previous job of the same flow, by JOB_ID. -/
def flowPrev (g : List NvJob) (j : NvJob) : Option NvJob :=
  if j.flow = 0 then none else (g.filter (fun k => k.flow == j.flow && decide (k.id < j.id))).getLast?

/-- The previous job of the same engine. -/
def enginePrev (g : List NvJob) (j : NvJob) : Option NvJob :=
  (g.filter (fun k => k.engine == j.engine && decide (k.id < j.id))).getLast?

/-- The jobs that a job follows by a path of DEPS or FLOW, for the jobs of a list in rising JOB_ID. -/
def ancestors (g : List NvJob) : List NvJob → List (Nat × List Nat) → List (Nat × List Nat)
  | [], m => m
  | j :: l, m =>
    let direct := j.deps ++ ((flowPrev g j).map (·.id)).toList
    let all := direct ++ direct.flatMap (fun d => ((m.find? (fun e => e.1 == d)).map (·.2)).getD [])
    ancestors g l ((j.id, all.eraseDups) :: m)

/-- One job follows the other. -/
def ordered (m : List (Nat × List Nat)) (a b : NvJob) : Bool :=
  let of := fun (x : NvJob) => ((m.find? (fun e => e.1 == x.id)).map (·.2)).getD []
  (of b).contains a.id || (of a).contains b.id

/-- The field ranges of a job record against its image (R262, R263). -/
def jobOk (rate : Nat) (img : Nat → List Byte) (g : List NvJob) (j : NvJob) : Bool :=
  let b := img j.image
  let rs := imgRegions b
  let reach := fun (mem : Nat) => (rs.filter (fun r => r.mem == mem)).foldl (fun m r => max m (r.start + r.words)) 0
  j.id ≤ 254 && j.engine ≤ 15 && j.image ≤ 31 && j.entry ≤ 15 && !b.isEmpty && j.entry < imgEntries b &&
    1 ≤ j.budget && j.budget ≤ slotLimit rate && j.insCount ≤ 64 && j.busCount ≤ 64 &&
    (j.insCount == 0 || j.insFirst + j.insCount ≤ 1024) && (j.busCount == 0 || j.busFirst + j.busCount ≤ 256) &&
    (j.exchWords == 0 || j.exchFirst + j.exchWords ≤ 134217728) &&
    j.deps.all (fun d => decide (d < j.id) && g.any (fun k => k.id == d)) &&
    j.pBase + imgCode b ≤ 8192 && j.xBase + reach 0 ≤ 0x8000 && j.yBase + reach 1 ≤ 0x7F00 &&
    j.lpBase + reach 2 ≤ 25165824 &&
    (!rs.any (fun r => r.kind == 4) || (j.insCount == 0 && j.busCount == 0 && j.exchWords == 0))

/-- The physical ranges of a job: memory (3 for P), first word, words. -/
def jobRanges (img : Nat → List Byte) (j : NvJob) : List (Nat × Nat × Nat) :=
  let base := fun (mem : Nat) => if mem = 0 then j.xBase else if mem = 1 then j.yBase else j.lpBase
  (3, j.pBase, imgCode (img j.image)) :: (imgRegions (img j.image)).map (fun r => (r.mem, base r.mem + r.start, r.words))

/-- Two jobs of one engine claim a common word. -/
def jobsOverlap (img : Nat → List Byte) (a b : NvJob) : Bool :=
  a.engine == b.engine && (jobRanges img a).any (fun x => (jobRanges img b).any (fun y =>
    x.1 == y.1 && rangesMeet x.2.1 x.2.2 y.2.1 y.2.2))

/-- The stage commit's tests of R263. -/
def graphOk (img : Nat → List Byte) (b : List Byte) : Bool :=
  let g := graphJobs b
  let m := ancestors g g []
  graphForm b && g.all (jobOk (graphRate b) img g) && !anyPair (jobsOverlap img) g &&
    (List.range 16).all (fun e =>
      decide (((g.filter (fun j => j.engine == e)).map (fun j => imgCode (img j.image))).sum ≤ 8192)) &&
    !anyPair (fun x y => rangesMeet x.exchFirst x.exchWords y.exchFirst y.exchWords && !ordered m x y) g

/-- A job continues across a switch (R266). -/
def jobContinues (old : List NvJob) (j : NvJob) : Bool :=
  old.any (fun k => k.id == j.id && k.engine == j.engine && k.image == j.image && k.entry == j.entry &&
    k.pBase == j.pBase && k.xBase == j.xBase && k.yBase == j.yBase && k.lpBase == j.lpBase)

/-- The loader slots of a job in its switch block: 8 words per slot over its X and Y regions (R267). -/
def loaderSlots (img : Nat → List Byte) (j : NvJob) : Nat :=
  ((((imgRegions (img j.image)).filter (fun r => r.mem ≤ 1)).map (·.words)).sum + 7) / 8

/-- The finish of every job along the critical path, in slots (R265). -/
def finishes (g : List NvJob) : List NvJob → List (Nat × Nat) → List (Nat × Nat)
  | [], m => m
  | j :: l, m =>
    let of := fun (d : Nat) => ((m.find? (fun e => e.1 == d)).map (·.2)).getD 0
    let before := ((enginePrev g j).map (·.id)).toList ++ j.deps ++ ((flowPrev g j).map (·.id)).toList
    finishes g l ((j.id, (before.map of).foldl max 0 + j.budget) :: m)

/-- The admission of a graph (R265) beside the active one. -/
def graphAdmitted (rate : Nat) (img : Nat → List Byte) (old g : List NvJob) : Bool :=
  let k := if rate = 96000 then 1 else 2
  let on := fun (e : Nat) => g.filter (fun j => j.engine == e)
  let carried : NvJob → Nat := fun j => (((imgRegions (img j.image)).filter (fun r => r.kind == 1)).map (·.words)).sum
  (List.range 16).all (fun e =>
    let js := on e
    decide ((js.map (·.budget)).sum +
      ((js.filter (fun j => !jobContinues old j)).map (loaderSlots img)).sum ≤ k * 100000) &&
    decide ((js.map (·.dmaBytes)).sum ≤ k * 163840) && decide ((js.map (·.winBytes)).sum ≤ k * 262144)) &&
  (finishes g g []).all (fun e => decide (e.2 ≤ k * 150000)) &&
  (List.range 1024).all (fun f => decide ((g.filter (fun j =>
    decide (j.insFirst ≤ f) && decide (f < j.insFirst + j.insCount))).length ≤ 16)) &&
  (List.range 256).all (fun f => decide ((g.filter (fun j =>
    decide (j.busFirst ≤ f) && decide (f < j.busFirst + j.busCount))).length ≤ 64)) &&
  decide (4 * (g.map carried).sum ≤ 4194304)

end Sys2Proof.Machine
end

