-- ==== Sys2Proof/Machine/State.lean ====
section
/-!
DEFINITION. The state of the block as plain data: every register, counter, queue, buffer, mode and pin that the spec
gives the AFN-1024, the queue of commands that wait, the free-value counter and the list of what the block has sent.
Default values are the values right after power-on reset is applied (log entries 1 and 2).
-/
namespace Sys2Proof.Machine

/-! ### Collections -/

/-- A finite map with natural keys, kept with strictly rising keys. -/
abbrev Assoc (α : Type) := List (Nat × α)

/-- One stage's content of a fall-through FIFO: an item, or a gap marker with its count (R477). -/
inductive FItem (α : Type) where
  | item (v : α) (last : Bool)
  | gap (count : Nat)
deriving DecidableEq, Repr

/-- A fall-through FIFO: its items, the one at stage 0 first (R477 to R480). -/
structure Fifo (α : Type) where
  items : List (FItem α) := []
  /-- A DROP_PKT that has not met an end item yet (R478). -/
  dropping : Bool := false
  /-- Words of the item at stage 0 already read (R480). -/
  rdPos : Nat := 0
  peak : Nat := 0
  wm : Nat := 0x30
  crossed : Bool := false
  gapSeen : Bool := false
deriving DecidableEq, Repr

/-! ### Interrupts (chapter 16) -/

/-- A moderation group's live part (R522). -/
structure ModGroup where
  released : Bool := false
  /-- TB_US at which its first member became pending since the last release. -/
  since : Option Nat := none
  /-- IC_MOD as the hold in progress found it. -/
  cfg : Nat := 0
deriving DecidableEq, Repr

/-- One interrupt controller (R515 to R524). -/
structure IntCtl where
  /-- IC_SRCCFG bits [8:0] of the sources that differ from 0. -/
  srccfg : Assoc Nat := []
  /-- IC_ENABLE words. -/
  enable : Assoc Nat := []
  pend : List Nat := []
  insvc : List Nat := []
  threshold : Nat := 0
  badComplete : Bool := false
  /-- IC_MOD bits [15:0]. -/
  modCfg : Assoc Nat := []
  groups : Assoc ModGroup := []
  timecmpLo : Nat := 0xFFFFFFFF
  timecmp : Nat := 0xFFFFFFFFFFFF
deriving DecidableEq, Repr

/-! ### Timebase, media clock and PTP (chapter 02) -/

/-- The timebase and the media clock (R40 to R53). -/
structure Timebase where
  en : Bool := true
  sec : Nat := 0
  ns : Nat := 0
  frac : Nat := 0
  /-- TB_INCR, Q8.32 nanoseconds. -/
  incr : Nat := 0x200000000
  incrLo : Nat := 0
  stepLo : Nat := 0
  /-- TB_US, and the increments accumulated since its last step in units of 2^-32 ns (R505). -/
  us : Nat := 0
  usAcc : Nat := 0
  pps : Bool := false
  /-- Timebase time left of the PPS_OUT pulse in units of 2^-32 ns (R44). -/
  ppsLeft : Nat := 0
  ppsInNs : Nat := 0
  ppsInSec : Nat := 0
  /-- The media-clock offset e in units of 2^-32 ns (R49). -/
  offset : Int := 0
  /-- Index of the last sample tick emitted. -/
  sidx : Nat := 0
  mclkEn : Bool := true
  /-- MCLK_OUT runs: enabled and a sample tick has come since. -/
  mclkRun : Bool := false
deriving DecidableEq, Repr

/-- The lock states of R47. -/
inductive Lock where
  | freerun | acquiring | locked | holdover
deriving DecidableEq, Repr

/-- The PTP stack and servo as far as their state is visible (R45 to R47). -/
structure Ptp where
  lock : Lock := .freerun
  /-- Offset from the leader in units of 2^-16 ns. -/
  offset : Int := 0
  goodRun : Nat := 0
  badRun : Nat := 0
  /-- The stack runs on the backup port (R46). -/
  onBackup : Bool := false
  /-- A time of day that the next PPS_IN edge takes (R70). -/
  tod : Option (Nat × Nat) := none
  syncSeq : Nat := 0
  /-- Clock identity of the leader that the last Announce named (R45, R331). -/
  leader : Option Nat := none
deriving DecidableEq, Repr

/-! ### Time triggers, owner words and GPIO (chapters 01, 02, 12) -/

/-- The states of a trigger (R66). -/
inductive TrigState where
  | idle | armed | done | missed
deriving DecidableEq, Repr

/-- One time trigger (R66, R526). -/
structure Trigger where
  action : Nat := 0
  target : Nat := 0
  start : Nat := 0
  startLo : Nat := 0
  period : Nat := 0
  count : Nat := 0
  width : Nat := 1
  state : TrigState := .idle
  fired : Nat := 0
  /-- Index k of the next firing START + k PERIOD. -/
  nextK : Nat := 0
  cfgRej : Bool := false
deriving DecidableEq, Repr

/-- An owner word (R31). -/
structure OwnerWord where
  owner : Nat := 0
  lastRefused : Bool := false
deriving DecidableEq, Repr

/-- One GPIO ball (R389, R390). -/
structure Gpio where
  func : Nat := 0
  pol : Nat := 0
  out : Bool := false
  /-- Pulses in progress: trigger and the sample index at which each ends (R68). -/
  pulses : List (Nat × Nat) := []
  /-- Level that the silence group drives under function 3. -/
  sil : Bool := false
deriving DecidableEq, Repr

/-! ### Task scheduler (chapter 16) -/

/-- A firmware work item (R506), with the number that orders entries into the priority lists. -/
structure SvItem where
  arg : Nat
  func : Nat
  flow : Nat
  prio : Nat
  delayed : Bool := false
  stamp : Nat := 0
deriving DecidableEq, Repr

/-- One priority list: its on-chip part and its spilled part, oldest first. -/
structure SvList where
  chip : List SvItem := []
  spilled : List SvItem := []
deriving DecidableEq, Repr

/-- One unit's Sieve (R506 to R514). -/
structure Sieve where
  lists : Assoc SvList := []
  /-- Delayed items with their due times, in due order (R510). -/
  delay : List (Nat × SvItem) := []
  insvc : List Nat := []
  stamp : Nat := 0
  push0 : Nat := 0
  push1 : Nat := 0
  push2 : Nat := 0
  pushRes : Nat := 0
  pop1 : Nat := 0
  pop2 : Nat := 0
  pop3 : Nat := 0
  /-- JOB_ID of the last job of each graph flow ended in the current block (R513). -/
  flowEnded : Assoc Nat := []
deriving DecidableEq, Repr
/-! ### Bus matrix, SRAM, DMA and LP5 memory (chapter 15) -/

/-- A request outstanding in the matrix: its target, TB_US of its arrival, and whether the bridge cannot complete it
(R27, R467). -/
structure Outst where
  req : Burst
  target : Nat
  us : Nat
  stall : Bool
deriving DecidableEq, Repr

/-- A DMA descriptor (R475). -/
structure DmaDesc where
  src : Nat
  dst : Nat
  len : Nat
  next : Nat
  last : Bool
  irq : Bool
deriving DecidableEq, Repr

/-- One DMA channel's live part (R475, R476). -/
structure DmaChan where
  busy : Bool := false
  /-- Offset of the current or failing descriptor. -/
  cur : Nat := 0
  bytes : Nat := 0
  /-- The descriptor at work once it has been read, the bytes of it that have moved, and bytes read that are not yet written. -/
  desc : Option DmaDesc := none
  part : Nat := 0
  buf : List Byte := []
deriving DecidableEq, Repr

/-- A change of the LP5 set point in progress (R492). -/
inductive FreqPhase where
  | idle
  /-- Waits for a training step to end. -/
  | deferred (target : Nat)
  /-- Traffic stopped while the stored results are loaded, or while the controller retrains. -/
  | changing (target : Nat) (retrain : Bool)
deriving DecidableEq, Repr

/-- The LP5 controller's live part (R489 to R501). -/
structure Lp5 where
  setpoint : Nat := 0
  freq : FreqPhase := .idle
  /-- A FREQ_REQ or SR_REQ write held while a change or a self-refresh transition runs (R494). -/
  heldFreq : Option Nat := none
  heldSr : Option Nat := none
  /-- A periodic training step gathers data. -/
  training : Bool := false
  selfRefresh : Bool := false
  derate : Bool := false
  /-- Set points with stored training results. -/
  trained : List Nat := []
  postponed : Assoc Nat := []
  /-- The neighbour-refresh LFSR of each channel (R490). -/
  lfsr : Assoc Nat := []
  /-- LP_TRAIN words written by software since the last training, and the number of trainings so far. -/
  train : Assoc Nat := []
  trainings : Nat := 0
deriving DecidableEq, Repr

/-- One unit's bus matrix, SRAM controller, DMA channels and LP5 controller. -/
structure Fabric where
  /-- Master last granted at each target; at LP5 memory, of each class. -/
  lastGrant : Assoc Nat := []
  outstanding : List Outst := []
  /-- Reservations: master and 64-byte granule (R469). -/
  resv : Assoc Nat := []
  draining : List Nat := []
  /-- Signed bucket counts of the 22 regulators, where they differ from 4,096 (R486). -/
  bucket : Assoc Int := []
  errFifo : Fifo (List Nat) := {}
  eccFifo : Fifo (List Nat) := {}
  dma : Assoc DmaChan := []
  lp : Lp5 := {}
  /-- Bank groups in retention, the first ones awake (R474): groups from this number on are in retention. -/
  awakeTo : Nat := 64
  /-- A retention wake is in progress, and TB_US of its begin. -/
  waking : Bool := false
  wakeUs : Nat := 0
  core : List Host.Cell := []
  lp5mem : List Host.Cell := []
deriving DecidableEq, Repr
/-! ### Management subsystem (chapters 14, 17) -/

/-- Power states (R442); `starting` covers reset and start-up, POWER_STATE 0. -/
inductive PowerState where
  | off | standby | starting | idle | ready | render
deriving DecidableEq, Repr

/-- One event record before its number and check are added (R455). -/
structure LogRec where
  number : Nat
  timeSec : Nat
  timeNs : Nat
  code : Nat
  source : Nat
  level : Nat
  data0 : Nat
  data1 : Nat
deriving DecidableEq, Repr

/-- One copy of the boot directory (R438). -/
structure BootDir where
  gen : Nat
  slot : Nat
  trial : Bool
  regionA : Nat
  regionB : Nat
  valid : Bool
deriving DecidableEq, Repr

/-- One copy of the configuration store or of the user tag area: its generation, whether its CRC-32 holds, the values kept, and
in the store the training results of each unit. A copy that is erased has generation 0 (R434, R441). -/
structure StoreCopy where
  gen : Nat := 0
  valid : Bool := false
  vals : Assoc DVal := []
  trained : List (List Nat) := [[], []]
deriving DecidableEq, Repr

/-- The margins of one monitor window, per unit: blocks, sum, least margin, worst class, whether one fell below 5 per cent; and
whether every margin of both units was 30 per cent or more (R210, R448, R449). -/
structure Window where
  count : List Nat := [0, 0]
  sum : List Int := [0, 0]
  least : List Int := [0, 0]
  worst : List Nat := [0, 0]
  slow : List Bool := [false, false]
  good : Bool := true
deriving DecidableEq, Repr

/-- One journal record (R366). -/
structure JRec where
  jseq : Nat
  apply : Nat
  session : Nat
  kind : Nat
  key : Nat
  /-- The value of a write, or the data of a domain block. -/
  val : DVal
  /-- Priority of the session when the write was accepted (R373). -/
  prio : Nat := 0
  /-- The write stands at its apply index (R373). -/
  wins : Bool := true
  /-- A domain block's offset and data (R366). -/
  off : Nat := 0
  part : List Byte := []
deriving DecidableEq, Repr

/-- The management subsystem outside the Dameel front end. -/
structure Subsoil where
  power : PowerState := .starting
  /-- The POR_N ball is high. -/
  porN : Bool := false
  /-- A transition in progress and its target (R444). -/
  transition : Option PowerState := none
  /-- A POWER_REQ written during a transition. -/
  queuedReq : Option Nat := none
  recovery : Bool := false
  penCore : Bool := false
  penSds : Bool := false
  penLp : Bool := false
  penCoreFails : Nat := 0
  /-- VDD_CORE and VDD_MEM have come into range since PEN_CORE rose. -/
  coreUp : Bool := false
  /-- SerDes rails missed their deadline: P0 to P3 stay down (R541). -/
  sdsFailed : Bool := false
  /-- The TRIP_N ball is driven low. -/
  tripN : Bool := false
  tripLatched : Bool := false
  /-- TJ_WARN and TJ_CRIT crossed upwards and not yet 2 degrees below (R451). -/
  warnOn : Bool := false
  critOn : Bool := false
  /-- Readings of the 12 sensors, Q8.8 degrees. -/
  temps : List Int := []
  tempMax : List Int := []
  volts : List Nat := []
  speeds : List Nat := []
  /-- Margin values that the next scan of R363 brings into the dictionary (R385). -/
  mon : Assoc DVal := []
  phyRst : Bool := false
  /-- STORE_RESET asked for at the next start. -/
  storeResetNext : Bool := false
  storeDirty : Bool := false
  /-- STORE_STATE shows 3: the store was ignored at the start (R381). -/
  storeIgnored : Bool := false
  /-- TB_US of the last accepted write to a kept entry and of the last save (R381). -/
  keptWriteUs : Nat := 0
  lastSaveUs : Option Nat := none
  /-- The two copies of the configuration store, and of the user tag area (R381, R434, R461). -/
  stores : List StoreCopy := [{}, {}]
  tags : List StoreCopy := [{}, {}]
  /-- What the always-on register file of 4 KiB holds: POWER_REQ, WAKE_EN, WAKE_TOKEN, the starts of each slot, and the slot
  started (R432, R438, R443). -/
  aonReq : Nat := 3
  aonWake : Assoc DVal := []
  slotStarts : List Nat := [0, 0]
  runSlot : Nat := 0
  dirs : List BootDir := []
  /-- The two management slots and the three control regions of the management flash (R434). -/
  mgmtSlots : List (List Byte) := [[], []]
  ctrlRegions : List (List Byte) := [[], [], []]
  /-- Control region loaded by each unit. -/
  loadedRegion : List (Option Nat) := [none, none]
  stagedRegion : Option Nat := none
  islandStage : List Byte := []
  /-- The SHA-256 digest by which the front end knows the NL-SURV library image (R275). -/
  nlDigest : List Byte := Config.nlSurv
  /-- Identity OTP: image-key digest and anti-rollback counters (R432, R437). -/
  otpKeyDigest : List Byte := Config.otpKeyDigest
  otpMgmt : Nat := 0
  otpCtrl : Nat := 0
  /-- Set points of each unit whose training results the firmware has, which it saves in the configuration store (R441). -/
  trained : List (List Nat) := [[], []]
  /-- Supply control (R449, R450). -/
  vset : Nat := 750
  vTries : Nat := 0
  vStopped : Bool := false
  /-- A VOUT_COMMAND has been written and not read back yet. -/
  vPend : Bool := false
  lastRaiseUs : Option Nat := none
  goodWindows : Nat := 0
  ceilingLogged : Bool := false
  /-- The monitor window in progress, its PTP second, and the blocks counted whose deadlines fall after it (R448). -/
  win : Window := {}
  winSec : Nat := 0
  winNext : Window := {}
  /-- Unit slow in the last completed window (R210). -/
  slowLast : List Bool := [false, false]
  restarts : Nat := 0
  restartCause : Nat := 0
  restarting : Bool := false
  /-- WAKE_REASON of the last wake (R318). -/
  wakeReason : Nat := 0
  /-- TB_US when the management watchdog was last restarted. -/
  kickUs : Nat := 0
  /-- TB_US when the front end last began to serve (R458). -/
  serveUs : Nat := 0
  /-- The event log: buffered and written records, the next number, and the per-code rate (R457). -/
  logBuf : List LogRec := []
  logFlash : List LogRec := []
  logNext : Nat := 1
  logRate : Assoc Nat := []
  logSuppressed : Assoc Nat := []
  evq : List (Fifo (List Nat)) := [{ wm := 48 }, { wm := 48 }, { wm := 48 }]
  evqPart : List (List Nat) := [[], [], []]
  jseq : Nat := 1
  /-- The journal ring in the mailbox SRAM of 1 MiB, 16,384 slots of 64 bytes: the records not yet read by every enabled unit,
  oldest first, and the last 16,384 kept (R20, R432, R462). -/
  journal : List JRec := []
  snapshots : Assoc (Assoc DVal) := []
  /-- A CTRL_INSTALL accepted during a transition, which it waits for (R444, R459). -/
  installDue : Bool := false
  /-- The management core's SRAM, which its image is loaded into and where rings with MEM 0 lie (R310, R432, R435). -/
  mgmtMem : List Host.Cell := []
deriving DecidableEq, Repr

/-! ### Dameel front end (chapter 11) -/

/-- One operation's result in a reply (R351). -/
structure OpResult where
  op : Nat
  status : Status
  tested : Bool
  applied : Bool
  lost : Bool
  body : List Byte
deriving DecidableEq, Repr

/-- A reply message (R350). -/
structure Reply where
  kind : Nat
  session : Nat
  status : Status
  epoch : Nat
  seq : Nat
  ackSeq : Nat
  results : List OpResult
  /-- The device's UDP port, and where the message goes (R347). -/
  udp : Nat
  dest : Peer
deriving DecidableEq, Repr

/-- A lock: its number and the elements it covers; sub 0xFF covers every sub-index (R365). -/
structure DLock where
  id : Nat
  idx : Nat
  sub : Nat
  elem : Nat
  count : Nat
deriving DecidableEq, Repr

/-- A subscription (R363). -/
structure Sub where
  id : Nat
  idx : Nat
  sub : Nat
  elem : Nat
  count : Nat
  mode : Nat
  period : Nat
  /-- Scans made since its acceptance, and the values at the last of them. -/
  scans : Nat := 0
  last : Assoc DVal := []
deriving DecidableEq, Repr

/-- A domain transfer of a session (R360). -/
structure Xfer where
  xfer : Nat
  key : Nat
  total : Nat
  next : Nat
  data : List Byte
  running : Bool
  aborted : Bool
  /-- TB_US of the last block (R361). -/
  us : Nat
deriving DecidableEq, Repr

/-- A notification (R363, R364). -/
structure Note where
  code : Nat
  key : Nat
  block : Nat
  payload : List Byte
deriving DecidableEq, Repr

/-- One session's run-time state (R354 to R365, R372). -/
structure Session where
  isOpen : Bool := false
  epoch : Nat := 0
  seqHigh : Nat := 0
  txSeq : Nat := 1
  kept : List (Nat × Reply) := []
  /-- The index at which the lease ends. -/
  xEnd : Nat := 0
  peer : Peer := ⟨0, 0, 0, 0, false⟩
  locks : List DLock := []
  nextLock : Nat := 1
  subs : List Sub := []
  nextSub : Nat := 1
  xfers : List Xfer := []
  queue : Fifo Note := {}
  noteSeq : Nat := 1
  /-- TB_US of the last notification message. -/
  lastNote : Option Nat := none
  conflicts : Nat := 0
  /-- Revert writes refused with STATE or LATE, to retry (R372). -/
  retry : List (Nat × DVal) := []
  /-- The configuration that the session's triggers and balls had at the snapshot. -/
  snapTrig : Assoc Trigger := []
  snapGpio : Assoc Gpio := []
deriving DecidableEq, Repr

/-- The tenancy of a session (R371). -/
structure Tenancy where
  objects : List Byte
  sets : Nat
  feeds : List Byte
  buses : List Byte
  streams : List Byte
deriving DecidableEq, Repr

/-- A request message of which some operations have been handled (R349). -/
structure MsgCtx where
  dg : List Byte
  src : Peer
  session : Nat
  seq : Nat
  epoch : Nat
  /-- Number of the reply (R356). -/
  tx : Nat
  /-- The receipt index (R349). -/
  x : Nat
  /-- The UDP port that the reply leaves from (R347). -/
  udp : Nat
  /-- Operations handled, and the results so far; those of an ATOMIC message are all decided at the first. -/
  next : Nat
  results : List OpResult
  atomic : Bool
  /-- The session's rights when the message was verified, which govern all of it, and the credential that verified it
  (R352, R370). -/
  role : Nat
  prio : Nat
  tenancy : Tenancy
  cred : List Byte
deriving DecidableEq, Repr

/-- A keyframe (R82). -/
structure Keyframe where
  time : Nat
  x : Int
  y : Int
  z : Int
  mode : Nat
deriving DecidableEq, Repr

/-- A correction set slot: its active image, the block of its last switch, and the committed image that waits for its
apply index (R191, R193). -/
structure CorrSlot where
  image : List Byte := []
  at_ : Option Nat := none
  next : Option (Nat × List Byte) := none
deriving DecidableEq, Repr

/-- The front end's model of an object's keyframe FIFO (R83, R84), and the highest TIME accepted. -/
structure KfModel where
  items : List (FItem Keyframe) := []
  high : Option Nat := none
deriving DecidableEq, Repr

/-- A change of a route or of a feed's filter that has begun in the present RENDER (R170, R172, R197): its first sample and
length, the former source, and for a filter its cost (R199). -/
structure Fade where
  key : Nat
  start : Nat
  len : Nat
  old : Nat
  cost : Nat
deriving DecidableEq, Repr

/-- The Dameel front end. -/
structure Dameel where
  sessions : Assoc Session := []
  cur : Option MsgCtx := none
  /-- Peers heard by discovery: the reply body, the IPv4 source and TB_US of the last reply (R374). -/
  peers : List (List Byte × Nat × Nat) := []
  discoverDue : List (Peer × Nat) := []
  discSrc : Assoc (Option Nat) := []
  lastDiscover : Option Nat := none
  statusCount : Assoc (Nat × Nat) := []
  /-- Block of the last scan (R363). -/
  scanBlk : Option Nat := none
  /-- The keyframe FIFO models, and the TRAJ_SRC writes that they have not taken yet (R84, R87). -/
  kf : Assoc KfModel := []
  kfPend : List JRec := []
  /-- Correction slots as the front end counts them, the last block occupied by the changes of each slot's last switch, and
  the upload staged for a slot (R192, R193). -/
  cs : Assoc CorrSlot := []
  csEnd : Assoc Nat := []
  csStage : Option (Nat × List Byte) := none
  /-- By port, the blocks at which accepted rebuilds of its filter table switch (R64, R306). -/
  rebuilds : Assoc (List Nat) := []
  /-- Changes that have begun and may not have ended (R172, R198). -/
  fades : List Fade := []
  /-- Changes of each domain entry, which its VERSION counts, and the values of SDP_OWN and PEER_TABLE when they were last
  compared, with TB_US and the sample index of that time (R362). -/
  versions : Assoc Nat := []
  formed : Assoc (List Byte) := []
  formedUs : Nat := 0
  formedIdx : Nat := 0
  /-- Internal writes that follow the accepted write of a host, made after its message where that is ATOMIC (R275, R359):
  (0, feed, index) for LS_ENABLE, (parameter, value, index) for another NL-SURV parameter. -/
  intDue : List (Nat × Nat × Nat) := []
deriving DecidableEq, Repr
/-! ### Redundancy (chapter 07) -/

/-- A block seal (R215). -/
structure Seal where
  block : Nat
  claim : Nat
  crc : Nat
deriving DecidableEq, Repr

/-- The 32 × 1,280 staged output words of a block and its silence-group byte (R215); word (j, e) has key 1280 j + e and
is 0 where not listed. -/
structure OutBlock where
  block : Nat
  words : Assoc Int := []
  sil : Nat := 0
deriving DecidableEq, Repr

/-- A resynchronisation (R227 to R232). -/
structure Resync where
  /-- RESYNC_PHASE: 0 none, 1 to 8, 15 waiting. -/
  phase : Nat := 0
  /-- First block of the present phase. -/
  first : Nat := 0
  /-- First block of the resynchronisation. -/
  start : Nat := 0
  /-- Chunks of the present phase that have been copied (R229). -/
  chunks : Nat := 0
  /-- B_max: the largest BULK that phase 6 has counted (R230). -/
  bMax : Nat := 0
  attempts : Nat := 0
  matchRun : Nat := 0
  /-- Next block that phase 8 judges. -/
  judge : Nat := 0
  /-- Aborted: restarts at phase 1 after 16 blocks with an eligible source and the heartbeat (R232). -/
  aborted : Bool := false
  /-- Consecutive blocks in which the conditions of an aborted resynchronisation have held. -/
  okRun : Nat := 0
deriving DecidableEq, Repr

/-- A unit's residue and health logic (R210 to R216, R240 to R242). -/
structure HealthSt where
  /-- The control image is loaded and verified. -/
  loaded : Bool := false
  /-- ENABLE as in force, cleared by a start failure, a firmware load or a failed resynchronisation. -/
  enabled : Bool := true
  /-- The control image is being loaded after a watchdog expiry or an UPDATE. -/
  loading : Bool := false
  resync : Resync := {}
  /-- A resynchronisation has been called for and has not started yet (R227). -/
  need : Bool := false
  returning : Bool := false
  /-- Fault causes of the blocks in progress, as bits of HL_FAULT. -/
  blkFaults : Assoc Nat := []
  /-- Next input block to close. -/
  blk : Nat := 0
  /-- The last seal. -/
  last : Option Seal := none
  lastHealth : Nat := 0
  /-- The last blocks closed with their health, newest first; a late check failure lowers the health to 6 (R213, R216). -/
  healths : List (Nat × Nat) := []
  /-- The journal number from which a PROMOTE concerns the present returning state (R212). -/
  retSeq : Nat := 0
  ceNow : Nat := 0
  ceLast : Nat := 0
  /-- Blocks closed in RENDER whose margins the monitor has not counted, oldest first: block, completion margin in ns, and PTP
  second of the deadline (R448). -/
  margins : List (Nat × Int × Nat) := []
  /-- UPDATE_STATE (R234) and CTRL firmware of the unit. -/
  update : Nat := 0
  resultClass : Nat := 0
  /-- Seals of the other unit that have arrived over the bridge with the sample index of their arrival, newest first
  (R25). -/
  heard : List (Nat × Seal) := []
  /-- Consecutive blocks with a seal heard; heartbeat present at the first block of RENDER (R225). -/
  hbRun : Nat := 16
  /-- Heartbeat loss recorded and no seal heard since. -/
  hbLost : Bool := false
  /-- Block from which missing seals count towards heartbeat loss (R25). -/
  hbFrom : Nat := 0
  /-- Completed resynchronisations and failed attempts. -/
  resyncDone : Nat := 0
  resyncFails : Nat := 0
deriving DecidableEq, Repr

/-- The hold and fade of the outputs, of all channels or of one (R219, R220). -/
structure HoldSt where
  /-- Output index at which the hold began. -/
  start : Nat := 0
  limit : Nat := 8
  /-- First fade index, once an outage has been declared. -/
  outage : Option Nat := none
deriving DecidableEq, Repr

/-- The output arbiter (R217 to R224, R527). -/
structure Arbiter where
  /-- The arbiter decides and releases output blocks: from the first output of a RENDER on. -/
  run : Bool := false
  source : UnitId := .a
  /-- The unit whose own values the front end reads: the source at the last completed block (R553). -/
  reads : UnitId := .a
  /-- The source at the first output block of a RENDER (R214). -/
  startSrc : UnitId := .a
  /-- The last seals of each unit, newest first: that of the block to be decided, and one of the block after it. -/
  sealsA : List Seal := []
  sealsB : List Seal := []
  /-- The last late check reports of each unit, newest first: the block and whether every check passed. -/
  latesA : List (Nat × Bool) := []
  latesB : List (Nat × Bool) := []
  /-- The last decided output block, the eligibilities and claims found, and the selection. -/
  decided : Nat := 0
  eligA : Bool := false
  eligB : Bool := false
  claimA : Nat := 0
  claimB : Nat := 0
  selected : Option UnitId := none
  sealOfA : Option Seal := none
  sealOfB : Option Seal := none
  /-- Next output index to release. -/
  nextOut : Nat := 0
  /-- First output index of exact zeros after RENDER ended, and first output index of the RENDER that follows. -/
  endAt : Option Nat := none
  startAt : Nat := 0
  /-- The latency in blocks and the release allowance of the RENDER. -/
  lat : Nat := 4
  /-- Staging memory: each unit's copy, the last blocks delivered first. -/
  stageA : List OutBlock := []
  stageB : List OutBlock := []
  /-- Released words of the last 512 output indices: channel e at index s has key 1280 (s mod 512) + e. -/
  released : Assoc Int := []
  /-- Hold of all channels, and holds of single channels (R219). -/
  hold : Option HoldSt := none
  chHold : Assoc HoldSt := []
  /-- Channels re-pointed to the other unit for the rest of the block, and the samples each still holds (R219). -/
  repoint : Assoc Nat := []
  /-- The silence-group bytes of decided blocks that have not driven the GPIO yet: output block and byte (R162). -/
  silQ : List (Nat × Nat) := []
  /-- Last released value of each channel (AUD32). -/
  lastVal : Assoc Int := []
  silLast : Nat := 0
  /-- The index whose settings of the silence groups those levels follow (R60). -/
  silIdx : Nat := 0
  holdLimit : Nat := 8
  /-- A committed HOLD_LIMIT and the output block from which it applies (R528). -/
  holdCommit : Option (Nat × Nat) := none
  /-- A copy of the voted logic that disagrees, reloaded at the next block boundary (R222). -/
  badCopies : Nat := 0
  switches : Nat := 0
  holds : Nat := 0
  outages : Nat := 0
  outageSamples : Nat := 0
  divergences : Nat := 0
  stagingUe : Nat := 0
  voteCe : Nat := 0
  lastEvent : Nat := 0
deriving DecidableEq, Repr
/-! ### Rendering: inputs, objects, pairs, feeds (chapters 03 to 06) -/

/-- The admitted values of an input block for the object and aux slots: slot `k` (object o, or 1,024 + aux a) and sample
j have key 32 k + j; unlisted values are 0 (R322, R325). -/
structure InBlock where
  block : Nat
  vals : Assoc Int := []
deriving DecidableEq, Repr

/-- A zero-cross-stepped gain: current gain, target, start of the search window, previous input (R144). -/
structure ZcGain where
  c : Int
  t : Int
  w : Nat
  p : Int
deriving DecidableEq, Repr

/-- The state of a biquad (R147). -/
structure Biquad where
  x1 : Int := 0
  x2 : Int := 0
  y1 : Int := 0
  y2 : Int := 0
deriving DecidableEq, Repr

/-- A route and its last change: the present and the former source, the first sample and length of the change, and
whether its law is equal-power (R170, R171). -/
structure Route where
  cur : Nat
  old : Nat
  start : Nat := 0
  len : Nat := 0
  power : Bool := false
deriving DecidableEq, Repr

/-- A silence detector (R161). -/
structure Silence where
  c : Nat := 0
  silent : Bool := false
deriving DecidableEq, Repr

/-- A position, in units of 2^-16 m. -/
structure Pos where
  x : Int := 0
  y : Int := 0
  z : Int := 0
deriving DecidableEq, Repr

/-- A unit's state of one object: preprocessing, trajectory, law and status (R80, R81, R85 to R92, R113, R161). -/
structure ObjState where
  trim : Option ZcGain := none
  bq : List Biquad := [{}, {}, {}, {}]
  sil : Silence := {}
  zrun : Nat := 8192
  mask : Option Route := none
  /-- Position at the previous evaluation point. -/
  prev : Option Pos := none
  /-- The DBAP sums of the previous block, in units of 2^-48: under the mask in force and under the former mask. -/
  sumNew : Nat := 0
  sumOld : Nat := 0
  /-- The object was enabled, and rendered with DBAP, in the previous block. -/
  wasOn : Bool := false
  wasDbap : Bool := false
  /-- OBJ_STATUS bits as of the last law record. -/
  status : Nat := 0
  clampCount : Nat := 0
  slopeCount : Nat := 0
  /-- One more than the last block in which a clamped, or slope-limited, pair has been counted. -/
  clampBlk : Nat := 0
  slopeBlk : Nat := 0
  kfDrops : Nat := 0
  /-- Drops of gap markers that have passed outside RENDER and count at the first block of the next one (R65, R86). -/
  gapDue : Nat := 0
deriving DecidableEq, Repr

/-- A law record: what the geometry engine broadcasts of an object for a block (R85, R87, R260). -/
structure LawRec where
  block : Nat := 0
  pos : Pos := {}
  vel : Pos := {}
  law : Nat := 0
  enable : Bool := false
  hold : Bool := false
  /-- The sums that normalise DBAP in this block, for the present and the former mask (R92). -/
  normNew : Nat := 0
  normOld : Nat := 0
  /-- The route of SET_MASK in this block (R103, R170). -/
  mask : Route := ⟨0, 0, 0, 0, false⟩
deriving DecidableEq, Repr

/-- A pair record (R115). -/
structure PairRec where
  d0 : Nat := 0
  d1 : Nat := 0
  valid : Bool := false
  new : Bool := false
  release : Bool := false
  clamp : Bool := false
  slope : Bool := false
  skipped : Bool := false
  g0 : Int := 0
  g1 : Int := 0
  mode : Nat := 0
deriving DecidableEq, Repr

/-- A tile's sequencer and pair-law unit, and its counts (R109, R116, R135). -/
structure Tile where
  /-- The next record that its lanes take. -/
  pos : Nat := 0
  /-- The block whose targets its pair-law unit writes, and the next record it takes. -/
  lawBlk : Nat := 0
  lawPos : Nat := 0
  /-- Pairs clamped and slope-limited in the targets of block `lawBlk`, and of the block before it. -/
  clamp : Nat := 0
  slope : Nat := 0
  clampPrev : Nat := 0
  slopePrev : Nat := 0
  /-- Pair units and skipped pairs of the last completed block. -/
  units : Nat := 0
  skip : Nat := 0
  /-- Pair units and skipped pairs that its lanes have taken in the present block. -/
  unitsNow : Nat := 0
  skipNow : Nat := 0
deriving DecidableEq, Repr

/-- A set's triangulation: three vertices for a triangle, two for an arc (R76 to R78). -/
structure SetTri where
  faces : List (List Nat) := []
  status : Nat := 0
deriving DecidableEq, Repr

/-- The staged contributions of levels 2 and 3 to the present segment of each (R187); none stand for zeros. -/
structure Staged where
  two : List Int := []
  three : List Int := []
deriving DecidableEq, Repr

/-- The correction filter of a feed: its taps, those of the filter it replaces, and the change (R177, R197); the staged
contributions of both, and the stored words of levels 2 and 3 found uncorrectable in their present segments (R187, R200). -/
structure FilterState where
  taps : List Int
  old : List Int
  slot : Nat
  start : Nat := 0
  len : Nat := 0
  staged : Staged := {}
  stagedOld : Staged := {}
  /-- Those of the filters of changes to come, by the block in which each change begins (R187, R196). -/
  ahead : List (Nat × Staged) := []
  bad : List CxWord := []
  /-- Zero run of the FIR input (R150). -/
  zrun : Nat := 16416
  gated : Bool := false
deriving DecidableEq, Repr

/-- A unit's state of one feed (R141 to R165). -/
structure FeedState where
  trim : Option ZcGain := none
  factor : Option Int := none
  bq : List Biquad := List.replicate 16 {}
  bulk : Option Route := none
  filt : Option FilterState := none
  env : Int := 0
  ms : Int := 0
  g : Int := 8388608
  sil : Silence := {}
  /-- Sticky bits 2 and 4 of FEED_STATUS. -/
  sticky : Nat := 0
  /-- Live bits of FEED_STATUS at the last block end. -/
  live : Nat := 0
  clips : Nat := 0
  /-- The limiter gain at the last block end (R156). -/
  gEnd : Int := 8388608
  /-- Input words taken as zero when an input spectrum was formed: level, segment and sample index (R200). -/
  holes : List (Nat × Nat × Nat) := []
deriving DecidableEq, Repr

/-- A unit's state of one bus. -/
structure BusState where
  gain : Option ZcGain := none
  factor : Option Int := none
  sends : Assoc Route := []
  sendGain : Assoc Int := []
deriving DecidableEq, Repr

/-- A unit's state of one egress channel. -/
structure EgState where
  gain : Option ZcGain := none
  route : Option Route := none
deriving DecidableEq, Repr

/-- A survey emission on a feed from sample index `start` on (R288, R289). -/
structure Emission where
  feed : Nat
  start : Nat
  seq : Bool
  f1 : Nat
  f2 : Nat
  len : Nat
  order : Nat
  periods : Nat
  level : Int
  raw : Bool
deriving DecidableEq, Repr

/-- The render path of a unit. -/
structure Render where
  /-- Settings in force, and journaled writes that are not folded into them yet. -/
  cfg : Assoc DVal := []
  pend : List JRec := []
  /-- Keyframe records and TRAJ_SRC writes that the geometry engine has not taken up yet. -/
  kfPend : List JRec := []
  /-- The keyframe FIFO of each object (R84). -/
  kf : Assoc (Fifo Keyframe) := []
  /-- The layout table in force and its triangulations (R73). -/
  layout : Assoc DVal := []
  tri : Assoc SetTri := []
  /-- Geometry status of feeds: bit 0 NOT_VERTEX, bit 1 NORMAL_BAD. -/
  geo : Assoc Nat := []
  /-- Admitted blocks not committed yet. -/
  inq : List InBlock := []
  /-- Next block to commit to history, to broadcast laws of, and to take through the feed chain. -/
  commit : Nat := 0
  lawBlk : Nat := 0
  chain : Nat := 0
  objs : Assoc ObjState := []
  /-- Law records: block n, object o has key 1024 (n mod 4) + o. -/
  laws : Assoc LawRec := []
  /-- History: word s mod 8192 of object o has key 8192 o + s mod 8192. -/
  hist : Assoc Int := []
  /-- Aux rings: word s mod 1024 of aux a has key 1024 a + s mod 1024. -/
  aux : Assoc Int := []
  /-- Pair memory: record 1024 l + o of tile t has key 16384 t + 1024 l + o. -/
  pairs : Assoc PairRec := []
  tiles : Assoc Tile := []
  /-- Feed and bus accumulators of block n: sample j of feed f has key 32 (1024 (n mod 4) + f) + j, of bus b
  32 (256 (n mod 4) + b) + j; units of 2^-45. -/
  acc : Assoc Int := []
  busAcc : Assoc Int := []
  feeds : Assoc FeedState := []
  buses : Assoc BusState := []
  eg : Assoc EgState := []
  /-- FIR inputs: sample s of feed f has key 32768 f + s mod 32768. -/
  fir : Assoc Int := []
  /-- Bulk delay rings: sample s of feed f has key 262144 f + s mod 262144. -/
  bulk : Assoc Int := []
  /-- Limiter outputs and bus outputs of the last blocks, keyed as the accumulators. -/
  feedOut : Assoc Int := []
  busOut : Assoc Int := []
  /-- Output words staged for the seal of a block. -/
  staged : Option OutBlock := none
  /-- Correction set slots and the upload staging. -/
  slots : Assoc CorrSlot := []
  upload : List Byte := []
  xfUsed : Nat := 0
  groups : Nat := 0
  /-- The state of each exposure group (R159, R174, R553). -/
  expo : Assoc Nat := []
  /-- RENDER has ended before this block, and the blocks before it are still to be computed; and a RENDER that begins
  after them. -/
  endBlk : Option Nat := none
  beginBlk : Option Nat := none
  /-- Sequence number of the last journal record read (R462). -/
  jrd : Nat := 0
  /-- The last survey emission taken up. -/
  emit : Option Emission := none
deriving DecidableEq, Repr

/-! ### Novil engines (chapter 08) -/

/-- An active loop: first and last address of its body, and its counter (R257). -/
structure NvLoop where
  first : Nat
  last : Nat
  ctr : Nat
deriving DecidableEq, Repr

/-- An outstanding transfer: for an inbound one, the local memory, its first physical word and the words (R261). -/
structure NvXfer where
  inbound : Bool
  memY : Bool := false
  at_ : Nat := 0
  words : List Nat := []
deriving DecidableEq, Repr

/-- One Novil engine: its registers (R245), its job and its memories (R247). -/
structure Novil where
  d : List Int := List.replicate 16 0
  a : List Int := List.replicate 4 0
  p : List Nat := List.replicate 8 0
  m : List Int := List.replicate 8 0
  b : List Nat := List.replicate 8 0
  l : List Nat := List.replicate 8 0
  lc : List Nat := [0, 0]
  fl : Nat := 0
  job : Option Nat := none
  /-- The block that the engine's jobs belong to. -/
  blk : Nat := 0
  pc : Nat := 0
  slots : Nat := 0
  dma : Nat := 0
  win : Nat := 0
  stack : List Nat := []
  /-- Active loops, the innermost first. -/
  loops : List NvLoop := []
  xfers : List NvXfer := []
  /-- P memory: word w of page k has key 8192 k + w. -/
  pmem : Assoc Nat := []
  page : Nat := 0
  x : Assoc Nat := []
  y : Assoc Nat := []
  /-- Totals of the block in progress and of the last completed block. -/
  slotsBlk : Nat := 0
  dmaBlk : Nat := 0
  winBlk : Nat := 0
  slotsLast : Nat := 0
  dmaLast : Nat := 0
  winLast : Nat := 0
  slotsPeak : Nat := 0
  lastBlk : Nat := 0
deriving DecidableEq, Repr

/-- The Novil part of a unit: its graph, what its jobs have done, and the memories they share. -/
structure NovilArray where
  eng : Assoc Novil := []
  graph : List NvJob := []
  /-- First block of the active graph. -/
  since : Nat := 0
  /-- The committed graph that waits for its switch block, and that block. -/
  next : Option (Nat × List NvJob) := none
  /-- One more than the last block in which each job ended. -/
  ended : Assoc Nat := []
  slotsNow : Assoc Nat := []
  slotsLast : Assoc Nat := []
  stops : Assoc Nat := []
  faults : Assoc Nat := []
  lastFault : Assoc Nat := []
  /-- LP5 private regions: word w of engine e has key 25165824 e + w. -/
  priv : Assoc Nat := []
  exch : Assoc Nat := []
  /-- Report pages: word w of job j has key 16 j + w; those of the last completed block, and those being written. -/
  report : Assoc Nat := []
  reportNow : Assoc Nat := []
deriving DecidableEq, Repr
/-! ### Ports, rings, streams, TDM ports and the survey (chapters 09 and 10) -/

/-- The live part of a descriptor ring (R312, R315 to R317); its CTRL, BASE, BUF, WM and STAT words are registers. -/
structure Ring where
  head : Nat := 0
  tail : Nat := 0
  peak : Nat := 0
  /-- Completions not signalled yet, and TB_US of the first. -/
  unsig : Nat := 0
  since : Nat := 0
  /-- MOD_US as the last completion found it. -/
  modUs : Nat := 0
  /-- Descriptors of frames whose software stamp the ring's interrupt takes (R48). -/
  soft : List Nat := []
deriving DecidableEq, Repr

/-- An SFP cage (R276 to R278). -/
structure Sfp where
  /-- The MOD_ABS input is low: a module is in the cage. -/
  inserted : Bool := false
  /-- TB_US at which MOD_ABS fell. -/
  since : Nat := 0
  present : Bool := false
  /-- Pages 0xA0 and 0xA2 as last read; empty stands for 256 zero bytes. -/
  idPage : List Byte := []
  diag : List Byte := []
  i2cErr : Nat := 0
  alarmSeen : Bool := false
deriving DecidableEq, Repr

/-- Peer delay of a port (R280). -/
structure Pdelay where
  /-- Delays of the last 16 valid exchanges in ps, newest first. -/
  last : List Int := []
  valid : Bool := false
  /-- TB_US of the last valid exchange. -/
  validUs : Nat := 0
  /-- Sequence number and TB_US of the request that waits for its response. -/
  req : Option (Nat × Nat) := none
  seq : Nat := 0
deriving DecidableEq, Repr

/-- An Ethernet port (R299 to R318, R338 to R344). -/
structure Port where
  link : Bool := false
  /-- PORT_STAT.SPEED and FEC. -/
  speed : Nat := 0
  fec : Nat := 0
  /-- AN_STATE, AN_PARTNER and AN_FEC (R279). -/
  anState : Nat := 0
  anPartner : Nat := 0
  anFec : Nat := 0
  sfp : Sfp := {}
  pd : Pdelay := {}
  rx : List Ring := [{}, {}, {}, {}]
  tx : List Ring := [{}, {}, {}, {}]
  /-- Stream packets that wait for the port. -/
  txq : List (List Byte) := []
  /-- Frames that Subsoil has queued on transmit ring 0: ARP and IGMP (R307). -/
  fwq : List (List Byte) := []
  /-- Stages of the receive FIFO in use after the last frame, and the time of its arrival (R313). -/
  fifo : Nat := 0
  fifoAt : Nat := 0
  /-- The active filter table: exact addresses with their rings, and hash bins (R304 to R306). -/
  exact : List (Nat × Nat) := []
  hash : List Nat := []
  /-- Multicast groups joined, with their source filters (R307). -/
  groups : List (Nat × Nat) := []
  /-- IPv4 addresses resolved by ARP. -/
  arp : Assoc Nat := []
deriving DecidableEq, Repr

/-- A leg of an ingress stream (R320 to R323). -/
structure IsLeg where
  /-- Sequence number of the last packet counted. -/
  track : Option Nat := none
  /-- First index and length of each packet heard. -/
  heard : List (Nat × Nat) := []
  /-- TB_US of the last packet. -/
  lastUs : Option Nat := none
  /-- Stored samples: index s at key s mod 1024, with s and the channel values in AUD32. -/
  buf : Assoc (Nat × List Int) := []
deriving DecidableEq, Repr

/-- An egress stream's progress: first index and sequence number of its next packet, and the index from which it is enabled
(R60, R327). -/
structure EsState where
  next : Nat := 0
  seq : Nat := 0
  since : Nat := 0
deriving DecidableEq, Repr

/-- An admitted-input record (R208): block, digest, and the MASK words that differ from 0. -/
structure IrRec where
  block : Nat
  digest : Nat
  mask : Assoc Nat := []
deriving DecidableEq, Repr

/-- A SAP session description (R331). -/
structure SapEntry where
  hash : Nat
  origin : Nat
  port : Nat
  text : List Byte
  us : Nat
deriving DecidableEq, Repr

/-- The stream engine (R319 to R331, R345). -/
structure Streams where
  legs : Assoc IsLeg := []
  es : Assoc EsState := []
  /-- Last closed input block. -/
  closed : Option Nat := none
  /-- Admitted-input records, the newest first. -/
  ir : List IrRec := []
  /-- Stages in use of the input FIFOs of halves X and Y, their peaks, and packets of the present and last 1 s windows. -/
  lvlX : Nat := 0
  lvlY : Nat := 0
  lvlXAt : Nat := 0
  lvlYAt : Nat := 0
  maxX : Nat := 0
  maxY : Nat := 0
  ppsX : Nat := 0
  ppsY : Nat := 0
  lastX : Nat := 0
  lastY : Nat := 0
  ppsUs : Nat := 0
  sap : List SapEntry := []
deriving DecidableEq, Repr

/-- TDM link ranging (R282): RNG_STATE, the slot, the frames since it began, the markers seen in its input slot, the
result. -/
structure Ranging where
  state : Nat := 0
  slot : Nat := 31
  frames : Nat := 0
  seen : Nat := 0
  /-- Bit periods of the delays detected, and the last slot's word where a marker may run on into the next frame. -/
  bits : Nat := 0
  held : Option Nat := none
  ns : Nat := 0
deriving DecidableEq, Repr

/-- A TDM port (R332 to R337). -/
structure Tdm where
  run : Bool := false
  /-- Sample index of the first frame, tick of the next frame, frames since the start. -/
  start : Nat := 0
  next : Nat := 0
  frames : Nat := 0
  /-- Input words in AUD32, with the index they carry: index s, slot j at key 32 (s mod 1024) + j. -/
  input : Assoc (Nat × Int) := []
  rng : Ranging := {}
deriving DecidableEq, Repr

/-- A capture channel of the survey fed from the island (R286): the last index filled, its value, and the values kept by
index mod 1024. -/
structure CapChan where
  last : Option Nat := none
  val : Int := 0
  vals : Assoc Int := []
  /-- The island channel that has filled it. -/
  src : Nat := 4
deriving DecidableEq, Repr

/-- A survey step that runs: schedule position, feed, emission index, first index after its capture, BULK_used in samples,
whether it was journaled outside RENDER and waits for one, and the capture channels with a microphone fault so far (R65,
R284, R290 to R292). -/
structure SurvRun where
  pos : Nat
  feed : Nat
  at_ : Nat
  stop : Nat
  bulk : Nat
  outside : Bool := false
  micFault : List Nat := []
  /-- The emission as journaled (R288, R289). -/
  sig : List Byte := []
deriving DecidableEq, Repr

/-- The survey function (R285 to R298). -/
structure Survey where
  cap : List CapChan := [{}, {}, {}, {}]
  /-- Emission indices of steps started by triggers that have not been handled. -/
  starts : List Nat := []
  /-- Steps whose emission has been journaled and whose results have not been copied, oldest first. -/
  runs : List SurvRun := []
  /-- Report counters of NL-SURV last seen (R275). -/
  stepCount : Nat := 0
  liveCount : Nat := 0
  /-- By feed, the delay of the first valid live-survey window since LS_ENABLE last became 1 (R297). -/
  lsFirst : Assoc Int := []
deriving DecidableEq, Repr
/-! ### The metrology island and its link (chapter 13) -/

/-- The configuration of a channel (R408). -/
structure IslCfg where
  enable : Bool := false
  sens : Nat := 50000
  rangeMode : Nat := 0
  iOpen : Nat := 500
  iShort : Nat := 12000
deriving DecidableEq, Repr

/-- The signal path of a channel of the island (R405, R406, R409 to R411); samples and levels in units of 2^-20 nV, squares in
their squares. -/
structure IslSig where
  /-- The last outputs of the high-gain and the low-gain modulator in nV, newest first, and the last low-gain path sample. -/
  high : List Int := []
  low : List Int := []
  lowPath : Int := 0
  /-- The automatic combiner has taken the low-gain path, and the consecutive samples since below 0.4 of the high-gain full
  scale, at most 4,096. -/
  lowGain : Bool := false
  below : Nat := 0
  /-- The last inputs of half-band 1, half-band 2 and the final FIR, newest first. -/
  hb1 : List Int := []
  hb2 : List Int := []
  fir : List Int := []
  /-- States of the A, C and Z weighting filters, and the last raw word. -/
  weights : List (List Int) := [[], [], []]
  raw : Int := 0
  /-- The exponential mean squares of the F and S time weightings, and the envelope. -/
  meanF : Int := 0
  meanS : Int := 0
  env : Int := 0
  /-- The interval in progress: sum of the squares of the A-weighted samples, largest C-weighted magnitude, largest mean
  squares, OVERLOAD. -/
  sumA : Nat := 0
  peakC : Nat := 0
  maxF : Nat := 0
  maxS : Nat := 0
  clipped : Bool := false
deriving DecidableEq, Repr

/-- A channel of the island (R405 to R414). -/
structure IslChan where
  /-- Microphone state: 0 present, 1 open, 2 short. -/
  mic : Nat := 0
  /-- State of the latest readings and how many agree; the last reading in steps of 0.05 mA. -/
  cand : Nat := 0
  run : Nat := 0
  sense : Nat := 0
  /-- The channel has left the present state in the interval in progress. -/
  left_ : Bool := false
  sig : IslSig := {}
  /-- Island sample of the last suppression trigger, and the families still suppressed: bit 0 LAeq and LCpeak, 1 F, 2 S. -/
  supp : Nat := 0
  famOn : Nat := 0
  /-- Families suppressed at some sample of the interval in progress. -/
  dirty : Nat := 0
  /-- Energies of the last 28,800 intervals with the SENS that scales them, newest first; none where invalid. -/
  energies : List (Option (Nat × Nat)) := []
  /-- Results of the last interval: LAeq of the four periods and LCpeak, none where invalid. -/
  res : List (Option Int) := []
  /-- Minute in progress: LCpeak, LAF and LAS maxima, valid intervals, MIC_EVT bits. -/
  peakMax : Option Int := none
  lafMax : Option Int := none
  lasMax : Option Int := none
  cover : Nat := 0
  micEvt : Nat := 0
deriving DecidableEq, Repr

/-- An outbound frame (R417). -/
inductive KaoOut where
  /-- Per channel LAeq values, LCpeak, VALID and microphone state; seconds and nanoseconds of the interval's end. -/
  | result (chans : List (List (Option Int) × Nat)) (sec ns : Nat)
  /-- The record asked for, or none where it is not held. -/
  | logPage (rec : Option (List Byte))
  /-- The staging state names the image transfer that it speaks of (log entry 197). -/
  | status (swid : List Byte) (audit : Nat) (unsealed : Bool) (chain staging tag qual discarded wdRestarts : Nat)
deriving DecidableEq, Repr

/-- An inbound message (R419). -/
inductive KaoIn where
  | time (sec ns : Nat) (locked : Bool)
  | logReq (n : Nat)
  | imgStart (tag : Nat)
  | imgBlock (b : List Byte)
  | imgEnd (tag : Nat)
deriving DecidableEq, Repr

/-- A record in the log ring of the island flash: its slot, its number and its bytes (R421, R423). -/
structure IslRec where
  slot : Nat
  number : Nat
  bytes : List Byte
deriving DecidableEq, Repr

/-- The island (R400 to R428). -/
structure Island where
  /-- The island rails are present and the firmware runs. -/
  on : Bool := false
  unsealed : Bool := false
  cfg : List IslCfg := [{}, {}, {}, {}]
  chans : List IslChan := [{}, {}, {}, {}]
  /-- Samples since island start, a multiple of 6,000 at each interval's end. -/
  sample : Nat := 0
  /-- KAO_XTAL ticks of the interval in progress up to which island time stands, and ticks since the firmware restarted the
  watchdog (R403, R415). -/
  pos : Nat := 0
  wd : Nat := 0
  /-- Watchdog restarts since island power-on (R403). -/
  wdRestarts : Nat := 0
  /-- Island time in units of 2^-32 ns, whether it has been set, the slew still to make, and the rate correction per
  interval. -/
  time : Nat := 0
  timeSet : Bool := false
  slew : Int := 0
  rate : Int := 0
  /-- Time, lock and the offset that it left of the last accepted time word, and the drifts of the last eight, per interval. -/
  lastWord : Option (Nat × Bool × Int) := none
  drifts : List Int := []
  /-- Island times of the last two accepted time words. -/
  words : List Nat := []
  /-- Inbound frames discarded since island start. -/
  discarded : Nat := 0
  /-- The minute in progress: intervals so far, its start time and quality, and its flags. -/
  minute : Nat := 0
  minStart : Nat := 0
  flags : Nat := 0
  /-- Bytes 4 to 127 of the record of a minute that has ended and is not written yet. -/
  done : Option (List Byte) := none
  /-- Install flags that the next minute record carries (R421, R426). -/
  inst : Nat := 0
  /-- The log ring at 0x040_0000 of the island flash: next number, records held, newest first, the slot that is written next
  and hash of the previous record (R423). -/
  seq : Nat := 1
  log : List IslRec := []
  slot : Nat := 0
  prevHash : List Byte := []
  /-- Firmware slots, at 0x000_0000 and 0x010_0000 of the island flash, configuration slots, at 0x020_0000 and 0x021_0000, and
  the active one of each (R423). -/
  fwSlots : List (List Byte) := [[], []]
  fwActive : Nat := 0
  cfgSlots : List (List Byte) := [[], []]
  cfgActive : Nat := 0
  audit : Nat := 0
  /-- Image blocks being received, the staging state it reports, and the image transfer that this speaks of (R394). -/
  rxImg : Option (List Byte) := none
  staging : Nat := 0
  tag : Nat := 0
deriving DecidableEq, Repr

/-- The management subsystem's side of the island link (R157 to R159, R394, R395, R429, R430). -/
structure Mirror where
  /-- Frames that the outbound port has sent and Subsoil has not taken, oldest first. -/
  outbound : List KaoOut := []
  inbound : List KaoIn := []
  link : Bool := false
  /-- LINK has fallen and not risen since. -/
  lost : Bool := false
  /-- TB_US of the last result frame, and of the last status frame. -/
  resultUs : Nat := 0
  statusUs : Option Nat := none
  unsealed : Bool := false
  /-- TB_US of the log request that is outstanding. -/
  logReq : Option Nat := none
  /-- Per exposure group: consecutive intervals without a valid result. -/
  misses : List Nat := [0, 0, 0, 0, 0, 0, 0, 0]
  /-- TB_US of the last result interval accounted for. -/
  expoUs : Nat := 0
  /-- Number of the last image transfer begun. -/
  tag : Nat := 0
  /-- A register-driven image transfer is open. -/
  imgOpen : Bool := false
deriving DecidableEq, Repr
/-! ### The test access port (R532) -/

/-- States of the test access port's controller (IEEE 1149.1). -/
inductive TapCtl where
  | reset | idle
  | selectDr | captureDr | shiftDr | exit1Dr | pauseDr | exit2Dr | updateDr
  | selectIr | captureIr | shiftIr | exit1Ir | pauseIr | exit2Ir | updateIr
deriving DecidableEq, Repr

/-- The data register that the instruction in force selects: IDCODE, boundary scan, or bypass (R532). -/
inductive TapReg where
  | idcode | boundary | bypass
deriving DecidableEq, Repr

/-- The test access port: controller, selected register, shift register (next bit out first), and the boundary cells' update
latches. -/
structure Tap where
  ctl : TapCtl := .reset
  sel : TapReg := .idcode
  shift : List Bool := []
  cells : List Bool := []
deriving DecidableEq, Repr

/-! ### What the block sends -/

/-- A Dameel datagram as it leaves: its bytes, and the do-not-fragment bit of its IPv4 header (R348, R350). -/
structure Datagram where
  bytes : List Byte
  noFragment : Bool
deriving DecidableEq, Repr

/-- Something the block has put out: a bus or register answer, a message, a frame, a word on a link. -/
inductive Out where
  /-- A register read's value. -/
  | regValue (c : Core) (addr val : Nat)
  /-- An error response to a register access (R9, R11). -/
  | regError (c : Core) (addr : Nat)
  /-- A Dameel reply, open reply or status reply (R350). -/
  | reply (r : Reply) (d : Datagram)
  /-- A core asleep in WFI resumes (R523). -/
  | coreWake (c : Core)
  /-- The level driven at a GPIO ball. -/
  | gpio (g : Nat) (level : Bool)
  /-- A bus response with its data (R466). -/
  | busData (u : UnitId) (master id : Nat) (data : List Byte)
  /-- A bus response of a store-conditional: whether it stored. -/
  | busSc (u : UnitId) (master id : Nat) (stored : Bool)
  /-- A bus error response with its KIND (R482). -/
  | busError (u : UnitId) (master id kind : Nat)
  /-- The PMBus master writes VOUT_COMMAND (R449). -/
  | voutCommand (word : Nat)
  /-- PPS_OUT changed its level (R44). -/
  | ppsOut (level : Bool)
  /-- A two-step Sync and its follow-up time (R45): port, sequence, seconds, nanoseconds. -/
  | ptpSync (port seq sec ns : Nat)
  /-- A peer-delay request, or the response to one (R280). -/
  | pdelayReq (port seq : Nat)
  | pdelayResp (port seq : Nat)
  /-- A frame on a port, without its FCS (R302, R315). -/
  | frame (port : Nat) (bytes : List Byte)
  /-- A TDM frame: port, output index, slot words, the frame-sync level of each bit period, and whether data are launched on
  the rising edge of the bit clock (R332). -/
  | tdm (t idx : Nat) (slots : List Nat) (sync : List Bool) (rising : Bool)
  /-- A SAP announcement (R331). -/
  | sap (stream leg : Nat) (text : List Byte)
  /-- A notification message: session, message number, NOTE_SEQ of its first note, notes and gap notes (R363). -/
  | notes (session seq noteSeq : Nat) (l : List (FItem Note)) (dest : Peer) (d : Datagram)
  /-- A discover message, and the body of a discover reply (R374). -/
  | discover (port : Nat) (d : Datagram)
  | discoverReply (body : List Byte) (dest : Peer) (d : Datagram)
  /-- The decision on a host's write of an entry (owner ID and status). -/
  | decision (id : Nat) (st : Status)
  /-- A minute record on the island's outbound port (R417). -/
  | kaoRecord (rec : List Byte)
  /-- A line on the island's console (R428). -/
  | console (line : List Byte)
deriving DecidableEq, Repr

/-- A render unit. -/
structure RUnit where
  hl : HealthSt := {}
  sv : Sieve := {}
  fab : Fabric := {}
  rd : Render := {}
  nv : NovilArray := {}
deriving DecidableEq, Repr

/-! ### The whole state -/

/-- The block's state. -/
structure State where
  /-- Commands that wait, first in first out. -/
  pending : List Instr := []
  /-- What the block has put out, newest first (the model's own field). -/
  out : List Out := []
  /-- Free values drawn so far (the model's own field, log entry 3). -/
  draws : Nat := 0
  tb : Timebase := {}
  ptp : Ptp := {}
  trig : Assoc Trigger := []
  owners : Assoc OwnerWord := []
  gpio : Assoc Gpio := []
  icM : IntCtl := {}
  icA : IntCtl := {}
  icB : IntCtl := {}
  /-- Words latched for a reading master by its read of a companion register, by master and register (R43, R525). -/
  latch : Assoc Nat := []
  /-- Register bits kept as plain words, where they differ from their reset value. -/
  regs : Assoc Nat := []
  /-- Stored dictionary values, where they differ from their defaults. -/
  dict : Assoc DVal := []
  /-- Accepted writes that are not folded into `dict` yet, in journal order. -/
  fePend : List JRec := []
  sub : Subsoil := {}
  dam : Dameel := {}
  ua : RUnit := {}
  ub : RUnit := {}
  arb : Arbiter := {}
  ports : List Port := [{}, {}, {}, {}, {}]
  st : Streams := {}
  tdm : List Tdm := [{}, {}, {}, {}, {}, {}, {}, {}]
  surv : Survey := {}
  isl : Island := {}
  kao : Mirror := {}
  tap : Tap := {}
deriving DecidableEq, Repr

/-- Reasons that stop the block with a fault: none, since every event the spec describes leaves a next state. -/
inductive Fault where
deriving DecidableEq, Repr

/-- Reasons that the model refuses a command. -/
inductive Refusal where
  /-- The command has no meaning yet; answered by `exec` alone, safe. -/
  | notModelled (mnemonic : String)
deriving DecidableEq, Repr

/-- The block right after power-on reset is applied: POR_N low, nothing started (log entries 1 and 2). -/
def State.reset : State := {}

end Sys2Proof.Machine
end

