-- ==== Sys2Proof/Machine/Ops.lean ====
section
/-!
DEFINITION. The named operations that the meanings share: finite maps, fall-through FIFOs, registers and their sticky
bits, interrupt sources, the event log, notifications, stored dictionary values, owner words, and the free-value draw.
-/
namespace Sys2Proof.Machine

/-! ### Finite maps -/

/-- The value at a key. -/
def aget? {α : Type} : Assoc α → Nat → Option α
  | [], _ => none
  | (a, v) :: l, k => if a = k then some v else aget? l k

/-- The value at a key, `d` where the map lists none. -/
def agetD {α : Type} (l : Assoc α) (k : Nat) (d : α) : α := (aget? l k).getD d

/-- The map without a key. -/
def adel {α : Type} : Assoc α → Nat → Assoc α
  | [], _ => []
  | (a, v) :: l, k => if a = k then l else (a, v) :: adel l k

/-- The map with a value at a key, keys kept rising. -/
def aput {α : Type} : Assoc α → Nat → α → Assoc α
  | [], k, v => [(k, v)]
  | (a, w) :: l, k, v =>
    if k < a then (k, v) :: (a, w) :: l
    else if k = a then (k, v) :: l
    else (a, w) :: aput l k v

/-- The map with a value at a key, which is not listed when it equals the default `d`. -/
def aputD {α : Type} [DecidableEq α] (l : Assoc α) (k : Nat) (v d : α) : Assoc α :=
  if v = d then adel l k else aput l k v

/-- Keys strictly rise. -/
def asorted {α : Type} : Assoc α → Bool
  | [] => true
  | (a, _) :: l => l.all (fun e => a < e.1) && asorted l

/-- A set of numbers with one added. -/
def setAdd (l : List Nat) (k : Nat) : List Nat := if k ∈ l then l else k :: l

/-- A set of numbers with one taken out. -/
def setDel (l : List Nat) (k : Nat) : List Nat := l.filter (· ≠ k)

/-- The list with element `i` replaced; unchanged where the list has no such element. -/
def lset {α : Type} : List α → Nat → α → List α
  | [], _, _ => []
  | _ :: l, 0, v => v :: l
  | a :: l, i + 1, v => a :: lset l i v

/-! ### Memory cells -/

/-- The byte at an address; an unlisted address reads as zero (log entry 5). -/
def cellRead : List Host.Cell → Nat → Byte
  | [], _ => 0
  | (a, v) :: l, k => if a = k then v else cellRead l k

/-- The cells with one byte written; a zero byte is not listed. -/
def cellWrite (l : List Host.Cell) (k : Nat) (v : Byte) : List Host.Cell := aputD l k v 0

/-- The cells with successive bytes written from an address. -/
def cellWrites (l : List Host.Cell) (k : Nat) : List Byte → List Host.Cell
  | [] => l
  | b :: bs => cellWrites (cellWrite l k b) (k + 1) bs

/-- `n` successive bytes from an address. -/
def cellReads (l : List Host.Cell) (k : Nat) : Nat → List Byte
  | 0 => []
  | n + 1 => cellRead l k :: cellReads l (k + 1) n

/-- The canonical form: addresses strictly rise and no listed byte is zero. -/
def Memory.wf (l : List Host.Cell) : Bool := asorted l && l.all (fun c => c.2 ≠ 0)

/-! ### Fall-through FIFOs (R477 to R480) -/

/-- Stages occupied. -/
def Fifo.level {α : Type} (f : Fifo α) : Nat := f.items.length

/-- Level, peak and watermark after a change of the items (R479). -/
def Fifo.relevel {α : Type} (f : Fifo α) (items : List (FItem α)) : Fifo α :=
  let before := f.items.length
  let now := items.length
  { f with
    items := items
    peak := max f.peak now
    crossed := f.crossed || (f.wm != 0 && decide (before < f.wm) && decide (f.wm ≤ now)) }

/-- The items after one arrives while every stage is occupied: the input-most becomes or extends a gap marker. -/
def gapLast {α : Type} : List (FItem α) → List (FItem α)
  | [] => []
  | [.item _ _] => [.gap 2]
  | [.gap n] => [.gap (min 65535 (n + 1))]
  | x :: y :: l => x :: gapLast (y :: l)

/-- An item arrives at a FIFO of `depth` stages (R477, R478). -/
def Fifo.push {α : Type} (depth : Nat) (f : Fifo α) (v : α) (last : Bool) : Fifo α :=
  if f.dropping then { f with dropping := !last }
  else if f.items.length < depth then f.relevel (f.items ++ [.item v last])
  else
    let formed := match f.items.getLast? with
      | some (.gap _) => false
      | _ => true
    { f with items := gapLast f.items, gapSeen := f.gapSeen || formed }

/-- The item at stage 0 leaves. -/
def Fifo.pop {α : Type} (f : Fifo α) : Fifo α := { f with items := f.items.drop 1, rdPos := 0 }

/-- What DROP_PKT leaves: everything after the first item that ends a packet, and whether none was found. -/
def dropPkt {α : Type} : List (FItem α) → List (FItem α) × Bool
  | [] => ([], true)
  | .gap _ :: l => dropPkt l
  | .item _ true :: l => (l, false)
  | .item _ false :: l => dropPkt l

/-- FIFO_CMD.DROP_PKT (R478). -/
def Fifo.drop {α : Type} (f : Fifo α) : Fifo α :=
  let r := dropPkt f.items
  { f with items := r.1, dropping := r.2, rdPos := 0 }

/-- FIFO_CMD.FLUSH (R478). -/
def Fifo.flush {α : Type} (f : Fifo α) : Fifo α := { f with items := [], dropping := false, rdPos := 0 }

/-- FIFO_STAT.ABOVE (R479). -/
def Fifo.above {α : Type} (f : Fifo α) : Bool := f.wm != 0 && decide (f.wm ≤ f.items.length)

/-! ### Units and small accessors -/

/-- A unit's part of the state. -/
def State.unit (s : State) : UnitId → RUnit
  | .a => s.ua
  | .b => s.ub

/-- The state with one unit's part replaced. -/
def State.setUnit (s : State) (u : UnitId) (r : RUnit) : State :=
  match u with
  | .a => { s with ua := r }
  | .b => { s with ub := r }

/-- Both units changed alike. -/
def State.onUnits (s : State) (f : RUnit → RUnit) : State := { s with ua := f s.ua, ub := f s.ub }

/-- The state with one unit's part changed by a function. -/
def State.onUnit (s : State) (u : UnitId) (f : RUnit → RUnit) : State := s.setUnit u (f (s.unit u))

/-- A core's interrupt controller. -/
def State.ic (s : State) : Core → IntCtl
  | .mgmt => s.icM
  | .ua => s.icA
  | .ub => s.icB

/-- The state with a core's interrupt controller replaced. -/
def State.setIc (s : State) (c : Core) (i : IntCtl) : State :=
  match c with
  | .mgmt => { s with icM := i }
  | .ua => { s with icA := i }
  | .ub => { s with icB := i }

/-- Something is put out. -/
def State.emit (s : State) (o : Out) : State := { s with out := o :: s.out }

/-- The next free number (log entry 3). -/
def State.freeNat (s : State) : Nat := Config.freeNat s.draws

/-- One free value has been used. -/
def State.drawn (s : State) : State := { s with draws := s.draws + 1 }

/-! ### Registers -/

/-- The key of a register in the plain register map. -/
def regKey (sp : Space) (addr : Nat) : Nat := sp.toNat * 2 ^ 32 + addr

/-- The reset value of a register kept in the plain map: that of its row, and that of REG_RATE by R497. -/
def regReset (addr : Nat) : Nat :=
  match regFind addr with
  | some r =>
    match r.reset with
    | .val n => n
    | .calc =>
      if r.base = 0x20060000 ∧ r.off = 0x200 then
        let i := (addr - 0x20060200) / 0x10
        if i < 16 ∨ i = 17 then 0x1EC else 0xFFFF
      else 0
  | none => 0

/-- The value of a register kept in the plain map. -/
def State.reg (s : State) (sp : Space) (addr : Nat) : Nat := agetD s.regs (regKey sp addr) (regReset addr)

/-- The state with a plain register written whole. -/
def State.setReg (s : State) (sp : Space) (addr v : Nat) : State :=
  { s with regs := aputD s.regs (regKey sp addr) v (regReset addr) }

/-- A 32-bit counter register counts, saturating. -/
def State.countReg (s : State) (sp : Space) (addr n : Nat) : State :=
  s.setReg sp addr (min 0xFFFFFFFF (s.reg sp addr + n))

/-! ### Interrupt sources (R515 to R522) -/

/-- The level sources that a status register's sticky bits assert (R516). -/
def levelSources (sp : Space) (addr : Nat) : List (Core × Nat) :=
  match sp with
  | .unit u =>
    let c := u.core
    if addr = 0x20000004 then [(c, 0x10)]
    else if addr = 0x20020004 then [(c, 0x12)]
    else if addr = 0x20021004 then [(c, 0x13)]
    else if addr = 0x20090008 then [(c, 0x14), (.mgmt, 0x78 + u.toNat)]
    else if addr = 0x20060004 then [(c, 0x15)]
    else if addr = 0x20070004 then [(c, 0x16)]
    else if addr = 0x20080004 then [(c, 0x17)]
    else if addr = 0x20040004 then [(c, 0x18)]
    else if addr = 0x200A0000 then [(c, 0x40)]
    else if 0x20030000 ≤ addr ∧ addr < 0x20040000 ∧ addr % 0x1000 = 4 then [(c, 0x20 + (addr - 0x20030000) / 0x1000)]
    else if 0x20080100 ≤ addr ∧ addr < 0x20080300 ∧ addr % 0x20 = 0xC then [(c, 0x30 + (addr - 0x20080100) / 0x20)]
    else []
  | .shared =>
    let both := fun (n m : Nat) => [(Core.ua, n), (Core.ub, n), (Core.mgmt, m)]
    if addr = 0x30050004 then [(.mgmt, 0x10)]
    else if addr = 0x30060004 then [(.mgmt, 0x11)]
    else if addr = 0x30020004 then both 0xA0 0x70
    else if addr = 0x30030004 then both 0xA1 0x71
    else if addr = 0x30000004 then both 0xA3 0x73
    else if 0x30040000 ≤ addr ∧ addr < 0x30040800 ∧ addr % 0x100 = 0 then both 0xA2 0x72
    else if 0x30010000 ≤ addr ∧ addr < 0x30015000 then
      let p := (addr - 0x30010000) / 0x1000
      let o := addr % 0x1000
      if o = 4 then both (0x98 + p) (0x68 + p)
      else if 0x100 ≤ o ∧ o < 0x300 ∧ o % 0x40 = 0x20 then both (0x90 + p) (0x60 + p)
      else []
    else []

/-- The sticky bits of a status register that assert its level source. -/
def stickyMask (addr : Nat) : Nat :=
  match regFind addr with
  | some r =>
    if 0x30010000 ≤ addr ∧ addr < 0x30015000 ∧ addr % 0x1000 ≠ 4 then r.w1c % 2
    else r.w1c
  | none => 0

/-- Whether a source takes part in moderation, and its group (R522). -/
def IntCtl.modGroup (i : IntCtl) (src : Nat) : Option Nat :=
  let c := agetD i.srccfg src 0
  if natBit c 8 then some (natBits c 4 4) else none

/-- Members of a moderation group that are pending. -/
def IntCtl.members (i : IntCtl) (g : Nat) : List Nat := i.pend.filter (fun p => i.modGroup p == some g)

/-- A source's pending bit is set; its moderation group starts its wait, and is released at once where MOD_US is 0 or
MOD_COUNT members are pending (R522). -/
def IntCtl.setPend (i : IntCtl) (us src : Nat) : IntCtl :=
  if src ∈ i.pend then i
  else
    let i1 := { i with pend := src :: i.pend }
    match i1.modGroup src with
    | none => i1
    | some g =>
      let mg := agetD i1.groups g {}
      let cfg := if mg.since.isSome then mg.cfg else agetD i1.modCfg g 0
      let need := max 1 (natBits cfg 8 8)
      let now := natBits cfg 0 8 == 0 || decide (need ≤ (i1.members g).length)
      let mg1 : ModGroup :=
        { released := mg.released || now, since := if mg.since.isSome then mg.since else some us, cfg := cfg }
      { i1 with groups := aput i1.groups g mg1 }

/-- Whether the source's number exists at the core: 1 to 255 at a control core, 1 to 127 at the management core. -/
def srcExists (c : Core) (src : Nat) : Bool :=
  match c with
  | .mgmt => 0 < src && src < 128
  | _ => 0 < src && src < 256

/-- An edge source fires (R515). -/
def State.raiseEdge (s : State) (c : Core) (src : Nat) : State := s.setIc c ((s.ic c).setPend s.tb.us src)

/-- A level source asserts: it becomes pending unless it is pending or in service (R515). -/
def State.raiseLevel (s : State) (c : Core) (src : Nat) : State :=
  if src ∈ (s.ic c).insvc then s else s.raiseEdge c src

/-- Every level source of a list asserts. -/
def State.raiseLevels (s : State) : List (Core × Nat) → State
  | [] => s
  | p :: ps => (s.raiseLevel p.1 p.2).raiseLevels ps

/-- Hardware sets sticky bits of a status register, and its level source asserts. -/
def State.setStat (s : State) (sp : Space) (addr mask : Nat) : State :=
  let s1 := s.setReg sp addr (s.reg sp addr ||| mask)
  if s1.reg sp addr &&& stickyMask addr = 0 then s1 else s1.raiseLevels (levelSources sp addr)

/-- Sticky bits are cleared by software (R10). -/
def State.clearStat (s : State) (sp : Space) (addr mask : Nat) : State :=
  s.setReg sp addr (s.reg sp addr &&& (0xFFFFFFFF ^^^ mask))

/-! ### Register addresses used by name -/

/-- TB_STAT (R525). -/
def tbStat : Nat := 0x30000004
/-- MB_STAT (R463). -/
def mbStat : Nat := 0x30050004
/-- SV_STAT (R514). -/
def svStat : Nat := 0x20040004

/-! ### Error responses (R482) -/

/-- The unit with its fabric changed. -/
def RUnit.onFab (r : RUnit) (f : Fabric → Fabric) : RUnit := { r with fab := f r.fab }

/-- The state with a unit's fabric changed. -/
def State.onFab (s : State) (u : UnitId) (f : Fabric → Fabric) : State := s.onUnit u (fun r => r.onFab f)

/-- A counter register counts unless its block's CNT_HOLD bit holds it. -/
def State.countHeld (s : State) (u : UnitId) (ctrl bit addr n : Nat) : State :=
  if natBit (s.reg (.unit u) ctrl) bit then s else s.countReg (.unit u) addr n

/-- The packet of three words that the error FIFO keeps (R482). -/
def errWords (kind target master id addr : Nat) (wr : Bool) : List Nat :=
  [2 ^ 30 + kind * 2 ^ 24 + target * 2 ^ 16 + master * 2 ^ 8 + id, addr % 2 ^ 32, addr / 2 ^ 32 % 8 + if wr then 8 else 0]

/-- A matrix records an error response: in the error FIFO, in the count, and in BM_STAT.ERR (R482, R496). -/
def State.busRecord (s : State) (u : UnitId) (kind target master id addr : Nat) (wr : Bool) : State :=
  let s1 := s.onFab u (fun f => { f with errFifo := f.errFifo.push 64 (errWords kind target master id addr wr) true })
  (s1.countHeld u 0x20060000 0 0x20060010 1).setStat (.unit u) 0x20060004 1

/-- The target that decodes an address of register space (R465). -/
def regTarget (addr : Nat) : Nat :=
  if 0x20000000 ≤ addr ∧ addr < 0x200B0000 then 3 else if 0x30000000 ≤ addr ∧ addr < 0x30080000 then 4 else 7

/-- A core's register access receives an error response. The matrix that it passes records it: a control core's own, as master 0,
for an address of the other unit as an access that the peer window refuses; the unit's, as master 11, for the management core's
access to a unit; the management core's access to shared registers passes no matrix (R26, R464, R482; log entry 209). -/
def State.regFail (s : State) (c : Core) (sp : Space) (addr kind : Nat) (wr : Bool) : State :=
  (match c.unit, sp with
    | none, Space.shared => s
    | none, Space.unit u => s.busRecord u kind (regTarget addr) 11 0 addr wr
    | some u, sp =>
      if sp = Space.unit u.other then s.busRecord u 2 6 0 0 (0x400000000 + addr) wr
      else s.busRecord u kind (regTarget addr) 0 0 addr wr : State).emit (.regError c addr)

/-- The bank groups of a unit that are out of retention: those below this number. A wake takes 40 microseconds per group, from group
0 on (R474). -/
def State.awakeNow (s : State) (u : UnitId) : Nat :=
  let f := (s.unit u).fab
  if f.waking then max f.awakeTo (min 64 ((s.tb.us + 2 ^ 48 - f.wakeUs) % 2 ^ 48 / 40)) else f.awakeTo

/-! ### Event log (R455 to R457) -/

/-- An event record of a time is taken into the buffer. Each code is limited to 10 records per second; the excess is counted,
and a record that finds the buffer of 1,024 full is counted as well (R455, R457). -/
def State.logAt (s : State) (sec ns code source level data0 data1 : Nat) : State :=
  let n := agetD s.sub.logRate code 0
  if 10 ≤ n ∨ 1024 ≤ s.sub.logBuf.length then
    { s with sub := { s.sub with
        logSuppressed := aput s.sub.logSuppressed code (agetD s.sub.logSuppressed code 0 + 1) } }
  else
    let r : LogRec := ⟨s.sub.logNext, sec, ns, code, source, level, data0, data1⟩
    { s with sub := { s.sub with
        logBuf := s.sub.logBuf ++ [r]
        logNext := if s.sub.logNext = 0xFFFFFFFF then 1 else s.sub.logNext + 1
        logRate := aput s.sub.logRate code (n + 1) } }

/-- An event record of Subsoil's own, at the present time. -/
def State.logEvent (s : State) (code source level data0 data1 : Nat) : State :=
  s.logAt s.tb.sec s.tb.ns code source level data0 data1

/-- A record of eight words arrives at event queue 0 (unit A), 1 (unit B) or 2 (arbiter), a FIFO of 64 stages with its watermark
at 48 (R457, R463, R477). -/
def State.evqPut (s : State) (q : Nat) (w : List Nat) : State :=
  let f := (s.sub.evq.getD q {}).push 64 w true
  let s1 := { s with sub := { s.sub with evq := lset s.sub.evq q { f with crossed := false } } }
  if f.crossed then s1.setStat .shared mbStat 0x2 else s1

/-- The arbiter, or a unit's control firmware, hands an event record of the present time to Subsoil through its event queue, which
accepts records while EVQ_EN is 1; Subsoil gives the record its number (R455, R457, R462). -/
def State.evqLog (s : State) (q code source level data0 data1 : Nat) : State :=
  if natBit (s.reg .shared 0x30050000) 1 then
    s.evqPut q [0, s.tb.sec / 2 ^ 16 % 2 ^ 32, (s.tb.sec % 2 ^ 16) * 2 ^ 16 + s.tb.ns / 2 ^ 16, (s.tb.ns % 2 ^ 16) * 2 ^ 16 + code % 2 ^ 16,
      source % 2 ^ 8 * 2 ^ 24 + level % 2 ^ 8 * 2 ^ 16 + data0 / 2 ^ 48 % 2 ^ 16, data0 / 2 ^ 16 % 2 ^ 32,
      (data0 % 2 ^ 16) * 2 ^ 16 + data1 / 2 ^ 16 % 2 ^ 16, (data1 % 2 ^ 16) * 2 ^ 16]
  else s

/-- The main die is powered and out of reset, in a state above STANDBY (R402, R442). -/
def State.dieUp (s : State) : Bool := s.sub.porN && s.sub.coreUp && s.sub.power != .off && s.sub.power != .standby

/-- The front end runs: the die is up, and in no management restart (R442, R454). -/
def State.frontRuns (s : State) : Bool := s.dieUp && !s.sub.restarting

/-! ### Dictionary keys and stored values -/

/-- The key of index:sub[element]. -/
def dkey (idx sub elem : Nat) : Nat := idx * 2 ^ 24 + sub * 2 ^ 16 + elem

/-- The index of a key. -/
def keyIdx (k : Nat) : Nat := k / 2 ^ 24
/-- The sub-index of a key. -/
def keySub (k : Nat) : Nat := k / 2 ^ 16 % 256
/-- The element of a key. -/
def keyElem (k : Nat) : Nat := k % 2 ^ 16

/-- The bytes of a text. -/
def asciiBytes (l : List Nat) : List Byte := l.map (BitVec.ofNat 8)

/-- The part number "AFN-1024" (R382). -/
def partNumber : List Byte := asciiBytes [65, 70, 78, 45, 49, 48, 50, 52]

/-- The default of an element (R380 and the tables of the chapters; per-device constants come from `Config`). -/
def dictDefault (e : DEntry) (elem : Nat) : DVal :=
  match e.dflt with
  | .num n => .num n
  | .zeros n => .bytes (List.replicate n 0)
  | .empty => if e.idx = 0x1000 ∧ e.sub = 1 then .bytes partNumber else .bytes []
  | .elem b => .num (b + elem)
  | .cfg =>
    if e.idx = 0x1000 ∧ e.sub = 3 then .num Config.serial
    else if e.idx = 0x1000 ∧ e.sub = 4 then .num Config.macBase
    else if e.idx = 0x1000 ∧ e.sub = 5 then .bytes Config.orderCode
    else if e.idx = 0x1000 ∧ e.sub = 6 then .num Config.mfgDate
    else if e.idx = 0x1000 ∧ (e.sub = 9 ∨ e.sub = 0xB) then .bytes []
    else .num 0
  | .special =>
    if e.idx = 0x3000 ∧ e.sub = 1 then .num (if elem = 4 then 8 else 2)
    else if e.idx = 0x3000 ∧ e.sub = 3 then .num (Config.macBase + elem)
    else if e.idx = 0xC100 ∧ e.sub = 2 then .num (if elem = 1 then 3 else 0)
    else if e.idx = 0x4000 then .num (if (e.sub - 0x10) % 5 = 0 then 0x10000000 else 0)
    else if e.idx = 0x3500 then .num (if elem < 1024 then (elem : Int) else 0x900 + ((elem : Int) - 1024))
    else .num 0

/-- The default at a key; 0 where the dictionary has no such entry. -/
def keyDefault (k : Nat) : DVal :=
  match dictFind (keyIdx k) (keySub k) with
  | some e => dictDefault e (keyElem k)
  | none => .num 0

/-- The stored base value at a key. -/
def baseVal (m : Assoc DVal) (k : Nat) : DVal := (aget? m k).getD (keyDefault k)

/-- The stored base values with one written. -/
def putVal (m : Assoc DVal) (k : Nat) (v : DVal) : Assoc DVal := aputD m k v (keyDefault k)

/-- The standing pending write of a key that is in force at sample `x`: the one with the latest apply index at or before
`x`, the later of two with the same index (R63, R373). -/
def pendAt (k x : Nat) : List JRec → Option JRec
  | [] => none
  | r :: l =>
    match pendAt k x l with
    | some q => if r.key = k ∧ r.wins ∧ r.apply ≤ x ∧ q.apply < r.apply then some r else some q
    | none => if r.key = k ∧ r.wins ∧ r.apply ≤ x then some r else none

/-- The value in force at a key at sample `x`, from base values and pending writes. -/
def valueAt (m : Assoc DVal) (p : List JRec) (k x : Nat) : DVal :=
  match pendAt k x p with
  | some r => r.val
  | none => baseVal m k

/-- The value of a stored entry in force now in the front end. -/
def State.fe (s : State) (k : Nat) : DVal := valueAt s.dict s.fePend k s.tb.sidx

/-- A stored front-end number in force now. -/
def State.feN (s : State) (idx sub elem : Nat) : Nat := (s.fe (dkey idx sub elem)).toNat

/-- A stored front-end integer in force now. -/
def State.feI (s : State) (idx sub elem : Nat) : Int := (s.fe (dkey idx sub elem)).toInt

/-- The VERSION of a DOMAIN entry grows by 1 (R362). -/
def State.bumpKey (s : State) (k : Nat) : State :=
  { s with dam := { s.dam with versions := aput s.dam.versions k (agetD s.dam.versions k 0 + 1) } }

/-- How often a value changes as writes take it over one after the other (R362). -/
def valChanges : DVal → List JRec → Nat
  | _, [] => 0
  | v, j :: l => (if j.val = v then 0 else 1) + valChanges j.val l

/-- The VERSION of each DOMAIN entry of a list that has changed grows by 1 (R362). -/
def State.bumpKeys (s : State) (l : List Nat) : State := l.foldl State.bumpKey s

/-- The VERSION of a stored DOMAIN entry counts a change of its value, and that of NV_DIGEST a change of its image (R272,
R362). -/
def State.bumpVersion (s : State) (k : Nat) (v : DVal) : State :=
  match v with
  | .num _ => s
  | .bytes _ =>
    if s.fe k = v then s
    else if keyIdx k = 0x8000 then (s.bumpKey k).bumpKey (dkey 0x8000 2 (keyElem k))
    else s.bumpKey k

/-- The state with a stored front-end value written at once. -/
def State.setFe (s : State) (idx sub elem : Nat) (v : DVal) : State :=
  let k := dkey idx sub elem
  { s.bumpVersion k v with dict := putVal s.dict k v }

/-- The state with a stored front-end number written at once. -/
def State.setFeN (s : State) (idx sub elem : Nat) (n : Int) : State := s.setFe idx sub elem (.num n)

/-- The error sums of a unit in 0xE000 restart at 0 (R399). -/
def State.clearDiag (s : State) (u : UnitId) : State :=
  ([1, 2, 3, 4] : List Nat).foldl (fun (t : State) k => t.setFeN 0xE000 k u.toNat 0) s

/-- A front-end counter entry counts, saturating at 2^32 - 1. -/
def State.countFe (s : State) (idx sub elem n : Nat) : State :=
  s.setFeN idx sub elem (min 0xFFFFFFFF (s.feN idx sub elem + n : Nat))

/-- The system rate in samples per second (0x2001). -/
def State.rate (s : State) : Nat := s.feN 0x2001 0 0

/-- The latency L in blocks (0x2002). -/
def State.latency (s : State) : Nat := s.feN 0x2002 0 0

/-- The release allowance C in samples (R55). -/
def State.relC (s : State) : Nat := if s.rate = 96000 then 4 else 2

/-! ### Sessions and notifications (R363, R364) -/

/-- A session's run-time state. -/
def State.sess (s : State) (n : Nat) : Session := agetD s.dam.sessions n {}

/-- The state with a session's run-time state replaced. -/
def State.setSess (s : State) (n : Nat) (x : Session) : State :=
  { s with dam := { s.dam with sessions := aputD s.dam.sessions n x {} } }

/-- Whether index, sub-index and element range cover a key; sub 0xFF covers every sub-index. -/
def covers (idx sub elem count key : Nat) : Bool :=
  keyIdx key == idx && (sub == 0xFF || keySub key == sub) && elem ≤ keyElem key && keyElem key < elem + count

/-- A note joins a session's queue of 64 (R363). -/
def State.noteTo (s : State) (n : Nat) (note : Note) : State :=
  let x := s.sess n
  if x.isOpen then s.setSess n { x with queue := x.queue.push 64 note false } else s

/-- A note joins the queue of every session of a list. -/
def State.noteAll (s : State) (note : Note) : List Nat → State
  | [] => s
  | n :: ns => (s.noteTo n note).noteAll note ns

/-- Sessions 1 to 16. -/
def sessionIds : List Nat := [1, 2, 3, 4, 5, 6, 7, 8, 9, 10, 11, 12, 13, 14, 15, 16]

/-- An event's note goes to the sessions that subscribe to any element of the entry named for it (R363, R364). -/
def State.notifyEntry (s : State) (code key block : Nat) (payload : List Byte) : State :=
  s.noteAll ⟨code, key, block, payload⟩ (sessionIds.filter (fun n => (s.sess n).subs.any (fun b =>
    b.idx == keyIdx key && (b.sub == 0xFF || b.sub == keySub key))))

/-- An event's note goes to the sessions whose subscription covers the entry named for it (R363, R364). -/
def State.notify (s : State) (code key block : Nat) (payload : List Byte) : State :=
  s.noteAll ⟨code, key, block, payload⟩
    (sessionIds.filter (fun n => (s.sess n).subs.any (fun b => covers b.idx b.sub b.elem b.count key)))

/-- The sessions open with role 3 (admin). -/
def State.adminSessions (s : State) : List Nat :=
  sessionIds.filter (fun n => (s.sess n).isOpen && s.feN 0xC100 2 n == 3)

/-! ### Owner words (R29 to R37) -/

/-- The key of a resource's owner word. -/
def resKey : Res → Nat
  | .tt t => t
  | .gpio g => 100 + g
  | .dma .a n => 200 + n
  | .dma .b n => 300 + n
  | .cap => 400
  | .tdm7 => 401

/-- Whether the instance exists (R28). -/
def resValid : Res → Bool
  | .tt t => t < 16
  | .gpio g => g < 24
  | .dma _ n => n < 16
  | _ => true

/-- A resource's owner word. -/
def State.own (s : State) (r : Res) : OwnerWord := agetD s.owners (resKey r) {}

/-- The state with a resource's owner word replaced. -/
def State.setOwn (s : State) (r : Res) (w : OwnerWord) : State := { s with owners := aputD s.owners (resKey r) w {} }

/-- Whether a master may use an owner ID (R29). -/
def idOfMaster (c : Core) (id : Nat) : Bool :=
  match c with
  | .mgmt => (1 ≤ id && id ≤ 0x10) || id == 0x20 || id == 0x30
  | .ua => id == 0x21
  | .ub => id == 0x22

/-- Whether an ID may own a resource (R30). -/
def idOfRes (r : Res) (id : Nat) : Bool :=
  match r with
  | .dma .a _ => id == 0x21
  | .dma .b _ => id == 0x22
  | _ => (1 ≤ id && id ≤ 0x10) || id == 0x20 || id == 0x30

/-- A write of an owner word by a master: a claim with a non-zero ID, a release, both (refused), or neither (R32, R33).
The first answer is OK where the operation is accepted. -/
def State.ownerWrite (s : State) (c : Core) (r : Res) (id : Nat) (rel : Bool) : Status × State :=
  let w := s.own r
  let refuse := fun st : Status => (st, s.setOwn r { w with lastRefused := true })
  if id ≠ 0 ∧ rel then refuse .access
  else if id ≠ 0 then
    if ¬ idOfMaster c id ∨ ¬ idOfRes r id then refuse .access
    else if w.owner = 0 ∨ w.owner = id then (.ok, s.setOwn r ⟨id, false⟩)
    else refuse .busy
  else if rel then
    if w.owner = 0 ∨ idOfMaster c w.owner then (.ok, s.setOwn r ⟨0, false⟩)
    else refuse .busy
  else (.ok, s)

/-- The output index lies after the end of a RENDER and before the start of the next (R58, R446). -/
def Arbiter.zeroAt (a : Arbiter) (x : Nat) : Bool :=
  match a.endAt with
  | some e => e ≤ x && (x < a.startAt || a.startAt ≤ e)
  | none => false

/-- A configuration write of a free resource by an agent that R30 permits claims it (R36). -/
def State.configOk (s : State) (r : Res) (id : Nat) : Bool :=
  let w := s.own r
  w.owner == id || (w.owner == 0 && idOfRes r id)

/-- The resource belongs to the agent that configures it (R36). -/
def State.claimFor (s : State) (r : Res) (id : Nat) : State :=
  if (s.own r).owner = 0 then s.setOwn r ⟨id, false⟩ else s

/-- A record put into a list in order of apply index, after those of the same index. -/
def insApply (j : JRec) : List JRec → List JRec
  | [] => [j]
  | k :: l => if j.apply < k.apply then j :: k :: l else k :: insApply j l

/-- Records in order of apply index, and in journal order at one index. -/
def byApply (l : List JRec) : List JRec := l.foldl (fun (m : List JRec) j => insApply j m) []

/-! ### Ethernet ports and their registers -/

/-- The base address of a port's registers (R338). -/
def portBase (p : Nat) : Nat := 0x30010000 + 0x1000 * p

/-- A register of a port. -/
def State.portReg (s : State) (p off : Nat) : Nat := s.reg .shared (portBase p + off)

/-- A port. -/
def State.port (s : State) (p : Nat) : Port := s.ports.getD p {}

/-- The state with a port replaced. -/
def State.setPort (s : State) (p : Nat) (q : Port) : State := { s with ports := lset s.ports p q }

/-- The port receives: enabled, with its link up and its power on. -/
def State.rxOn (s : State) (p : Nat) : Bool :=
  decide (p < 5) && natBit (s.portReg p 0) 0 && (s.port p).link && s.sub.power != .standby && s.sub.power != .off

/-- The port sends: enabled, with its link up and its power on. -/
def State.txOn (s : State) (p : Nat) : Bool :=
  decide (p < 5) && natBit (s.portReg p 0) 1 && (s.port p).link && s.sub.power != .standby && s.sub.power != .off

end Sys2Proof.Machine
end

