-- ==== Sys2Proof/Machine/Gpio.lean ====
section
/-!
DEFINITION. The GPIO balls (R389, R390): the level of a ball under its function, and its changes.
-/
namespace Sys2Proof.Machine
open Sys2Proof

/-- A GPIO ball. -/
def State.ball (s : State) (g : Nat) : Gpio := agetD s.gpio g {}

/-- The ball is at its active level under function 2: a pulse of a trigger that the ball's owner owns lasts (R69, R390). -/
def State.pulsing (s : State) (g : Nat) : Bool :=
  (s.ball g).pulses.any (fun p => (s.own (.tt p.1)).owner == (s.own (.gpio g)).owner)

/-- The level that the die drives at a ball, none at an input (R389, R390). -/
def State.gpioDrive (s : State) (g : Nat) : Option Bool :=
  let b := s.ball g
  match b.func with
  | 0 => none
  | 1 => some b.out
  | 2 => some (s.pulsing g != (b.pol == 1))
  | _ => some b.sil

/-- The level at a ball: the one driven, or what the board drives at this moment (R389, R390, log entry 201). -/
def State.gpioLevel (s : State) (g : Nat) : Bool := (s.gpioDrive g).getD (Config.pinLevel g s.tb.sec s.tb.ns)

/-- The state with a ball replaced; a level that the die drives and that changes is put out. -/
def State.setBall (s : State) (g : Nat) (b : Gpio) : State :=
  let s1 := { s with gpio := aputD s.gpio g b {} }
  match s1.gpioDrive g with
  | some l => if s.gpioDrive g = some l then s1 else s1.emit (.gpio g l)
  | none => s1

/-- A number of the silence groups' entries in force at index `x` (R60). -/
def State.silSet (s : State) (x sub k : Nat) : Nat := (valueAt s.dict s.fePend (dkey 0x6620 sub k) x).toNat

/-- The silence group that names a ball at index `x` (R162, R390). -/
def State.silGroupOf (s : State) (x g : Nat) : Option Nat := (List.range 8).find? (fun k => s.silSet x 1 k == g)

/-- The level that the silence groups give a ball at index `x`: that of the group which names it, at its polarity; low where
none names it. -/
def State.silLevel (s : State) (x byte g : Nat) : Bool :=
  match s.silGroupOf x g with
  | some k => natBit byte k != (s.silSet x 2 k == 1)
  | none => false

/-- Every ball of a list takes the level of its silence group under the settings in force at index `x`. -/
def State.driveSil (s : State) (x byte : Nat) : List Nat → State
  | [] => s
  | g :: l => (s.setBall g { s.ball g with sil := s.silLevel x byte g }).driveSil x byte l

end Sys2Proof.Machine
end

