-- ==== Sys2Proof/Machine/Sdp.lean ====
section
/-!
DEFINITION. The DOMAIN values that the front end forms from other state, SDP_OWN and PEER_TABLE (R331, R374, R375), and the
count of their changes (R362).
-/
namespace Sys2Proof.Machine
open Sys2Proof

/-! ### Session descriptions (R331) -/

/-- An IPv4 group. -/
def isMulticast (ip : Nat) : Bool := 0xE0000000 ≤ ip && ip ≤ 0xEFFFFFFF

/-- A number of the front end's dictionary in force at sample `x`. -/
def State.feAt (s : State) (x idx sub e : Nat) : Nat := (valueAt s.dict s.fePend (dkey idx sub e) x).toNat

/-- The bytes of a text. -/
def txt (t : String) : List Byte := t.toList.map (fun c => BitVec.ofNat 8 c.toNat)

/-- The decimal digits of a number. -/
def decText (n : Nat) : List Byte :=
  let rec go : Nat → Nat → List Byte → List Byte
    | 0, _, acc => acc
    | k + 1, m, acc =>
      let acc' := BitVec.ofNat 8 (48 + m % 10) :: acc
      if m / 10 = 0 then acc' else go k (m / 10) acc'
  go 20 n []

/-- An IPv4 address in dotted form. -/
def ipText (ip : Nat) : List Byte :=
  decText (ip / 2 ^ 24) ++ txt "." ++ decText (ip / 65536 % 256) ++ txt "." ++ decText (ip / 256 % 256) ++ txt "." ++
    decText (ip % 256)

/-- A clock identity as text: eight bytes in upper-case hexadecimal, joined by hyphens (RFC 7273). -/
def eui64Text (id : Nat) : List Byte :=
  let d := fun (v : Nat) => BitVec.ofNat 8 (if v < 10 then 48 + v else 55 + v)
  (List.range 8).flatMap (fun k =>
    let b := id / 256 ^ (7 - k) % 256
    (if k = 0 then [] else txt "-") ++ [d (b / 16), d (b % 16)])

/-- The media lines of one leg of an egress stream (RFC 4566). -/
def State.sdpLeg (s : State) (x i leg : Nat) (two : Bool) : List Byte :=
  let n := fun (sub : Nat) => s.feAt x 0x3400 sub i
  let ip := s.feAt x 0x3410 1 (2 * i + leg)
  let pt := decText (n 7)
  let clock := if s.feN 0x2010 1 0 = 1 then Config.clockId else s.ptp.leader.getD Config.clockId
  txt "m=audio " ++ decText (s.feAt x 0x3410 2 (2 * i + leg)) ++ txt " RTP/AVP " ++ pt ++ txt "\r\nc=IN IP4 " ++ ipText ip ++
    (if isMulticast ip then txt "/" ++ decText (n 0xD) else []) ++ txt "\r\na=rtpmap:" ++ pt ++
    (if n 4 = 0 then txt " L24/" else txt " L16/") ++ decText s.rate ++ txt "/" ++ decText (n 5) ++ txt "\r\na=ptime:" ++
    txt (["0.125", "0.25", "0.33", "1", "4"].getD (n 6) "1") ++ txt "\r\na=ts-refclk:ptp=IEEE1588-2008:" ++
    eui64Text clock ++ txt ":" ++ decText (s.feN 0x2010 3 0) ++ txt "\r\na=mediaclk:direct=" ++ decText (n 8) ++ txt "\r\n" ++
    (if two then txt "a=mid:" ++ decText leg ++ txt "\r\n" else [])

/-- The session description of an egress stream under the configuration in force at sample `x`, of up to 1,024 bytes (R331). -/
def State.sdpAt (s : State) (x i : Nat) : List Byte :=
  let legs := ([0, 1] : List Nat).filter (fun l => natBit (s.feAt x 0x3400 3 i) l)
  let two := legs.length == 2
  (Config.sdpPart i ++ (if two then txt "a=group:DUP 0 1\r\n" else []) ++ legs.flatMap (fun l => s.sdpLeg x i l two)).take 1024

/-- The session description of an egress stream now (R331). -/
def State.sdpText (s : State) (i : Nat) : List Byte := s.sdpAt s.tb.sidx i

/-! ### The peer table (R374, R375) -/

/-- Microseconds of TB_US since a time. -/
def State.usSince (s : State) (t : Nat) : Nat := (s.tb.us + 2 ^ 48 - t) % 2 ^ 48

/-- PEER_TABLE (R374, R375): records of 64 bytes, of which the reply body takes the first 56. -/
def State.peerTable (s : State) : List Byte :=
  s.dam.peers.flatMap (fun e =>
    e.1.take 56 ++ List.replicate (56 - e.1.length) 0 ++ beBytes 4 e.2.1 ++ beBytes 4 (s.usSince e.2.2 / 1000000))

/-! ### Changes of the formed values (R362) -/

/-- The entries whose value the front end forms: SDP_OWN and PEER_TABLE. -/
def formedKey (k : Nat) : Bool := (keyIdx k == 0x3900 && keySub k == 5) || k == dkey 0xC000 5 0

/-- How often PEER_TABLE has changed through the ages of its peers since the formed values were last compared: the ages of
two peers that step at one instant are one change. -/
def State.peerTicks (s : State) : Nat :=
  let d := s.usSince s.dam.formedUs
  ((s.dam.peers.map (fun e => s.usSince e.2.2 % 1000000)).eraseDups.map (fun r => (d + 999999 - r) / 1000000)).sum

/-- The indices at which pending writes of egress streams have come into force since the formed values were last compared, in
order. -/
def State.sdpDue (s : State) : List Nat :=
  let due := s.fePend.filter (fun j => (keyIdx j.key == 0x3400 || keyIdx j.key == 0x3410) && j.wins &&
    decide (s.dam.formedIdx < j.apply) && decide (j.apply ≤ s.tb.sidx))
  ((byApply due).map (·.apply)).eraseDups

/-- How often a value changes as it passes through a list of values. -/
def textChanges : List Byte → List (List Byte) → Nat
  | _, [] => 0
  | b, c :: l => (if b = c then 0 else 1) + textChanges c l

/-- The value of a formed entry now. -/
def State.formNow (s : State) (k : Nat) : List Byte :=
  if k = dkey 0xC000 5 0 then s.peerTable else s.sdpText (keyElem k)

/-- How often a formed value has changed since it was last compared, when it was `b`. -/
def State.formChanges (s : State) (k : Nat) (b : List Byte) : Nat :=
  if k = dkey 0xC000 5 0 then
    let n := s.peerTicks
    if n = 0 then textChanges b [s.peerTable] else n
  else textChanges b (s.sdpDue.map (fun x => s.sdpAt x (keyElem k)) ++ [s.sdpText (keyElem k)])

/-- The formed values that a host has read are compared with what they were, and their changes are counted: this is done before
and after whatever changes them otherwise than by the passing of time. What has never been read needs no count, since VERSION
starts from a value that is open (R362). -/
def State.noteForms (s : State) : State :=
  { s with dam := { s.dam with
    versions := s.dam.formed.foldl (fun m e =>
      if s.formChanges e.1 e.2 = 0 then m else aput m e.1 (agetD m e.1 0 + s.formChanges e.1 e.2)) s.dam.versions
    formed := s.dam.formed.map (fun e => (e.1, s.formNow e.1))
    formedUs := s.tb.us
    formedIdx := s.tb.sidx } }

/-- A read of an entry: a formed value is compared from now on. -/
def State.formVal (s : State) (k : Nat) (b : List Byte) : State :=
  if formedKey k = false then s
  else { s.noteForms with dam.formed := aput s.noteForms.dam.formed k b }

end Sys2Proof.Machine
end

