-- ==== Sys2Proof/Machine/Timebase.lean ====
section
/-!
DEFINITION. The timebase, the media clock and PTP (chapter 02, R40 to R53 and R70; register effects of R525 and R545):
the advance of time in whole ticks, and the commands that time, PPS_IN, the servo and the management core give.
-/
namespace Sys2Proof.Machine
open Sys2Proof

/-- One nanosecond in the timebase's unit, 2^-32 ns. -/
def nsUnit : Nat := 2 ^ 32

/-- One second in the timebase's unit. -/
def secUnit : Nat := 1000000000 * nsUnit

/-- PTP time in units of 2^-32 ns (R40). -/
def Timebase.now (t : Timebase) : Nat := (t.sec * 1000000000 + t.ns) * nsUnit + t.frac

/-- The timebase with its PTP time set, the seconds wrapping at 2^48 (R40). -/
def Timebase.setNow (t : Timebase) (n : Nat) : Timebase :=
  { t with sec := n / secUnit % 2 ^ 48, ns := n / nsUnit % 1000000000, frac := n % nsUnit }

/-- The timebase counts: enabled, out of reset, and in a state that powers it (R442). -/
def State.tbRuns (s : State) : Bool :=
  s.tb.en && s.sub.porN && s.sub.power != .off && s.sub.power != .standby

/-- Whether the device renders. -/
def State.rendering (s : State) : Bool := s.sub.power == .render

/-! ### A unit's settings  -/

/-- The value of a setting in force in a unit at sample `x`. -/
def Render.val (r : Render) (k x : Nat) : DVal := valueAt r.cfg r.pend k x

/-- A setting as an integer. -/
def Render.i (r : Render) (idx sub elem x : Nat) : Int := (r.val (dkey idx sub elem) x).toInt

/-- A setting as a natural number. -/
def Render.n (r : Render) (idx sub elem x : Nat) : Nat := (r.i idx sub elem x).toNat

/-- The state with a unit's render path changed. -/
def State.onRd (s : State) (u : UnitId) (f : Render → Render) : State := s.onUnit u (fun r => { r with rd := f r.rd })

/-- The unit renders: RENDER, or the blocks before its end are still to be computed (R446), with its image loaded and
enabled. -/
def State.unitRuns (s : State) (u : UnitId) : Bool :=
  (s.rendering || (s.unit u).rd.endBlk.isSome) && (s.unit u).hl.loaded && (s.unit u).hl.enabled

/-- A fault cause enters the health of a block and HL_FAULT (R210, R242). -/
def State.blockFault (s : State) (u : UnitId) (n bit : Nat) : State :=
  (s.setStat (.unit u) 0x20090008 (2 ^ bit)).onUnit u (fun r => { r with hl := { r.hl with
    blkFaults := aput r.hl.blkFaults n (agetD r.hl.blkFaults n 0 ||| 2 ^ bit) } })

/-- Corrected errors enter the unit's 1 s window, and set CE_RATE where it holds more than CE_LIMIT (R210, R242). -/
def State.ceHealth (s : State) (u : UnitId) (n : Nat) : State :=
  let c := min 0xFFFFFFFF ((s.unit u).hl.ceNow + n)
  let s1 := s.onUnit u (fun r => { r with hl := { r.hl with ceNow := c } })
  if (s.unit u).rd.n 0x9000 0xB u.toNat s.tb.sidx < c then s1.setStat (.unit u) 0x20090008 0x400 else s1

/-! ### Time -/

/-- Refill of one regulator over `j` microseconds (R486). -/
def refill (rate burst : Nat) (level : Int) (j : Nat) : Int :=
  if rate = 0xFFFF then level else min (burst : Int) (level + (j * rate : Nat))

/-- Refill of the regulators of a list. -/
def refillAll (s : State) (u : UnitId) (j : Nat) : List Nat → Assoc Int → Assoc Int
  | [], b => b
  | r :: rs, b =>
    let rate := s.reg (.unit u) (0x20060200 + 0x10 * r)
    let burst := s.reg (.unit u) (0x20060204 + 0x10 * r)
    refillAll s u j rs (aputD b r (refill rate burst (agetD b r 4096) j) 4096)

/-- The machine timer of a core asserts source 0x019 while TB_US is at or above IC_TIMECMP (R504). -/
def State.machineTimer (s : State) (c : Core) : State :=
  if (s.ic c).timecmp ≤ s.tb.us then s.raiseLevel c 0x19 else s

/-- What `j` steps of TB_US do: every regulator refills and the machine timers are compared (R486, R504, R505). -/
def State.usSteps (s : State) (j : Nat) : State :=
  if j = 0 then s
  else
    let s1 := { s with tb := { s.tb with us := (s.tb.us + j) % 2 ^ 48 } }
    let s2 := s1.onUnit .a (fun r => { r with fab := { r.fab with bucket := refillAll s1 .a j (List.range 22) r.fab.bucket } })
    let s3 := s2.onUnit .b (fun r => { r with fab := { r.fab with bucket := refillAll s1 .b j (List.range 22) r.fab.bucket } })
    ((s3.machineTimer .mgmt).machineTimer .ua).machineTimer .ub

/-- `k` ticks of the timebase pass: time, TB_US and PPS_OUT follow (R40, R44, R505). -/
def State.tbAdvance (s : State) (k : Nat) : State :=
  let t := s.tb
  let tot := k * t.incr
  let now' := t.now + tot
  let wrapped := t.sec < now' / secUnit
  let since := now' % secUnit
  let high := 100000000 * nsUnit
  let acc := t.usAcc + tot
  let left := if wrapped then (if since < high then high - since else 0) else t.ppsLeft - tot
  let t' := { t.setNow now' with usAcc := acc % (1000 * nsUnit), ppsLeft := left, pps := decide (0 < left) }
  let s1 := { s with tb := t' }
  let s2 := if t'.pps = t.pps then s1 else s1.emit (.ppsOut t'.pps)
  s2.usSteps (acc / (1000 * nsUnit))

/-- Ticks until PTP time reaches a target in units of 2^-32 ns; 0 where it is reached. -/
def Timebase.ticksTo (t : Timebase) (target : Int) : Nat :=
  let d := target - (t.now : Int)
  if d ≤ 0 ∨ t.incr = 0 then 0 else ((d + t.incr - 1) / t.incr).toNat

/-- The first PTP time, in units of 2^-32 ns, at which time plus e is at or after T(n) (R49). -/
def tickTime (rate : Nat) (e : Int) (n : Nat) : Int :=
  let q : Int := (0 - (n : Int) * secUnit) / (rate : Int)
  0 - q - e

/-- The greatest change of e in one sample period: 100 ppm of the period (R51; log entry 6). -/
def slewMax (rate : Nat) : Nat := secUnit / rate / 10000

/-- e after the slew of one sample period: it stays within one tick, or moves towards 0 (R51). -/
def slewed (t : Timebase) (rate : Nat) : Int :=
  if t.offset.natAbs ≤ t.incr then t.offset
  else
    let d : Nat := min (slewMax rate) t.offset.natAbs
    if t.offset < 0 then t.offset + d else t.offset - d

/-- FAR: |e| exceeds one sample period (R52). -/
def State.far (s : State) : Bool := decide (secUnit < s.tb.offset.natAbs * s.rate)

/-- SLEWING: |e| exceeds one tick (R52). -/
def State.slewing (s : State) : Bool := decide (s.tb.incr < s.tb.offset.natAbs)

/-- e in nanoseconds, rounded half to even and saturated to 32 bits (R52, R4). -/
def State.mcOffset (s : State) : Int := satS 32 (rneShift 32 s.tb.offset)

/-- FAR_SEEN sets whenever FAR sets, with a notification (R52). -/
def State.farCheck (s : State) (was : Bool) : State :=
  if s.far ∧ ¬ was then
    (s.setStat .shared tbStat 0x40).notify 0x0007 (dkey 0x2010 0x0C 0) (s.tb.sidx / 32) []
  else s

/-- The sample index, in 64 bits (R3), that hard alignment gives for the present time: the last tick at or before it (R49,
R50). -/
def State.alignedIdx (s : State) : Nat := s.tb.now * s.rate / secUnit % 2 ^ 64

/-- The index of the next sample tick counted without end: of the numbers whose low 64 bits are the next index, the one
nearest to the present time (R3, R49; log entry 155). -/
def State.nextIdx (s : State) : Nat :=
  let low : Int := ((s.tb.now * s.rate / secUnit : Nat) : Int) - 2 ^ 63
  (low + ((s.tb.sidx : Int) + 1 - low) % 2 ^ 64).toNat

/-- The last sample up to `x` at which a write makes a flag of value `v` rise, of writes in order of apply index. -/
def lastRise (x : Nat) : DVal → List JRec → Option Nat → Option Nat
  | _, [], a => a
  | v, j :: l, a =>
    if x < j.apply then a else lastRise x j.val l (if v ≠ .num 1 ∧ j.val = .num 1 then some j.apply else a)

/-- The index from which an egress stream is enabled, where the write that enabled it is still held (R327). -/
def State.esRise (s : State) (i : Nat) : Option Nat :=
  let k := dkey 0x3400 1 i
  lastRise s.tb.sidx (baseVal s.dict k) (byApply (s.fePend.filter (fun j => j.key == k && j.wins))) none

/-- The progress of an egress stream, from its last enabling on. -/
def State.esAt (s : State) (i : Nat) : EsState :=
  let q := aget? s.st.es i
  match s.esRise i with
  | none => q.getD ⟨s.tb.sidx, 0, s.tb.sidx⟩
  | some a =>
    match q with
    | some e => if e.since < a then ⟨a, 0, a⟩ else e
    | none => ⟨a, 0, a⟩

/-- The progress of an enabled egress stream is held (R327). -/
def State.esTrack (s : State) (i : Nat) : State :=
  if s.feAt s.tb.sidx 0x3400 1 i = 1 then { s with st := { s.st with es := aput s.st.es i (s.esAt i) } } else s

/-- The sample index has jumped outside RENDER: nothing released before counts any more, and streams and TDM ports that run go
on with the next index (R50, R327, R333; log entry 157). -/
def State.indexJump (s0 : State) : State :=
  let s := (List.range 128).foldl State.esTrack s0
  let x := s.tb.sidx + 1
  { s with
    arb := if s.arb.run then s.arb else { s.arb with released := [] }
    surv := { s.surv with cap := s.surv.cap.map (fun _ => {}) }
    st := { s.st with es := s.st.es.map (fun e => (e.1, { e.2 with next := x, since := x })) }
    tdm := s.tdm.map (fun q => if q.run then { q with next := x, input := [] } else q) }

/-- PPS_OUT is driven low in STANDBY (R44). -/
def State.ppsLow (s : State) : State :=
  let s1 := { s with tb := { s.tb with pps := false, ppsLeft := 0 } }
  if s.tb.pps then s1.emit (.ppsOut false) else s1

/-- The media clock is hard-aligned: e is 0, and the next sample tick is the one of R49 for the present time (R50). Streams
and TDM ports that run go on at the index that follows (R327, R333). -/
def State.realign (s : State) : State :=
  let x := s.alignedIdx
  let s0 := s.noteForms
  let s1 := { s0 with
    tb := { s.tb with offset := 0, sidx := x }
    dam := { s0.dam with formedIdx := x } }
  if x = s.tb.sidx then s1 else s1.noteForms.indexJump

/-- PTP time changes by `d` units: outside RENDER the media clock is hard-aligned to the new time, in RENDER e takes up
the change so that indices neither jump nor repeat (R50, R51). PPS_OUT neither rises nor falls with the change itself (log
entry 156). -/
def State.moveTime (s : State) (d : Int) : State :=
  let n := (s.tb.now : Int) + d
  let s1 := { s with tb := s.tb.setNow n.toNat }
  if s.rendering then
    { s1 with tb := { s1.tb with offset := s.tb.offset - d } }.farCheck s.far
  else
    s1.realign

/-- The next tick passes; a timebase that is stopped has none, and a written value then waits in place. -/
def State.nextTick (s : State) : State := if s.tbRuns then s.tbAdvance 1 else s

/-- A signed step in nanoseconds takes effect at the next tick; one that would make the time negative sets STEP_REJ and
is not applied (R42). -/
def State.tbStep (s : State) (ns : Int) : State :=
  let s1 := s.nextTick
  if (s1.tb.sec : Int) * 1000000000 + s1.tb.ns + ns < 0 then s1.setStat .shared tbStat 0x2
  else s1.moveTime (ns * nsUnit)

/-- A new increment takes effect at the next tick when it lies between 1.998 and 2.002 ns; otherwise INCR_REJ is set
(R41). -/
def State.tbSetIncr (s : State) (v : Nat) : State :=
  if 0x1FF7CED92 ≤ v ∧ v ≤ 0x20083126E then { s with tb := { s.tb with incr := v } }.nextTick
  else s.setStat .shared tbStat 0x1

/-- The servo's actions: an increment and a step, each where it makes one (R45). -/
def State.servo (s : State) (incr : Option Nat) (stepNs : Option Int) : State :=
  let s1 := match incr with
    | some v => s.tbSetIncr v
    | none => s
  match stepNs with
  | some d => s1.tbStep d
  | none => s1

/-- The lock state after a reference event whose offset lies within 1 microsecond or not (R47). -/
def Ptp.refEvent (p : Ptp) (good : Bool) : Ptp :=
  match p.lock with
  | .locked =>
    if good then { p with badRun := 0 }
    else if 4 ≤ p.badRun + 1 then { p with lock := .acquiring, goodRun := 0, badRun := 0 }
    else { p with badRun := p.badRun + 1 }
  | _ =>
    let g := if good then p.goodRun + 1 else 0
    if 16 ≤ g then { p with lock := .locked, goodRun := g, badRun := 0 }
    else { p with lock := .acquiring, goodRun := g, badRun := 0 }

/-- SAMPLE_TICK: time advances to the next sample tick and the index moves to it; in RENDER the index is the next one and
e slews (R49 to R51, R53). -/
def execSampleTick (s : State) : Host.Outcome State Fault Refusal :=
  if ¬ s.tbRuns then .next s
  else
    let s0 := if s.rendering then { s with tb := { s.tb with offset := slewed s.tb s.rate } } else s
    let s1 := s0.tbAdvance (s0.tb.ticksTo (tickTime s.rate s0.tb.offset s.nextIdx))
    .next { s1 with tb := { s1.tb with sidx := (s.tb.sidx + 1) % 2 ^ 64, mclkRun := s1.tb.mclkEn } }

/-- Ticks until the next second boundary. -/
def Timebase.ticksToSecond (t : Timebase) : Nat := t.ticksTo ((t.sec + 1) * secUnit : Nat)

/-- Ticks until the next sample tick. -/
def State.ticksToSample (s : State) : Nat := s.tb.ticksTo (tickTime s.rate s.tb.offset s.nextIdx)

/-- SECOND_BOUNDARY: time advances to the tick in which the nanoseconds wrap, seconds count and PPS_OUT rises (R40, R44).
The event is not due, and nothing happens, while a sample tick comes before it (log entry 7). -/
def execSecondBoundary (s : State) : Host.Outcome State Fault Refusal :=
  if ¬ s.tbRuns ∨ s.ticksToSample < s.tb.ticksToSecond then .next s
  else .next (s.tbAdvance s.tb.ticksToSecond)

/-- PPS_OUT_FALL: time advances to the tick in which PPS_OUT falls (R44); not due while a sample tick comes before it. -/
def execPpsOutFall (s : State) : Host.Outcome State Fault Refusal :=
  let k := if s.tb.incr = 0 then 0 else (s.tb.ppsLeft + s.tb.incr - 1) / s.tb.incr
  if ¬ s.tbRuns ∨ ¬ s.tb.pps ∨ s.ticksToSample < k then .next s
  else .next (s.tbAdvance k)

/-- Ticks until the accumulated increments pass the next multiple of 1,000 ns (R505). -/
def Timebase.ticksToUs (t : Timebase) : Nat :=
  if t.incr = 0 then 0 else (1000 * nsUnit - t.usAcc + t.incr - 1) / t.incr

/-- TB_US_STEP: time advances to the next step of TB_US, at which regulators refill and the machine timers are compared
(R486, R504, R505). -/
def execTbUsStep (s : State) : Host.Outcome State Fault Refusal :=
  if ¬ s.tbRuns then .next s else .next (s.tbAdvance s.tb.ticksToUs)

/-- TB_INCR_HI_WRITE: the staged fraction and the new integer part form the increment (R41); a write by a master other
than the management core receives an error response (R525). -/
def execTbIncrHiWrite (c : Core) (v : Nat) (s : State) : Host.Outcome State Fault Refusal :=
  if c ≠ .mgmt then .next (s.regFail c .shared 0x3000000C 5 true)
  else .next (s.tbSetIncr (v % 256 * 2 ^ 32 + s.tb.incrLo))

/-- TB_STEP_HI_WRITE: the staged low word and this high word form the signed step (R42), which is then cleared. -/
def execTbStepHiWrite (c : Core) (v : Nat) (s : State) : Host.Outcome State Fault Refusal :=
  if c ≠ .mgmt then .next (s.regFail c .shared 0x30000014 5 true)
  else
    let d := toSigned 64 (v % 2 ^ 32 * 2 ^ 32 + s.tb.stepLo)
    let s1 := { s with tb := { s.tb with stepLo := 0 } }
    .next (s1.tbStep d)

/-- TB_CTRL_EN: starts or stops the timebase; a stop in RENDER is ignored and sets CTRL_REJ (R525). -/
def execTbCtrlEn (c : Core) (v : Bool) (s : State) : Host.Outcome State Fault Refusal :=
  if c ≠ .mgmt then .next (s.regFail c .shared 0x30000000 5 true)
  else if v = false ∧ s.rendering then .next (s.setStat .shared tbStat 0x8)
  else .next { s with tb := { s.tb with en := v } }

/-- MCLK_EN on or off: off drives MCLK_OUT low, on restarts it at the next sample tick (R53). -/
def State.setMclk (s : State) (v : Bool) : State :=
  { s with tb := { s.tb with mclkEn := v, mclkRun := v && s.tb.mclkRun && s.tb.mclkEn } }

/-- MCLK_EN: a write of MC_CTRL.MCLK_EN (R53, R525). -/
def execMclkEn (c : Core) (v : Bool) (s : State) : Host.Outcome State Fault Refusal :=
  if c ≠ .mgmt then .next (s.regFail c .shared 0x30000044 5 true) else .next (s.setMclk v)

/-- The offset of a time from the nearest second boundary in units of 2^-32 ns (R47). -/
def secondOffset (t : Timebase) : Int :=
  let o := t.ns * nsUnit + t.frac
  if o * 2 < secUnit then (o : Int) else (o : Int) - secUnit

/-- PPS_IN_EDGE: the edge is stamped at the first tick after it; in leader role it is a reference event, a waiting time of
day takes effect, and the servo steers (R45, R47, R70, R525, R545). -/
def execPpsInEdge (incr : Option Nat) (stepNs : Option Int) (s : State) : Host.Outcome State Fault Refusal :=
  if ¬ s.tbRuns then .next s
  else
    let s1 := s.tbAdvance 1
    let t := s1.tb
    let s2 := { s1 with tb := { t with ppsInNs := t.ns, ppsInSec := t.sec % 2 ^ 32 } }.setStat .shared tbStat 0x4
    if s.feN 0x2010 1 0 = 1 then
      let off := secondOffset t
      let p0 := if s2.ptp.lock = .holdover then { s2.ptp with lock := .acquiring, goodRun := 0 } else s2.ptp
      let s3 := { s2 with ptp := { p0.refEvent (decide (off.natAbs ≤ 1000 * nsUnit)) with tod := none } }
      let s4 := match s.ptp.tod with
        | some (sec, ns) => s3.moveTime (((sec * 1000000000 + ns : Nat) : Int) * nsUnit - ((t.now / nsUnit * nsUnit : Nat) : Int))
        | none => s3
      .next (s4.servo incr stepNs)
    else .next s2

/-- PPS_IN_TIMEOUT: in leader role no edge for 3 s moves the lock state to HOLDOVER, but leaves FREERUN (R45, R47). -/
def execPpsInTimeout (s : State) : Host.Outcome State Fault Refusal :=
  if s.feN 0x2010 1 0 = 1 ∧ (s.ptp.lock = .acquiring ∨ s.ptp.lock = .locked) then
    .next { s with ptp := { s.ptp with lock := .holdover, goodRun := 0, badRun := 0 } }
  else .next s

/-- TOD_SET: the time of day that takes effect at the next PPS_IN edge in leader role; a nanoseconds field of a second
or more is out of range (R6, R70). -/
def execTodSet (sec ns : Nat) (s : State) : Host.Outcome State Fault Refusal :=
  if ns < 1000000000 ∧ sec < 2 ^ 48 then .next { s with ptp := { s.ptp with tod := some (sec, ns) } } else .next s

/-- The port on which PTP runs: the selected one, or the backup port (R46). -/
def State.ptpPort (s : State) : Nat := if s.ptp.onBackup then s.feN 0x2010 5 0 else s.feN 0x2010 4 0

/-- PTP_SYNC_RECEIVE: as follower, the servo takes the offset of a Sync interval (in units of 2^-16 ns), the lock state
moves on it, and the servo steers; in HOLDOVER no leader is followed until an Announce, and TB_INCR keeps its value. A
port that does not receive takes none (R45 to R47, R339). -/
def execPtpSyncReceive (offset : Int) (incr : Option Nat) (stepNs : Option Int) (s : State) :
    Host.Outcome State Fault Refusal :=
  if s.feN 0x2010 1 0 ≠ 0 ∨ ¬ s.tbRuns ∨ s.ptp.lock = .holdover ∨ ¬ s.rxOn s.ptpPort then .next s
  else
    let p := { s.ptp with offset := offset }.refEvent (decide (offset.natAbs ≤ 1000 * 2 ^ 16))
    .next ({ s with ptp := p }.servo incr stepNs)

/-- PTP_ANNOUNCE_RECEIVE: as follower, an Announce from a leader, on a port that receives, returns HOLDOVER to
ACQUIRING (R46, R47, R339). The clock
identity that it names is a free value (log entry 178). -/
def execPtpAnnounceReceive (s : State) : Host.Outcome State Fault Refusal :=
  if s.feN 0x2010 1 0 ≠ 0 ∨ ¬ s.rxOn s.ptpPort then .next s
  else
    let p := { s.ptp with leader := some (s.freeNat % 2 ^ 64) }
    let q := if p.lock = .holdover then { p with lock := .acquiring, goodRun := 0, badRun := 0 } else p
    .next ({ s.noteForms.drawn with ptp := q }).noteForms

/-- ANNOUNCE_TIMEOUT: the stack moves to the backup port where there is one; when the backup loses the leader too, it
moves back. The leader lost on all selected ports is HOLDOVER (R46, R47). -/
def execAnnounceTimeout (s : State) : Host.Outcome State Fault Refusal :=
  if s.feN 0x2010 1 0 ≠ 0 then .next s
  else if ¬ s.ptp.onBackup ∧ s.feN 0x2010 5 0 ≠ 255 then .next { s with ptp := { s.ptp with onBackup := true } }
  else
    let l := if s.ptp.lock = .freerun then Lock.freerun else Lock.holdover
    .next { s with ptp := { s.ptp with lock := l, onBackup := false, goodRun := 0, badRun := 0 } }

end Sys2Proof.Machine
end

