-- ==== Sys2Proof/Machine/Arbiter.lean ====
section
/-!
DEFINITION. The output arbiter (R55, R56, R162, R217 to R224, R527, R528): decisions, releases, holds and fades, and the
silence-group outputs.
-/
namespace Sys2Proof.Machine
open Sys2Proof

/-- ARB_STAT (R527). -/
def arbStat : Nat := 0x30030004

/-- The health in a claim (R13). -/
def claimHealth (c : Nat) : Nat := c / 16

/-- The arbiter changed by a function. -/
def State.onArb (s : State) (f : Arbiter → Arbiter) : State := { s with arb := f s.arb }

/-- An arbiter event is handed to Subsoil, with source 3 (R456, R457). -/
def State.arbLog (s : State) (index data1 level : Nat) : State := s.evqLog 2 0x0020 3 level index data1

/-- A hold begins at output index `x` (R220, R221). -/
def State.holdStart (s : State) (x : Nat) : State :=
  ((s.onArb (fun a => { a with holds := min 0xFFFFFFFF (a.holds + 1), lastEvent := x })).setStat .shared arbStat 0x200).arbLog x 2 1

/-- An outage is declared at its first fade sample (R221). -/
def State.outageStart (s : State) (x : Nat) : State :=
  let s1 := (s.onArb (fun a => { a with outages := min 0xFFFFFFFF (a.outages + 1), lastEvent := x })).setStat .shared arbStat 0x400
  (s1.arbLog x 3 2).notify 8 (dkey 0x9010 6 0) (x / 32) []

/-- A hold ends at output index `x`: an outage that it declared ends with it (R221). -/
def State.holdEnd (s : State) (x : Nat) (h : HoldSt) : State :=
  match h.outage with
  | none => s
  | some f =>
    (s.onArb (fun a => { a with outageSamples := min (2 ^ 64 - 1) (a.outageSamples + (x - f)) })).arbLog x 4 0

/-- The value at the `i`-th sample of a hold of `v`: the value for the limit, then 64 fade samples, then zeros (R220). -/
def heldAt (v : Int) (i limit : Nat) : Int :=
  if i < limit then v
  else if i - limit + 1 ≤ 64 then rneDiv (v * ((64 : Int) - ((i - limit + 1 : Nat) : Int))) 64
  else 0

/-- The seal held for an input block. -/
def heldSeal (q : List Seal) (m : Nat) : Option Seal := q.find? (fun k => k.block == m)

/-- A seal is eligible (R217): health 12 or more and no late check failure. -/
def eligible (q : List Seal) (late : List (Nat × Bool)) (m : Nat) : Bool :=
  match heldSeal q m with
  | some k => 12 ≤ claimHealth k.claim && !late.contains (m, false)
  | none => false

/-- HOLD_LIMIT in force for an output block (R528). -/
def Arbiter.takeHold (a : Arbiter) (n : Nat) : Arbiter :=
  match a.holdCommit with
  | some (v, b) => if b ≤ n then { a with holdLimit := v, holdCommit := none } else a
  | none => a

/-- At the first output block of a RENDER the current source is the unit that R214 names. -/
def Arbiter.takeSource (a : Arbiter) (n : Nat) : Arbiter := if 32 * n = a.startAt then { a with source := a.startSrc } else a

/-- The unit that R217 selects, with the current source and whether the block diverges (R223, R224). -/
def selectUnit (src : UnitId) (ea eb : Bool) (qa qb : Option Seal) : Option UnitId × Bool :=
  match ea, eb with
  | false, false => (none, false)
  | true, false => (some .a, false)
  | false, true => (some .b, false)
  | true, true =>
    match qa, qb with
    | some a, some b =>
      if a.crc ≠ b.crc then (some src, true)
      else if a.claim = b.claim then (some src, false)
      else (some (if b.claim < a.claim then .a else .b), false)
    | _, _ => (some src, false)

/-- A unit is to resynchronise with the next block (R213, R224, R227). -/
def State.needResync (s : State) (u : UnitId) : State := s.onUnit u (fun r => { r with hl := { r.hl with need := true } })

/-- After a block with health 6 a unit resynchronises, from the next block that it has not closed (log entry 154), if the
other's seal was eligible; otherwise UNRESOLVED is set (R213). -/
def State.afterFault (s : State) (u : UnitId) (m : Nat) (otherOk : Bool) : State :=
  let h := (s.unit u).hl
  if h.resync.phase ≠ 0 ∨ ¬ h.healths.contains (m, 6) then s
  else if otherOk then s.needResync u
  else s.setStat (.unit u) 0x20090008 0x100

/-- A change of source or a divergence (R218, R224). -/
def State.arbSwitch (s : State) (u : UnitId) (x : Nat) : State :=
  if s.arb.source = u then s
  else
    ((s.onArb (fun a => { a with
      source := u, switches := min 0xFFFFFFFF (a.switches + 1), lastEvent := x })).setStat .shared arbStat 0x100).arbLog x 1 0

/-- Unattributed divergence: the unit that is not the source resynchronises (R224). -/
def State.arbDiverge (s : State) (x : Nat) : State :=
  let s1 := (s.onArb (fun a => { a with
    divergences := min 0xFFFFFFFF (a.divergences + 1), lastEvent := x })).setStat .shared arbStat 0x800
  ((s1.arbLog x 5 1).needResync s.arb.source.other).setStat (.unit s.arb.source.other) 0x20090008 0x40

/-- The reload of a voted copy that disagreed in the block before (R222). -/
def State.reloadCopies (s : State) : State :=
  if s.arb.badCopies = 1 then
    (s.onArb (fun a => { a with voteCe := min 0xFFFFFFFF (a.voteCe + 1), badCopies := 0 })).setStat .shared arbStat 0x2000
  else s.onArb (fun a => { a with badCopies := 0 })

/-- Consecutive blocks in which an aborted resynchronisation's source was eligible and the heartbeat present (R232). -/
def State.countOk (s : State) (u : UnitId) (otherOk : Bool) : State :=
  s.onUnit u (fun r => { r with hl := { r.hl with resync := { r.hl.resync with
    okRun := if otherOk && !s.ua.hl.hbLost && !s.ub.hl.hbLost then r.hl.resync.okRun + 1 else 0 } } })

/-- A unit's copy of the staging memory for an input block. -/
def Arbiter.staged (a : Arbiter) (u : UnitId) (m : Nat) : Option OutBlock :=
  match u with
  | .a => a.stageA.find? (fun o => o.block == m)
  | .b => a.stageB.find? (fun o => o.block == m)

/-- The silence-group byte of a unit's staged block. -/
def Arbiter.silOf (a : Arbiter) (u : UnitId) (m : Nat) : Option Nat := (a.staged u m).map (·.sil)

/-- The decision on output block `n`, of input block `m` (R217 to R224). -/
def State.arbDecide (s : State) (n m copies : Nat) : State :=
  let a := (s.arb.takeHold n).takeSource n
  let vote := decide (copies < 2)
  let ea := eligible a.sealsA a.latesA m && vote
  let eb := eligible a.sealsB a.latesB m && vote
  let qa := heldSeal a.sealsA m
  let qb := heldSeal a.sealsB m
  let pick := selectUnit a.source ea eb qa qb
  let s1 := s.onArb (fun _ => { a with
    decided := n, eligA := ea, eligB := eb, claimA := (qa.map (·.claim)).getD 0, claimB := (qb.map (·.claim)).getD 0
    sealOfA := qa, sealOfB := qb, selected := pick.1, badCopies := copies })
  let x := 32 * n
  let s2 := match pick.1, a.hold with
    | none, none => (s1.holdStart x).onArb (fun b => { b with hold := some ⟨x, b.holdLimit, none⟩ })
    | none, some _ => s1
    | some _, none => s1
    | some _, some h => (s1.holdEnd x h).onArb (fun b => { b with hold := none })
  let s3 := match pick.1 with
    | some u =>
      let t := s2.arbSwitch u x
      t.onArb (fun b => { b with silQ := b.silQ ++ (match b.silOf u m with
        | some y => [(n, y)]
        | none => []) })
    | none => s2
  let s4 := if pick.2 then s3.arbDiverge x else s3
  ((((s4.afterFault .a m eb).afterFault .b m ea).countOk .a eb).countOk .b ea)

/-- ARBITER_DECISION: at tick B(n+L) + C, with the number of voted copies that disagree: one is overruled, and where no two
agree both units count as missing (R217, R222). -/
def execArbiterDecision (copies : Nat) (s : State) : Host.Outcome State Fault Refusal :=
  let n := s.arb.decided + 1
  if ¬ s.arb.run ∨ s.tb.sidx < 32 * n + s.relC then .next s
  else
    let s1 := s.reloadCopies
    if s.arb.zeroAt (32 * n) then .next (s1.onArb (fun a => { a with decided := n, selected := none }))
    else .next (s1.arbDecide n (n - s.arb.lat) copies)

/-! ### Releases (R206, R219 to R221) -/

/-- A staged word of a unit's copy for an input block. -/
def Arbiter.word (a : Arbiter) (u : UnitId) (m j e : Nat) : Int :=
  match a.staged u m with
  | some o => agetD o.words (1280 * j + e) 0
  | none => 0

/-- The other unit's copy is usable: its seal is eligible and carries the same CRC (R219). -/
def Arbiter.otherUsable (a : Arbiter) (u : UnitId) : Bool :=
  (match u with
    | .a => a.eligB
    | .b => a.eligA) && (a.sealOfA.map (·.crc)) == (a.sealOfB.map (·.crc))

/-- A staging word proves uncorrectable as it is about to be released (R219): the channel is re-pointed within the given
number of samples, or holds for the rest of the block. -/
def State.stagingBad (s : State) (u : UnitId) (x : Nat) (e : Nat × Nat) : State :=
  let a := s.arb
  if 1280 ≤ e.1 ∨ (aget? a.chHold e.1).isSome ∨ 0 < agetD a.repoint e.1 0 then s
  else
    let s1 := ((s.onArb (fun b => { b with stagingUe := min 0xFFFFFFFF (b.stagingUe + 1) })).setStat .shared arbStat 0x1000).holdStart x
    if a.otherUsable u && (aget? a.repoint e.1).isNone then
      s1.onArb (fun b => { b with repoint := aput b.repoint e.1 (max 1 (min s.relC e.2)) })
    else s1.onArb (fun b => { b with chHold := aput b.chHold e.1 ⟨x, b.holdLimit, none⟩ })

/-- The holds of single channels end at a block boundary, and their last released values are kept (R219). -/
def State.endChannels (s : State) (x : Nat) : State :=
  let hs := s.arb.chHold
  let s1 := hs.foldl (fun t e => t.holdEnd x e.2) s
  s1.onArb (fun a => { a with
    chHold := [], repoint := []
    lastVal := hs.foldl (fun m e => aputD m e.1 (heldAt (agetD m e.1 0) (x - 1 - e.2.start) e.2.limit) 0) a.lastVal })

/-- The value released on a channel at output index `x` (R206, R219, R220). -/
def Arbiter.value (a : Arbiter) (x e : Nat) : Int :=
  let v := agetD a.lastVal e 0
  let m := x / 32 - a.lat
  match a.selected, a.hold with
  | none, some h => heldAt v (x - h.start) h.limit
  | none, none => 0
  | some u, _ =>
    match aget? a.chHold e with
    | some h => heldAt v (x - h.start) h.limit
    | none =>
      match aget? a.repoint e with
      | some 0 => a.word u.other m (x % 32) e
      | some _ => v
      | none => a.word u m (x % 32) e

/-- The first fade samples of holds in progress declare outages (R221). -/
def State.fadeStarts (s : State) (x : Nat) : State :=
  let due := fun (h : HoldSt) => h.outage.isNone && decide (x = h.start + h.limit)
  let s1 := match s.arb.hold with
    | some h => if due h then (s.outageStart x).onArb (fun a => { a with hold := some { h with outage := some x } }) else s
    | none => s
  s1.arb.chHold.foldl (fun t e =>
    if due e.2 then (t.outageStart x).onArb (fun a => { a with chHold := aput a.chHold e.1 { e.2 with outage := some x } })
    else t) s1

/-- The words of one output index enter the release ring. -/
def putReleased (m : Assoc Int) (x : Nat) (v : Nat → Int) : Assoc Int :=
  (List.range 1280).foldl (fun r e => aputD r (1280 * (x % 512) + e) (v e) 0) m

/-- The last released values after output index `x`: those of channels that hold stay (R220). -/
def Arbiter.keepLast (a : Arbiter) (x : Nat) : Assoc Int :=
  if a.hold.isSome then a.lastVal
  else (List.range 1280).foldl (fun m e =>
    if (aget? a.chHold e).isSome then m else aputD m e (a.value x e) 0) a.lastVal

/-- One output index of a selected or held block is released. -/
def State.release (s : State) (x : Nat) (bad : List (Nat × Nat)) : State :=
  let s1 := if x % 32 = 0 then s.endChannels x else s
  let s2 := match s1.arb.selected with
    | some u => bad.foldl (fun (t : State) e => t.stagingBad u x e) s1
    | none => s1
  (s2.fadeStarts x).onArb (fun a => { a with
    released := putReleased a.released x (a.value x)
    lastVal := a.keepLast x
    repoint := a.repoint.map (fun e => (e.1, e.2 - 1))
    nextOut := x + 1 })

/-- The arbiter stops at output index `x`: an outage still running ends there (R221, R446). -/
def State.arbEnd (s : State) (x : Nat) : State :=
  let s1 := s.endChannels x
  let s2 := match s1.arb.hold with
    | some h => s1.holdEnd x h
    | none => s1
  s2.onArb (fun a => { a with hold := none, lastVal := [], selected := none })

/-- One output index of exact zeros (R58, R446). -/
def State.releaseZero (s : State) (x : Nat) : State :=
  let s1 := if s.arb.endAt = some x then s.arbEnd x else s
  let last := match s1.arb.endAt with
    | some e => decide (s1.arb.startAt ≤ e)
    | none => false
  s1.onArb (fun a => { a with
    released := putReleased a.released x (fun _ => 0)
    run := a.run && !last
    nextOut := x + 1
    endAt := if x + 1 = a.startAt then none else a.endAt })

/-- SAMPLE_RELEASE: the next output index of a decided block is released, with the channels whose staging word proves
uncorrectable and the samples their re-point takes (R55, R219). -/
def execSampleRelease (bad : List (Nat × Nat)) (s : State) : Host.Outcome State Fault Refusal :=
  let x := s.arb.nextOut
  if ¬ s.arb.run ∨ s.arb.decided < x / 32 then .next s
  else if s.arb.zeroAt x then .next (s.releaseZero x)
  else .next (s.release x bad)

/-- SILENCE_GPIO_UPDATE: at tick B(n+L+1) + C the silence-group outputs take the states of block n, under the settings in force at that
block (R60, R162). -/
def execSilenceGpioUpdate (s : State) : Host.Outcome State Fault Refusal :=
  match s.arb.silQ with
  | [] => .next s
  | q :: l =>
    if s.tb.sidx < 32 * (q.1 + 1) + s.relC then .next s
    else
      let x := 32 * (q.1 - s.arb.lat)
      .next ((s.onArb (fun a => { a with silQ := l, silLast := q.2, silIdx := x })).driveSil x q.2 (List.range 24))

/-- The counters of ARB_CLEAR (R238, R527). -/
def State.arbClear (s : State) : State :=
  s.onArb (fun a => { a with
    switches := 0, holds := 0, outages := 0, outageSamples := 0, divergences := 0, stagingUe := 0, voteCe := 0 })

/-- ARB_HOLD_AT_HI_WRITE: the management core commits the staged HOLD_LIMIT from an output block on; one that has been
decided already takes it at the next block, and the firmware logs it (R527, R528). -/
def execArbHoldAtHiWrite (c : Core) (v : Nat) (s : State) : Host.Outcome State Fault Refusal :=
  if c ≠ .mgmt then .next (s.regFail c .shared 0x30030014 5 true)
  else
    let s1 := s.setReg .shared 0x30030014 (v % 2 ^ 27)
    let n := s.reg .shared 0x30030010 + 2 ^ 32 * (v % 2 ^ 27)
    let h := s.reg .shared 0x3003000C
    if 1 ≤ h ∧ h ≤ 64 then .next (s1.onArb (fun a => { a with holdCommit := some (h, n) }))
    else .next s1

end Sys2Proof.Machine
end

