-- ==== Sys2Proof/Machine/Crypto.lean ====
section
/-!
DEFINITION. The checks over bytes that the spec names: CRC-16 (R455), CRC-32 (R305), CRC-64 (R215), SHA-256 and
HMAC-SHA-256 (R352), and ECDSA verification on P-256 (R435, R424).
-/
namespace Sys2Proof.Machine

/-! ### Cyclic redundancy checks -/

/-- One bit of a most-significant-bit-first CRC of width `w`. -/
def crcBitMsb (w poly : Nat) (c : Nat) (b : Bool) : Nat :=
  let top := natBit c (w - 1)
  let c2 := c * 2 % 2 ^ w
  if top != b then c2 ^^^ poly else c2

/-- One byte of a most-significant-bit-first CRC. -/
def crcByteMsb (w poly : Nat) (c : Nat) (b : Byte) : Nat :=
  [7, 6, 5, 4, 3, 2, 1, 0].foldl (fun a i => crcBitMsb w poly a (natBit b.toNat i)) c

/-- CRC-16 of R455: polynomial 0x1021, initial value 0xFFFF, no reflection, no final XOR. -/
def crc16 (bs : List Byte) : Nat := bs.foldl (crcByteMsb 16 0x1021) 0xFFFF

/-- CRC-64 of R215: ECMA-182 polynomial, initial value 0, no reflection, no final XOR. -/
def crc64 (bs : List Byte) : Nat := bs.foldl (crcByteMsb 64 0x42F0E1EBA9EA3693) 0

/-- One bit of the reflected CRC-32. -/
def crc32Bit (c : Nat) : Nat := if c % 2 = 1 then (c / 2) ^^^ 0xEDB88320 else c / 2

/-- One byte of the reflected CRC-32. -/
def crc32Byte (c : Nat) (b : Byte) : Nat :=
  [0, 0, 0, 0, 0, 0, 0, 0].foldl (fun a _ => crc32Bit a) (c ^^^ b.toNat)

/-- CRC-32 of R305: polynomial 0x04C11DB7 reflected, initial value and final XOR 0xFFFFFFFF. -/
def crc32 (bs : List Byte) : Nat := bs.foldl crc32Byte 0xFFFFFFFF ^^^ 0xFFFFFFFF

/-! ### SHA-256 -/

/-- The greatest number whose `k`-th power is at most `m`, found from its bit `n - 1` down. -/
def kthRoot (k m : Nat) : Nat → Nat → Nat
  | 0, acc => acc
  | n + 1, acc => kthRoot k m n (if (acc + 2 ^ n) ^ k ≤ m then acc + 2 ^ n else acc)

/-- The first 32 bits of the fraction of the `k`-th root of `p`: FIPS 180-4 defines its constants so. -/
def rootFraction (k p : Nat) : Nat := kthRoot k (p * 2 ^ (32 * k)) 37 0 % 2 ^ 32

/-- The prime numbers below 312: the first 64. -/
def shaPrimes : List Nat :=
  (List.range 312).filter (fun n => 2 ≤ n && (List.range 18).all (fun d => d < 2 || n ≤ d || n % d != 0))

/-- The round constants: from the cube roots of the first 64 primes. -/
def shaRoundConstants : List Nat := shaPrimes.map (rootFraction 3)

/-- Rotation of a 32-bit number to the right. -/
def rotr32 (x n : Nat) : Nat := (x >>> n ||| x <<< (32 - n)) % 2 ^ 32

/-- The working variables of one compression. -/
structure ShaVars where
  a : Nat
  b : Nat
  c : Nat
  d : Nat
  e : Nat
  f : Nat
  g : Nat
  h : Nat
deriving DecidableEq, Repr

/-- One round of SHA-256 with its constant and its schedule word. -/
def shaRound (v : ShaVars) (k w : Nat) : ShaVars :=
  let s1 := rotr32 v.e 6 ^^^ rotr32 v.e 11 ^^^ rotr32 v.e 25
  let ch := (v.e &&& v.f) ^^^ ((0xFFFFFFFF ^^^ v.e) &&& v.g)
  let t1 := v.h + s1 + ch + k + w
  let s0 := rotr32 v.a 2 ^^^ rotr32 v.a 13 ^^^ rotr32 v.a 22
  let mj := (v.a &&& v.b) ^^^ (v.a &&& v.c) ^^^ (v.b &&& v.c)
  ⟨(t1 + s0 + mj) % 2 ^ 32, v.a, v.b, v.c, (v.d + t1) % 2 ^ 32, v.e, v.f, v.g⟩

/-- The rounds of one compression: the window holds the 16 schedule words from the present one on. -/
def shaRounds : List Nat → List Nat → ShaVars → ShaVars
  | [], _, v => v
  | k :: ks, win, v =>
    let w := win.headD 0
    let w1 := win.getD 1 0
    let w14 := win.getD 14 0
    let g0 := rotr32 w1 7 ^^^ rotr32 w1 18 ^^^ (w1 >>> 3)
    let g1 := rotr32 w14 17 ^^^ rotr32 w14 19 ^^^ (w14 >>> 10)
    let nw := (w + g0 + win.getD 9 0 + g1) % 2 ^ 32
    shaRounds ks (win.drop 1 ++ [nw]) (shaRound v k w)

/-- The hash before the first block: from the square roots of the first eight primes. -/
def shaStart : ShaVars :=
  let r := rootFraction 2
  ⟨r 2, r 3, r 5, r 7, r 11, r 13, r 17, r 19⟩

/-- The 32-bit words of a list of bytes, `n` of them. -/
def beWords : Nat → List Byte → List Nat
  | 0, _ => []
  | n + 1, bs => beNat (bs.take 4) :: beWords n (bs.drop 4)

/-- One compression of SHA-256 over a block of 64 bytes. -/
def shaBlock (h : ShaVars) (blk : List Byte) : ShaVars :=
  let v := shaRounds shaRoundConstants (beWords 16 blk) h
  ⟨(h.a + v.a) % 2 ^ 32, (h.b + v.b) % 2 ^ 32, (h.c + v.c) % 2 ^ 32, (h.d + v.d) % 2 ^ 32,
   (h.e + v.e) % 2 ^ 32, (h.f + v.f) % 2 ^ 32, (h.g + v.g) % 2 ^ 32, (h.h + v.h) % 2 ^ 32⟩

/-- `n` blocks of 64 bytes. -/
def shaBlocks : Nat → ShaVars → List Byte → ShaVars
  | 0, h, _ => h
  | n + 1, h, bs => shaBlocks n (shaBlock h (bs.take 64)) (bs.drop 64)

/-- The SHA-256 digest of bytes, as 32 bytes. -/
def sha256 (bs : List Byte) : List Byte :=
  let len := bs.length
  let zeros := (119 - len % 64) % 64
  let padded := bs ++ [0x80] ++ List.replicate zeros 0 ++ beBytes 8 (len * 8)
  let h := shaBlocks (padded.length / 64) shaStart padded
  beBytes 4 h.a ++ beBytes 4 h.b ++ beBytes 4 h.c ++ beBytes 4 h.d ++ beBytes 4 h.e ++ beBytes 4 h.f ++
    beBytes 4 h.g ++ beBytes 4 h.h

/-- HMAC-SHA-256 with a key of 32 bytes (FIPS 198-1). -/
def hmacSha256 (key msg : List Byte) : List Byte :=
  let k := key.take 64 ++ List.replicate (64 - key.length) 0
  sha256 (k.map (· ^^^ 0x5C) ++ sha256 (k.map (· ^^^ 0x36) ++ msg))

/-- The tag of a Dameel message: the first 16 bytes of its HMAC (R352). -/
def dameelTag (key msg : List Byte) : List Byte := (hmacSha256 key msg).take 16

/-! ### ECDSA on P-256 -/

/-- The prime of P-256. -/
def p256p : Nat := 0xffffffff00000001000000000000000000000000ffffffffffffffffffffffff
/-- The order of P-256. -/
def p256n : Nat := 0xffffffff00000000ffffffffffffffffbce6faada7179e84f3b9cac2fc632551
/-- The coefficient b of P-256. -/
def p256b : Nat := 0x5ac635d8aa3a93e7b3ebbd55769886bc651d06b0cc53b0f63bce3c3e27d2604b
/-- The base point of P-256, x. -/
def p256gx : Nat := 0x6b17d1f2e12c4247f8bce6e563a440f277037d812deb33a0f4a13945d898c296
/-- The base point of P-256, y. -/
def p256gy : Nat := 0x4fe342e2fe1a7f9b8ee7eb4a7c0f9e162bce33576b315ececbb6406837bf51f5

/-- A power modulo `m`, by the bits of the exponent from the most significant of `k` bits. -/
def powMod (m b e : Nat) : Nat → Nat → Nat
  | 0, acc => acc
  | k + 1, acc =>
    let sq := acc * acc % m
    powMod m b e k (if natBit e k then sq * b % m else sq)

/-- The inverse modulo a prime below 2^256. -/
def invMod (m a : Nat) : Nat := powMod m (a % m) (m - 2) 256 1

/-- A point of the curve in Jacobian coordinates; z = 0 is the point at infinity. -/
structure JPoint where
  x : Nat
  y : Nat
  z : Nat
deriving DecidableEq, Repr

/-- Subtraction modulo the prime. -/
def subP (a b : Nat) : Nat := (a + p256p - b % p256p) % p256p

/-- Doubling of a point (coefficient a = -3). -/
def jDouble (q : JPoint) : JPoint :=
  if q.z = 0 ∨ q.y = 0 then ⟨1, 1, 0⟩
  else
    let yy := q.y * q.y % p256p
    let zz := q.z * q.z % p256p
    let s := 4 * q.x * yy % p256p
    let m := 3 * (subP q.x zz * ((q.x + zz) % p256p)) % p256p
    let x3 := subP (m * m) (2 * s)
    ⟨x3, subP (m * subP s x3) (8 * yy * yy), 2 * q.y * q.z % p256p⟩

/-- Addition of two points. -/
def jAdd (q r : JPoint) : JPoint :=
  if q.z = 0 then r
  else if r.z = 0 then q
  else
    let z1 := q.z * q.z % p256p
    let z2 := r.z * r.z % p256p
    let u1 := q.x * z2 % p256p
    let u2 := r.x * z1 % p256p
    let s1 := q.y * z2 * r.z % p256p
    let s2 := r.y * z1 * q.z % p256p
    if u1 = u2 then (if s1 = s2 then jDouble q else ⟨1, 1, 0⟩)
    else
      let h := subP u2 u1
      let hh := h * h % p256p
      let hhh := h * hh % p256p
      let rr := subP s2 s1
      let v := u1 * hh % p256p
      let x3 := subP (rr * rr) (hhh + 2 * v)
      ⟨x3, subP (rr * subP v x3) (s1 * hhh), h * q.z * r.z % p256p⟩

/-- `k` bits of a scalar times a point, from the most significant bit. -/
def jMul (q : JPoint) (n : Nat) : Nat → JPoint → JPoint
  | 0, acc => acc
  | k + 1, acc =>
    let d := jDouble acc
    jMul q n k (if natBit n k then jAdd d q else d)

/-- The affine x of a point that is not at infinity. -/
def JPoint.affineX (q : JPoint) : Nat :=
  let zi := invMod p256p q.z
  q.x * (zi * zi % p256p) % p256p

/-- The affine y of a point that is not at infinity. -/
def JPoint.affineY (q : JPoint) : Nat :=
  let zi := invMod p256p q.z
  q.y * (zi * zi % p256p * zi % p256p) % p256p

/-- The public half of a private key: x then y. -/
def p256Public (d : Nat) : List Byte :=
  let q := jMul ⟨p256gx, p256gy, 1⟩ (d % p256n) 256 ⟨1, 1, 0⟩
  beBytes 32 q.affineX ++ beBytes 32 q.affineY

/-- Whether a point with these affine coordinates lies on the curve. -/
def onCurve (x y : Nat) : Bool :=
  x < p256p && y < p256p && (y * y) % p256p == (x * x * x + (p256p - 3) * x + p256b) % p256p

/-- ECDSA verification over a digest with the public key (x, y) and the signature (r, s). -/
def ecdsaVerifyDigest (x y r s e : Nat) : Bool :=
  if r = 0 ∨ p256n ≤ r ∨ s = 0 ∨ p256n ≤ s ∨ ¬ onCurve x y then false
  else
    let w := invMod p256n s
    let q := jAdd (jMul ⟨p256gx, p256gy, 1⟩ (e * w % p256n) 256 ⟨1, 1, 0⟩) (jMul ⟨x, y, 1⟩ (r * w % p256n) 256 ⟨1, 1, 0⟩)
    if q.z = 0 then false else q.affineX % p256n == r

/-- ECDSA verification (P-256, SHA-256) of a message: key x then y, signature r then s, 64 bytes each. -/
def ecdsaVerify (key sig msg : List Byte) : Bool :=
  ecdsaVerifyDigest (beNat (key.take 32)) (beNat ((key.drop 32).take 32)) (beNat (sig.take 32))
    (beNat ((sig.drop 32).take 32)) (beNat (sha256 msg))

/-- The signature of a digest with a private key and a nonce: r then s, 64 bytes. -/
def ecdsaSign (d k : Nat) (msg : List Byte) : List Byte :=
  let r := (jMul ⟨p256gx, p256gy, 1⟩ (k % p256n) 256 ⟨1, 1, 0⟩).affineX % p256n
  let s := invMod p256n k * ((beNat (sha256 msg) + r * d) % p256n) % p256n
  beBytes 32 r ++ beBytes 32 s

end Sys2Proof.Machine
end

