-- ==== Sys2Proof/Machine/Exact.lean ====
section
/-!
DEFINITION. Exact arithmetic of the render path (R88, R143, R154, R171, R179): roots of rationals rounded once half to
even, and powers, logarithms, sines and cosines evaluated to 256 fractional bits before their one rounding (log entry
10).
-/
namespace Sys2Proof.Machine
open Sys2Proof

/-- Bit by bit square root. -/
def isqrtGo (n : Nat) : Nat → Nat → Nat
  | 0, r => r
  | i + 1, r => isqrtGo n i (if (r + 2 ^ i) * (r + 2 ^ i) ≤ n then r + 2 ^ i else r)

/-- The integer part of the square root. -/
def isqrt (n : Nat) : Nat := isqrtGo n (n.log2 / 2 + 1) 0

/-- An integer `f` plus a fraction below, at or above one half, rounded half to even. -/
def roundHalf (f : Int) (c : Ordering) : Int :=
  match c with
  | .lt => f
  | .gt => f + 1
  | .eq => if f % 2 = 0 then f else f + 1

/-- `n + √(a / b)` rounded half to even. -/
def rneAddSqrt (n : Int) (a b : Nat) : Int :=
  let f := isqrt (a / b)
  roundHalf (n + f) (compare (4 * a) ((2 * f + 1) * (2 * f + 1) * b))

/-- `√(a / b)` rounded half to even. -/
def rneSqrt (a b : Nat) : Int := rneAddSqrt 0 a b

/-- The fourth root of `a / b` rounded half to even. -/
def rneRoot4 (a b : Nat) : Int :=
  let f := isqrt (isqrt (a / b))
  roundHalf f (compare (16 * a) ((2 * f + 1) ^ 4 * b))

/-- `x / √(a / b) * 2 ^ k` rounded half to even, for `a / b > 0`. -/
def rneOverSqrt (k : Nat) (x : Int) (a b : Nat) : Int :=
  let r := rneSqrt (x.natAbs * x.natAbs * 2 ^ (2 * k) * b) a
  if x < 0 then -r else r

/-- A rational rounded half to even. -/
def rneQ (q : Rat) : Int := rneDiv q.num q.den

/-- The square root of a non-negative rational, with the sign of `s`, rounded half to even. -/
def rneSqrtQ (neg : Bool) (q : Rat) : Int :=
  let r := rneSqrt q.num.toNat q.den
  if neg then -r else r

/-! ### Powers, logarithms and angles, as integers in units of 2^-256 -/

/-- Fractional bits of the working precision. -/
def fxBits : Nat := 256

/-- ln 2. -/
def fxLn2 : Nat := 80260960185991308862233904206310070533990667611589946606122867505419956976172
/-- ln 10. -/
def fxLn10 : Nat := 266621138564480548222253459415182587429914225440519472036001743423645469947338
/-- π. -/
def fxPi : Nat := 363771576891766324280234942777729862653393377328392429958772151117938894466185

/-- Product of two working-precision values. -/
def fxMul (a b : Int) : Int := a * b / 2 ^ fxBits

/-- Terms of the exponential series from term `t`, the `i`-th. -/
def expSeries (x : Int) : Nat → Nat → Int → Int
  | 0, _, t => t
  | n + 1, i, t => t + expSeries x n (i + 1) (fxMul t x / ((i : Int) + 1))

/-- e to the power of a working-precision value. -/
def fxExp (x : Int) : Int :=
  let k := x / (fxLn2 : Int)
  let s := expSeries (x - k * fxLn2) 70 0 (2 ^ fxBits)
  if 0 ≤ k then s * 2 ^ k.toNat else s / 2 ^ (-k).toNat

/-- Terms of 2 (y + y^3/3 + y^5/5 + ...). -/
def lnSeries (y2 : Int) : Nat → Nat → Int → Int
  | 0, _, _ => 0
  | n + 1, i, t => 2 * t / (2 * (i : Int) + 1) + lnSeries y2 n (i + 1) (fxMul t y2)

/-- The natural logarithm of a positive rational. -/
def fxLn (a b : Nat) : Int :=
  let m := a * 2 ^ (2 * fxBits) / b
  let e := m.log2
  let w : Int := if fxBits ≤ e then ((m / 2 ^ (e - fxBits) : Nat) : Int) else (m : Int) * 2 ^ (fxBits - e)
  let one : Int := 2 ^ fxBits
  let y := (w - one) * one / (w + one)
  lnSeries (fxMul y y) 90 0 y + ((e : Int) - 2 * fxBits) * fxLn2

/-- Terms of a sine or cosine series: `t` the present term with exponent `i`. -/
def trigSeries (x2 : Int) : Nat → Nat → Int → Int
  | 0, _, t => t
  | n + 1, i, t => t + trigSeries x2 n (i + 2) (-(fxMul t x2) / (((i : Int) + 1) * ((i : Int) + 2)))

/-- The sine of a working-precision angle between -2π and 2π. -/
def fxSin (x : Int) : Int := trigSeries (fxMul x x) 60 1 x

/-- The cosine of a working-precision angle between -2π and 2π. -/
def fxCos (x : Int) : Int := trigSeries (fxMul x x) 60 0 (2 ^ fxBits)

/-- A working-precision value in units of 2^-k, rounded half to even. -/
def fxRound (k : Nat) (x : Int) : Int := rneShift (fxBits - k) x

/-- `2^k * 10^(g/20)` rounded half to even, with `g` a DB16 value in units of 1/256 dB. -/
def dbUnits (k : Nat) (g : Int) : Int := fxRound k (fxExp (g * fxLn10 / 5120))

/-- The linear factor LIN32 of a DB16 value, in units of 2^-27 (R143). -/
def lin32 (g : Int) : Int := if g = -32768 then 0 else if g = 0 then 2 ^ 27 else dbUnits 27 g

/-- A threshold of the limiter or of a silence detector: 2^24 * 10^(t/20) (R154, R155, R161). -/
def thr24 (g : Int) : Int := dbUnits 24 g

/-- The gain reduction entry GR of a limiter gain (R156). -/
def grDb (g : Nat) : Int :=
  if g = 0 then -32768 else satS 16 (rneShift fxBits (5120 * fxLn g (2 ^ 23) * 2 ^ fxBits / fxLn10))

/-- The equal-gain and equal-power weights of R171 for `k` samples of `n`: old, then new, in units of 2^-23. -/
def xfWeights (power : Bool) (k n : Nat) : Int × Int :=
  let j := min k n
  if power then
    let x : Int := (fxPi * j : Nat) / (2 * n : Nat)
    (fxRound 23 (fxCos x), fxRound 23 (fxSin x))
  else
    let w := rneDiv ((2 ^ 23 * j : Nat) : Int) n
    (2 ^ 23 - w, w)

/-- The twiddle factor TW[k], real and imaginary part in units of 2^-30 (R179). -/
def twiddle (k : Nat) : Int × Int :=
  let x : Int := (fxPi * k : Nat) / 2048
  (fxRound 30 (fxCos x), rneShift (fxBits - 30) (-(fxSin x)))

end Sys2Proof.Machine
end

