-- ==== Sys2Proof/Machine/Fir.lean ====
section
/-!
DEFINITION. Room correction arithmetic (R177 to R185, R191, R199): filters and their partitions, the transforms, block
floating point, the contributions of the levels, and the filter output, as functions of the taps and of the FIR input.
-/
namespace Sys2Proof.Machine
open Sys2Proof

/-- A complex integer. -/
structure Cx where
  re : Int
  im : Int
deriving DecidableEq, Repr

/-- Sum. -/
def Cx.add (a b : Cx) : Cx := ⟨a.re + b.re, a.im + b.im⟩
/-- Difference. -/
def Cx.sub (a b : Cx) : Cx := ⟨a.re - b.re, a.im - b.im⟩

/-- Multiplication by TW[k], or unchanged for k = 0 (R179). -/
def cmul (d : Cx) (k : Nat) : Cx :=
  if k = 0 then d
  else
    let w := twiddle k
    ⟨rneShift 30 (d.re * w.1 - d.im * w.2), rneShift 30 (d.re * w.2 + d.im * w.1)⟩

/-- Multiplication by the conjugate of TW[k] (R179). -/
def cmulc (d : Cx) (k : Nat) : Cx :=
  if k = 0 then d
  else
    let w := twiddle k
    ⟨rneShift 30 (d.re * w.1 + d.im * w.2), rneShift 30 (d.im * w.1 - d.re * w.2)⟩

/-- Two lists taken turn by turn. -/
def interleave : List Cx → List Cx → List Cx
  | [], b => b
  | x :: a, [] => x :: a
  | x :: a, y :: b => x :: y :: interleave a b

/-- Elements at even and at odd places. -/
def deinterleave : List Cx → List Cx × List Cx
  | [] => ([], [])
  | [x] => ([x], [])
  | x :: y :: l => (x :: (deinterleave l).1, y :: (deinterleave l).2)

/-- A function of place and of two elements, along two lists. -/
def zipIdx (f : Nat → Cx → Cx → Cx) : Nat → List Cx → List Cx → List Cx
  | i, x :: a, y :: b => f i x y :: zipIdx f (i + 1) a b
  | _, _, _ => []

/-- The forward transform of size 2^k, natural order in and out (R180): a butterfly stage, then the halves, whose bins are
the even and the odd ones. -/
def fwd : Nat → List Cx → List Cx
  | 0, a => a
  | k + 1, a =>
    let h := 2 ^ k
    let t := a.take h
    let b := a.drop h
    interleave (fwd k (zipIdx (fun _ x y => x.add y) 0 t b))
      (fwd k (zipIdx (fun i x y => cmul (x.sub y) (i * 4096 / 2 ^ (k + 1))) 0 t b))

/-- The inverse transform of size 2^k, natural order in and out, unscaled (R181). -/
def inv : Nat → List Cx → List Cx
  | 0, a => a
  | k + 1, a =>
    let p := deinterleave a
    let e := inv k p.1
    let o := zipIdx (fun i x _ => cmulc x (i * 4096 / 2 ^ (k + 1))) 0 (inv k p.2) p.2
    zipIdx (fun _ x y => x.add y) 0 e o ++ zipIdx (fun _ x y => x.sub y) 0 e o

/-- The kept slots of a spectrum of F bins: slot 0 holds the real parts of bins 0 and F/2 (R183). -/
def keptSlots (v : List Cx) (f : Nat) : List Cx :=
  ⟨(v.getD 0 ⟨0, 0⟩).re, (v.getD (f / 2) ⟨0, 0⟩).re⟩ :: (v.take (f / 2)).drop 1

/-- Every component fits `b` bits once divided by 2^e. -/
def bfpFits (b e : Nat) (v : List Cx) : Bool :=
  v.all (fun c => decide (satS b (rneShift e c.re) = rneShift e c.re) && decide (satS b (rneShift e c.im) = rneShift e c.im))

/-- The smallest exponent from `e` on that fits. -/
def bfpExp (b : Nat) (v : List Cx) : Nat → Nat → Nat
  | 0, e => e
  | n + 1, e => if bfpFits b e v then e else bfpExp b v n (e + 1)

/-- A spectrum as stored in block floating point with a `b`-bit mantissa (R183); with `bad` its exponent is an uncorrectable
word, taken as zero (R200). -/
def bfpStore (b : Nat) (bad : Bool) (v : List Cx) : List Cx :=
  let e := bfpExp b v 64 0
  let w := if bad then 0 else e
  v.map (fun c => ⟨rneShift e c.re * 2 ^ w, rneShift e c.im * 2 ^ w⟩)

/-! ### Filters (R177, R178, R191, R199) -/

/-- The unit impulse. -/
def unitImpulse : List Int := [2 ^ 30]

/-- The filter records of a set image from a byte on: feed, taps; `n` records. -/
def setRecords : Nat → List Byte → List (Nat × List Byte)
  | 0, _ => []
  | n + 1, b =>
    let taps := beNat ((b.drop 2).take 2)
    (beNat (b.take 2), (b.drop 8).take (4 * taps)) :: setRecords n (b.drop (8 + 4 * taps))

/-- Signed 32-bit values, most significant byte first. -/
def words32 : List Byte → List Int
  | a :: b :: c :: d :: l => toSigned 32 (beNat [a, b, c, d]) :: words32 l
  | _ => []

/-- COUNT of a set image. -/
def setCount (img : List Byte) : Nat := beNat ((img.drop 8).take 2)

/-- RATE of a set image. -/
def setRate (img : List Byte) : Nat := beNat ((img.drop 4).take 4)

/-- The taps of a feed under a slot's image; the unit impulse without a record (R191). -/
def setTaps (img : List Byte) (f : Nat) : List Int :=
  match (setRecords (setCount img) (img.drop 16)).find? (fun r => r.1 == f) with
  | some r => words32 r.2
  | none => unitImpulse

/-- A level of the partitioned convolution: partition size, its logarithm, first partition, and spectrum width. -/
structure FirLevel where
  p : Nat
  lg : Nat
  first : Nat
  bits : Nat
deriving DecidableEq, Repr

/-- Levels 1 to 3 (R178, R183). -/
def firLevel (l : Nat) : FirLevel :=
  match l with
  | 1 => ⟨32, 5, 1, 32⟩
  | 2 => ⟨256, 8, 2, 32⟩
  | _ => ⟨2048, 11, 2, 24⟩

/-- The last partition of a level: level 1 ends where level 2 begins, and so on. -/
def lastPart (l : Nat) : Nat := if l = 3 then 7 else 15

/-- The partitions of a level that a filter of N taps has (R178). -/
def presentParts (l n : Nat) : List Nat :=
  let v := firLevel l
  ((List.range (lastPart l + 1)).drop v.first).filter (fun j => decide (v.p * j < n))

/-- The change cost of a filter of N taps (R199). -/
def changeCost (n : Nat) : Nat :=
  let c := fun l => (presentParts l n).length
  4 + 6 * (c 1 + c 2 + c 3) + (if 0 < c 2 then 8 else 0) + (if 0 < c 3 then 8 else 0)

/-! ### Contributions and output (R184, R185) -/

/-- A component that an uncorrectable word zeroes. -/
def zeroed (z : CxWord → Bool) (w : Bool → CxWord) (c : Cx) : Cx :=
  ⟨if z (w false) then 0 else c.re, if z (w true) then 0 else c.im⟩

/-- Slots with their uncorrectable components zeroed. -/
def zeroSlots (z : CxWord → Bool) (w : Nat → Bool → CxWord) : Nat → List Cx → List Cx
  | _, [] => []
  | k, c :: l => zeroed z (w k) c :: zeroSlots z w (k + 1) l

/-- The coefficient spectrum of partition j of a level of filter `c`. -/
def coefSpec (z : CxWord → Bool) (c : CxCopy) (taps : List Int) (l j : Nat) : List Cx :=
  let v := firLevel l
  let g := (List.range (2 * v.p)).map (fun r => (⟨if r < v.p then taps.getD (v.p * j + r) 0 else 0, 0⟩ : Cx))
  zeroSlots z (fun k im => .coef c l j k im) 0 (bfpStore 24 (z (.coefExp c l j)) (keptSlots (fwd (v.lg + 1) g) (2 * v.p)))

/-- The input spectrum of segment m of a level, from the FIR input, but for the words `h` that its formation took as zero
(R184, R200). -/
def inputSpec (z : CxWord → Bool) (h : List (Nat × Nat × Nat)) (x : Int → Int) (l : Nat) (m : Int) : List Cx :=
  let v := firLevel l
  let w := (List.range (2 * v.p)).map (fun (i : Nat) =>
    let s := (v.p : Int) * (m - 1) + i
    (⟨if h.contains (l, m.toNat, s.toNat) then 0 else x s, 0⟩ : Cx))
  zeroSlots z (fun k im => .spec l m.toNat k im) 0 (bfpStore v.bits (z (.specExp l m.toNat)) (keptSlots (fwd (v.lg + 1) w) (2 * v.p)))

/-- The product of two slots: slot 0 holds two reals. -/
def slotMul (k : Nat) (a b : Cx) : Cx :=
  if k = 0 then ⟨a.re * b.re, a.im * b.im⟩ else ⟨a.re * b.re - a.im * b.im, a.re * b.im + a.im * b.re⟩

/-- A saturated component. -/
def sat48 (c : Cx) : Cx := ⟨satS 48 c.re, satS 48 c.im⟩

/-- The whole spectrum from its kept slots, by conjugate symmetry (R184). -/
def fullSpec (kept : List Cx) : List Cx :=
  match kept with
  | [] => []
  | c :: l => ⟨c.re, 0⟩ :: (l ++ (⟨c.im, 0⟩ :: (l.map (fun d => (⟨d.re, -d.im⟩ : Cx))).reverse))

/-- A level's contribution of filter `c` to its output segment `M`, P values in units of 2^-26, and how many values saturated
(R184). -/
def contribution (z : CxWord → Bool) (c : CxCopy) (h : List (Nat × Nat × Nat)) (taps : List Int) (x : Int → Int) (l : Nat)
    (seg : Nat) : List Int × Nat :=
  let v := firLevel l
  let parts := presentParts l taps.length
  if parts.isEmpty then ([], 0)
  else
    let prods := parts.map (fun (j : Nat) =>
      zipIdx slotMul 0 (inputSpec z h x l ((seg : Int) - (j : Nat))) (coefSpec z c taps l j))
    let acc := prods.foldl (fun a b => zipIdx (fun _ p q => p.add q) 0 a b) (List.replicate v.p ⟨0, 0⟩)
    let zz := acc.map (fun c => (⟨rneShift (29 + v.lg) c.re, rneShift (29 + v.lg) c.im⟩ : Cx))
    let zs := zz.map sat48
    let c := (inv (v.lg + 1) (fullSpec zs)).drop v.p |>.map (·.re)
    let cnt := ((zz.filter (fun d => (sat48 d).re ≠ d.re)).length + (zz.filter (fun d => (sat48 d).im ≠ d.im)).length)
    (c.map (satS 32), cnt + (c.filter (fun d => satS 32 d ≠ d)).length)

/-- Blocks in a segment of a level. -/
def segBlocks (l : Nat) : Nat := (firLevel l).p / 32

/-- A stored word that the contributions of level 2 or 3 read, by its level; 0 for any other (R187, R200). -/
def cxFar (w : CxWord) : Nat :=
  match w with
  | .coef _ l _ _ _ => if 2 ≤ l then l else 0
  | .coefExp _ l _ => if 2 ≤ l then l else 0
  | .spec l _ _ _ => if 2 ≤ l then l else 0
  | .specExp l _ => if 2 ≤ l then l else 0
  | _ => 0

/-- A filter's words once a change has begun: those of the filter in force are the former one's, those of the one to come are
of the filter in force (R197). -/
def cxTurn (c : CxCopy) : CxCopy :=
  match c with
  | .next => .now
  | _ => .former

/-- A stored word by its name after a change has begun. -/
def cxWordTurn (w : CxWord) : CxWord :=
  match w with
  | .coef c l j k im => .coef (cxTurn c) l j k im
  | .coefExp c l j => .coefExp (cxTurn c) l j
  | .tap c t => .tap (cxTurn c) t
  | .staged c l s => .staged (cxTurn c) l s
  | _ => w

/-- The input words found uncorrectable in block `n` that the spectra completed in it take as zero, beside those of spectra
still in use (R184, R187, R200). -/
def holesAfter (h : List (Nat × Nat × Nat)) (ws : List CxWord) (n : Nat) : List (Nat × Nat × Nat) :=
  let new := ws.flatMap (fun w => match w with
    | .input lv s => (if lv = 0 then [1] else if lv = 2 ∨ lv = 3 then [lv] else []).filterMap (fun l =>
        let m := n / segBlocks l
        let p := (firLevel l).p
        if (n + 1) % segBlocks l = 0 ∧ p * m ≤ s + p ∧ s < p * (m + 1) then some (l, m, s) else none)
    | _ => [])
  h.filter (fun e => decide (n / segBlocks e.1 ≤ e.2.1 + lastPart e.1)) ++ new

/-- The contributions to the segments of block `b` of a filter that comes into force there, where block `n` is the last before
one of them, and how many values saturated: the lead of a change lets them be computed in the segment before (R187, R196). -/
def Staged.ahead (q : Staged) (z : CxWord → Bool) (h : List (Nat × Nat × Nat)) (taps : List Int) (x : Int → Int) (n b : Nat) :
    Staged × Nat :=
  let at_ := fun (l : Nat) (old : List Int) =>
    if (n + 1) % segBlocks l = 0 ∧ b / segBlocks l = (n + 1) / segBlocks l
    then contribution z .next h taps x l (b / segBlocks l) else (old, 0)
  let c := at_ 2 q.two
  let d := at_ 3 q.three
  ({ two := c.1, three := d.1 }, c.2 + d.2)

/-- The staged contributions after block `n`: where it ends a segment, those to the next, and how many values saturated
(R187). -/
def Staged.after (q : Staged) (z : CxWord → Bool) (c : CxCopy) (h : List (Nat × Nat × Nat)) (taps : List Int) (x : Int → Int)
    (n : Nat) : Staged × Nat :=
  let a := if (n + 1) % segBlocks 2 = 0 then contribution z c h taps x 2 ((n + 1) / segBlocks 2) else (q.two, 0)
  let b := if (n + 1) % segBlocks 3 = 0 then contribution z c h taps x 3 ((n + 1) / segBlocks 3) else (q.three, 0)
  ({ two := a.1, three := b.1 }, a.2 + b.2)

/-- The staged value of level 2 or 3 for sample `s`; an uncorrectable one is zero (R200). -/
def Staged.value (q : Staged) (z : CxWord → Bool) (c : CxCopy) (l s : Nat) : Int :=
  if z (.staged c l s) then 0 else (if l = 2 then q.two else q.three).getD (s % (firLevel l).p) 0

/-- The exact level-0 sum at sample `s`. -/
def level0 (z : CxWord → Bool) (c : CxCopy) (taps : List Int) (x : Int → Int) (s : Nat) : Int :=
  ((List.range (min taps.length 32)).map (fun t =>
    (if z (.tap c t) then 0 else taps.getD t 0) * x ((s : Int) - t))).sum

/-- The filter output over block `n`, unless the gate makes it zero, from the staged contributions of levels 2 and 3, and how
many values saturated (R185). -/
def firBlock (z : CxWord → Bool) (c : CxCopy) (h : List (Nat × Nat × Nat)) (taps : List Int) (x : Int → Int) (q : Staged) (n : Nat)
    (gated : Bool) : List Int × Nat :=
  if gated then (List.replicate 32 0, 0)
  else
    let x' := fun (s : Int) => if decide (0 ≤ s) && z (.input 0 s.toNat) then 0 else x s
    let c1 := contribution z c h taps x 1 n
    let ys := (List.range 32).map (fun j =>
      let s := 32 * n + j
      rneShift 30 (level0 z c taps x' s + 2 ^ 28 * (c1.1.getD j 0 + q.value z c 2 s + q.value z c 3 s)))
    (ys.map (satS 32), c1.2 + (ys.filter (fun y => satS 32 y ≠ y)).length)

end Sys2Proof.Machine
end

