-- ==== Sys2Proof/Machine/Fabric.lean ====
section
/-!
DEFINITION. The bus matrix's own operations, DMA control, the exposed FIFOs, the SRAM controller and the LP5 controller
(chapter 15, R466 to R501), without the accesses themselves.
-/
namespace Sys2Proof.Machine
open Sys2Proof

/-- The unit with its LP5 controller changed. -/
def RUnit.onLp (r : RUnit) (f : Lp5 → Lp5) : RUnit := r.onFab (fun b => { b with lp := f b.lp })

/-- The state with a unit's LP5 controller changed. -/
def State.onLp (s : State) (u : UnitId) (f : Lp5 → Lp5) : State := s.onUnit u (fun r => r.onLp f)

/-- An error response: recorded in the error FIFO, counted, shown in BM_STAT.ERR, and returned (R482, R496). -/
def State.busFail (s : State) (u : UnitId) (kind target master id addr : Nat) (wr : Bool) : State :=
  (s.busRecord u kind target master id addr wr).emit (.busError u master id kind)

/-- Whether the request writes. -/
def isWriteKind : BurstKind → Bool
  | .read => false
  | .loadReserved => false
  | _ => true

/-! ### Regulators and row activations (R486, R490) -/

/-- Regulator `r` lets a request to LP5 memory issue (R486). -/
def State.bucketOk (s : State) (u : UnitId) (r : Nat) : Bool :=
  let rate := s.reg (.unit u) (0x20060200 + 0x10 * r)
  rate == 0xFFFF || (rate != 0 && decide (0 ≤ agetD (s.unit u).fab.bucket r 4096))

/-- A request of `n` bytes that issues takes them from the bucket of regulator `r` (R486). -/
def State.bucketSpend (s : State) (u : UnitId) (r n : Nat) : State :=
  if s.reg (.unit u) (0x20060200 + 0x10 * r) = 0xFFFF then s
  else s.onFab u (fun f => { f with
    bucket := aputD f.bucket r (clampI (-(2 ^ 31)) (2 ^ 31 - 1) (agetD f.bucket r 4096 - (n : Int))) 4096 })

/-- A row activation in a channel advances its LFSR; at a zero of its low bits the neighbours of the row are refreshed (R490). -/
def State.rowAct (s : State) (u : UnitId) (c r : Nat) : State :=
  let ctrl := s.reg (.unit u) 0x20070000
  if natBit ctrl 2 = false then s
  else
    let x := agetD (s.unit u).fab.lp.lfsr c (max 1 (Config.lfsrSeed u.toNat c % 2 ^ 32))
    let y := (x / 2) ^^^ (if x % 2 = 1 then 0x80200003 else 0)
    let s1 := s.onLp u (fun l => { l with lfsr := aput l.lfsr c y })
    let n := (if 1 ≤ r then 1 else 0) + (if r < Config.lastRow then 1 else 0)
    if y % 2 ^ natBits ctrl 8 5 = 0 then s1.countHeld u 0x20070000 3 0x20070018 n else s1

/-- The row activations of successive granules from granule `g` on; consecutive granules lie in consecutive channels (R483, R490). -/
def State.rowsOpen (s : State) (u : UnitId) (g : Nat) : List (Option Nat) → State
  | [] => s
  | some r :: l => (s.rowAct u (g % 8) r).rowsOpen u (g + 1) l
  | none :: l => s.rowsOpen u (g + 1) l

/-! ### Reservations (R469) -/

/-- The 64-byte granules that a range touches. -/
def granules (a n : Nat) : List Nat := (List.range ((a + n - 1) / 64 - a / 64 + 1)).map (fun i => a / 64 + i)

/-- A write by a master clears the reservations of other masters on the granules it touches (R469). -/
def Fabric.clearResv (f : Fabric) (m a n : Nat) : Fabric :=
  { f with resv := f.resv.filter (fun e => e.1 == m || !(granules a n).contains e.2) }

/-! ### Master reset (R470) -/

/-- A DMA channel's status register. -/
def dmaStat (n : Nat) : Nat := 0x2008010C + 0x20 * n

/-- A DMA channel's live part. -/
def State.dmaCh (s : State) (u : UnitId) (n : Nat) : DmaChan := agetD (s.unit u).fab.dma n {}

/-- The state with a DMA channel's live part replaced. -/
def State.setDma (s : State) (u : UnitId) (n : Nat) (d : DmaChan) : State :=
  s.onFab u (fun f => { f with dma := aputD f.dma n d {} })

/-- A channel's chain stops and ABORTED shows it; nothing happens to an idle channel (R470). -/
def State.abortChain (s : State) (u : UnitId) (n : Nat) : State :=
  if (s.dmaCh u n).busy then
    (s.setDma u n { s.dmaCh u n with busy := false, desc := none, part := 0, buf := [] }).setStat (.unit u) (dmaStat n) 0x10
  else s

/-- The masters 1 to 11 that a BM_MRST word names. -/
def mrstMasters (mask : Nat) : List Nat := ((List.range 12).drop 1).filter (fun m => natBit mask m)

/-- The error responses that a unit's control core receives for outstanding peer-window requests that are retired. -/
def State.retirePeer (s : State) (u : UnitId) : List Outst → State
  | [] => s
  | o :: l =>
    (if o.req.master = 0 ∧ o.target = 6 then s.busFail u 4 6 0 o.req.id o.req.addr (isWriteKind o.req.kind) else s).retirePeer u l

/-- One master is reset: its outstanding requests and its reservation end, and it drains; the chains of a DMA controller
that is reset stop as by ABORT, and the retired peer-window requests of the other unit are answered with errors (R470). -/
def State.resetMaster (s : State) (u : UnitId) (m : Nat) : State :=
  let s1 := s.onFab u (fun f => { f with
      draining := setAdd f.draining m
      resv := adel f.resv m
      outstanding := f.outstanding.filter (fun o => o.req.master ≠ m) })
  if m = 9 then
    let o := (s1.unit u.other).fab.outstanding
    (s1.retirePeer u.other o).onFab u.other (fun f => { f with
      outstanding := f.outstanding.filter (fun q => ¬ (q.req.master = 0 ∧ q.target = 6)) })
  else if m = 8 then (List.range 16).foldl (fun (t : State) n => t.abortChain u n) s1
  else s1

/-- Several masters are reset. -/
def State.resetMasters (s : State) (u : UnitId) : List Nat → State
  | [] => s
  | m :: l => (s.resetMaster u m).resetMasters u l

/-- BM_MRST: the masters whose bits are 1 are reset; bit 0 is ignored (R470, R496). -/
def execBmMrst (c : Core) (u : UnitId) (mask : Nat) (s : State) : Host.Outcome State Fault Refusal :=
  if c = u.other.core then .next (s.regFail c (.unit u) 0x20060008 5 true) else .next (s.resetMasters u (mrstMasters mask))

/-- MASTER_DRAIN_END: the drain ends and the master leaves reset (R470). -/
def execMasterDrainEnd (u : UnitId) (m : Nat) (s : State) : Host.Outcome State Fault Refusal :=
  .next (s.onFab u (fun f => { f with draining := setDel f.draining m }))

/-! ### DMA control (R475, R476) -/

/-- The owner ID of a unit's control firmware. -/
def ctrlId : UnitId → Nat
  | .a => 0x21
  | .b => 0x22

/-- Whether a core may configure a DMA channel: the unit's control core, while the channel is its own or free (R30, R36). -/
def State.dmaMay (s : State) (c : Core) (u : UnitId) (n : Nat) : Bool :=
  c == u.core && s.configOk (.dma u n) (ctrlId u)

/-- A configuration write by another master is ignored and sets LAST_REFUSED (R36). -/
def State.refuseOwn (s : State) (r : Res) : State := s.setOwn r { s.own r with lastRefused := true }

/-- DMA_GO: the channel starts at the descriptor of DMA_DESC; while it is busy the write is ignored and sets CFG_REJ
(R476). -/
def execDmaGo (c : Core) (u : UnitId) (n : Nat) (s : State) : Host.Outcome State Fault Refusal :=
  if 16 ≤ n then .next (s.regFail c (.unit u) (0x20080104 + 0x20 * n) 5 true)
  else if s.dmaMay c u n = false then .next (s.refuseOwn (.dma u n))
  else
    let s1 := s.claimFor (.dma u n) (ctrlId u)
    if (s.dmaCh u n).busy then .next (s1.setStat (.unit u) (dmaStat n) 0x8)
    else .next (s1.setDma u n { busy := true, cur := s.reg (.unit u) (0x20080108 + 0x20 * n) })

/-- DMA_ABORT: the channel's ID is drained and its chain stops; ABORTED shows it (R470, R476). -/
def execDmaAbort (c : Core) (u : UnitId) (n : Nat) (s : State) : Host.Outcome State Fault Refusal :=
  if 16 ≤ n then .next (s.regFail c (.unit u) (0x20080104 + 0x20 * n) 5 true)
  else if s.dmaMay c u n = false then .next (s.refuseOwn (.dma u n))
  else
    let s1 := (s.claimFor (.dma u n) (ctrlId u)).onFab u (fun f => { f with
      outstanding := f.outstanding.filter (fun o => ¬ (o.req.master = 8 ∧ o.req.id = n)) })
    .next (s1.abortChain u n)

/-! ### The exposed FIFOs (R480, R481): instance 0 BM_ERR, instance 1 LP_ECC -/

/-- An exposed FIFO. -/
def Fabric.fifo (f : Fabric) (inst : Nat) : Fifo (List Nat) := if inst = 0 then f.errFifo else f.eccFifo

/-- The fabric with an exposed FIFO replaced. -/
def Fabric.setFifo (f : Fabric) (inst : Nat) (q : Fifo (List Nat)) : Fabric :=
  if inst = 0 then { f with errFifo := q } else { f with eccFifo := q }

/-- The word that FIFO_DATA returns, and the FIFO after the read (R480, R481). -/
def fifoRead (q : Fifo (List Nat)) : Nat × Fifo (List Nat) :=
  match q.items with
  | [] => (0, q)
  | .gap n :: _ => (2 ^ 31 + n, q.pop)
  | .item w _ :: _ =>
    (w.getD q.rdPos 0, if q.rdPos + 1 < w.length then { q with rdPos := q.rdPos + 1 } else q.pop)

/-- The base address of an exposed FIFO's registers. -/
def fifoBase (inst : Nat) : Nat := if inst = 0 then 0x20060020 else 0x20070020

/-- FIFO_DATA_READ: the next word of the item at stage 0, which leaves after its last word; 0 from an empty FIFO. -/
def execFifoDataRead (c : Core) (u : UnitId) (inst : Nat) (s : State) : Host.Outcome State Fault Refusal :=
  let r := fifoRead ((s.unit u).fab.fifo inst)
  .next ((s.onFab u (fun f => f.setFifo inst r.2)).emit (.regValue c (fifoBase inst + 0x10) r.1))

/-- DROP_PKT: items are discarded up to the first that ends a packet (R478). -/
def execFifoDropPkt (c : Core) (u : UnitId) (inst : Nat) (s : State) : Host.Outcome State Fault Refusal :=
  if c = u.other.core then .next (s.regFail c (.unit u) (fifoBase inst + 0x14) 5 true)
  else .next (s.onFab u (fun f => f.setFifo inst (f.fifo inst).drop))

/-- FLUSH: everything the FIFO holds is discarded, and a pending DROP_PKT ends (R478). -/
def execFifoFlush (c : Core) (u : UnitId) (inst : Nat) (s : State) : Host.Outcome State Fault Refusal :=
  if c = u.other.core then .next (s.regFail c (.unit u) (fifoBase inst + 0x14) 5 true)
  else .next (s.onFab u (fun f => f.setFifo inst (f.fifo inst).flush))

/-! ### SRAM controller (R473, R474, R498) -/

/-- A corrected SRAM error of a unit: counted, shown in SC_STAT.ECC_CE, and counted in the health window (R210, R498). -/
def State.sramCe (s : State) (u : UnitId) : State :=
  let s1 := s.countHeld u 0x20080000 1 0x20080008 1
  let s2 := s1.setStat (.unit u) 0x20080004 1
  s2.ceHealth u 1

/-- One scrub finding: a corrected word, or an uncorrectable one whose address is kept while SCRUB_UE was 0 (R473). -/
def State.scrubOne (s : State) (u : UnitId) (f : Nat × Bool) : State :=
  if f.2 then
    let s1 := if natBit (s.reg (.unit u) 0x20080004) 1 then s else s.setReg (.unit u) 0x2008000C (f.1 % 2 ^ 32)
    s1.setStat (.unit u) 0x20080004 2
  else s.sramCe u

/-- SCRUB_PASS: one pass over every word not in retention, with the errors it found; none while SCRUB_EN is 0 or a unit's
bank groups are in retention (R473). -/
def execScrubPass (u : UnitId) (found : List (Nat × Bool)) (s : State) : Host.Outcome State Fault Refusal :=
  if ¬ natBit (s.reg (.unit u) 0x20080000) 0 ∨ s.awakeNow u < 64 then .next s
  else .next (found.foldl (fun t f => t.scrubOne u f) s)

/-- SRAM_WAKE_DONE: once the wake has taken its 40 microseconds per group the last bank group is awake, WAKE_BUSY clears and scrubbing resumes (R474). -/
def execSramWakeDone (u : UnitId) (s : State) : Host.Outcome State Fault Refusal :=
  if (s.unit u).fab.waking ∧ 64 ≤ s.awakeNow u then
    .next (s.onFab u (fun f => { f with awakeTo := 64, waking := false }))
  else .next s

/-! ### LP5 controller (R489 to R494, R499 to R501) -/

/-- LP_STAT. -/
def lpStat : Nat := 0x20070004

/-- POSTPONE_MAX in force: values above 8 are taken as 8 (R500). -/
def State.postponeMax (s : State) (u : UnitId) : Nat := min 8 (natBits (s.reg (.unit u) 0x20070000) 16 4)

/-- REFRESH_DUE: the refresh is issued, postponed while real-time requests are held, or forced when the count would pass
POSTPONE_MAX (R489). -/
def execRefreshDue (u : UnitId) (ch : Nat) (busy : Bool) (s : State) : Host.Outcome State Fault Refusal :=
  let lp := (s.unit u).fab.lp
  if 8 ≤ ch ∨ lp.selfRefresh ∨ busy = false then .next s
  else
    let n := agetD lp.postponed ch 0
    if n < s.postponeMax u then .next (s.onLp u (fun l => { l with postponed := aputD l.postponed ch (n + 1) 0 }))
    else .next ((s.countHeld u 0x20070000 3 0x20070014 1).setStat (.unit u) lpStat 0x80)

/-- POSTPONED_REFRESH: the channel's real-time queues are empty and its postponed refreshes are issued (R489). -/
def execPostponedRefresh (u : UnitId) (ch : Nat) (s : State) : Host.Outcome State Fault Refusal :=
  .next (s.onLp u (fun l => { l with postponed := adel l.postponed ch }))

/-- A set-point change begins: with stored results, or with a retraining (R492). -/
def Lp5.startChange (l : Lp5) (t : Nat) : Lp5 := { l with freq := .changing t (decide (t ∉ l.trained)) }

/-- A FREQ_REQ is acted on (R492): a request for the set point in use cancels a deferred change, one made while a
training step gathers data is deferred, and a later one replaces it. -/
def Lp5.actFreq (l : Lp5) (t : Nat) : Lp5 :=
  if t = l.setpoint then { l with freq := .idle }
  else if l.training then { l with freq := .deferred t }
  else l.startChange t

/-- Whether a change or a self-refresh transition is in progress, so that writes are held (R494). -/
def Lp5.busyChange (l : Lp5) : Bool :=
  match l.freq with
  | .changing _ _ => true
  | _ => false

/-- A bit of LP_CTRL is stored. -/
def State.lpCtrlBit (s : State) (u : UnitId) (bit v : Nat) : State :=
  let r := s.reg (.unit u) 0x20070000
  s.setReg (.unit u) 0x20070000 (if v % 2 = 1 then r ||| 2 ^ bit else r &&& (0xFFFFFFFF ^^^ 2 ^ bit))

/-- The render path of a unit runs. -/
def State.pathRuns (s : State) (u : UnitId) : Bool := s.rendering && (s.unit u).hl.enabled && (s.unit u).hl.loaded

/-- FREQ_REQ: a value other than the set point in use requests a change, which is ignored with CFG_REJ while the render path runs;
a write during a change or a self-refresh is held (R492, R494). -/
def execFreqReq (c : Core) (u : UnitId) (v : Nat) (s : State) : Host.Outcome State Fault Refusal :=
  if c = u.other.core then .next (s.regFail c (.unit u) 0x20070000 5 true)
  else if s.pathRuns u ∧ v % 2 ≠ (s.unit u).fab.lp.setpoint then .next (s.setStat (.unit u) lpStat 0x800)
  else
    let s1 := s.lpCtrlBit u 0 v
    let l := (s.unit u).fab.lp
    if l.busyChange ∨ l.selfRefresh then .next (s1.onLp u (fun l => { l with heldFreq := some (v % 2) }))
    else .next (s1.onLp u (fun l => l.actFreq (v % 2)))

/-- Entry into self-refresh: queued requests complete and every postponed refresh is issued (R493). -/
def Lp5.enterSr (l : Lp5) : Lp5 := { l with postponed := [], selfRefresh := true }

/-- Writes held during a transition are acted on (R494). -/
def Lp5.release (l : Lp5) : Lp5 :=
  let l1 := match l.heldSr with
    | some 1 => { l with heldSr := none }.enterSr
    | some _ => { l with heldSr := none, selfRefresh := false }
    | none => l
  if l1.selfRefresh then l1
  else
    match l1.heldFreq with
    | some t => { l1 with heldFreq := none }.actFreq t
    | none => l1

/-- New training results replace the words of LP_TRAIN (R499). -/
def Lp5.retrained (l : Lp5) : Lp5 := { l with train := [], trainings := l.trainings + 1 }

/-- The results of a full training are to be saved in the configuration store, as after a write to a kept entry (R381, R441). -/
def State.keepTraining (s : State) (u : UnitId) : State :=
  { s with sub := { s.sub with
      trained := lset s.sub.trained u.toNat (s.unit u).fab.lp.trained, storeDirty := true, keptWriteUs := s.tb.us } }

/-- A set-point change ends: SETPOINT follows, FREQ_DONE is set, and RETRAINED where there were no stored results (R492,
R501). Results of a training go to the configuration store (R441). -/
def State.lpDone (s : State) (u : UnitId) (t : Nat) : State :=
  let re := decide (t ∉ (s.unit u).fab.lp.trained)
  let s1 := s.onLp u (fun l => { (if re then l.retrained else l) with setpoint := t, freq := .idle, trained := setAdd l.trained t })
  let s2 := if re then s1.keepTraining u else s1
  s2.setStat (.unit u) lpStat (if re then 0x30 else 0x10)

/-- The firmware's change of set point on the way into and out of IDLE (R492, R493). -/
def State.lpPoint (s : State) (u : UnitId) (t : Nat) : State :=
  if (s.unit u).fab.lp.setpoint = t then s else (s.lpCtrlBit u 0 t).lpDone u t

/-- FREQ_CHANGE_DONE: the set point changes and FREQ_DONE is set, RETRAINED where the controller retrained; a training
that failed sets TRAIN_FAIL and leaves the set point. Held writes are then acted on (R492, R494, R501). -/
def execFreqChangeDone (u : UnitId) (ok : Bool) (s : State) : Host.Outcome State Fault Refusal :=
  match (s.unit u).fab.lp.freq with
  | .changing t re =>
    if re = true ∧ ok = false then
      .next ((s.onLp u (fun l => { l with freq := .idle }.release)).setStat (.unit u) lpStat 0x40)
    else .next ((s.lpDone u t).onLp u Lp5.release)
  | _ => .next s

/-- PERIODIC_TRAINING: a training step begins to gather data, or ends; a deferred set-point change then begins, or is
held in self-refresh (R491, R492, R494). -/
def execPeriodicTraining (u : UnitId) (begin_ : Bool) (s : State) : Host.Outcome State Fault Refusal :=
  let l := (s.unit u).fab.lp
  if begin_ then (if l.selfRefresh ∨ l.busyChange then .next s else .next (s.onLp u (fun l => { l with training := true })))
  else if l.training = false then .next s
  else
    .next (s.onLp u (fun l =>
      let l1 := { l.retrained with training := false }
      match l1.freq with
      | .deferred t => if l1.selfRefresh then { l1 with freq := .idle, heldFreq := some t } else l1.startChange t
      | _ => l1))

/-- SR_REQ_ENTER: every channel enters self-refresh with power-down and the clocks stop; held while a change runs (R493,
R494). -/
def execSrReqEnter (c : Core) (u : UnitId) (s : State) : Host.Outcome State Fault Refusal :=
  if c = u.other.core then .next (s.regFail c (.unit u) 0x20070000 5 true)
  else
    let s1 := s.lpCtrlBit u 1 1
    if (s.unit u).fab.lp.busyChange then .next (s1.onLp u (fun l => { l with heldSr := some 1 }))
    else .next (s1.onLp u Lp5.enterSr)

/-- SR_REQ_EXIT: the PLL and clocks restart and the channels leave self-refresh; held writes are acted on (R493, R494). -/
def execSrReqExit (c : Core) (u : UnitId) (s : State) : Host.Outcome State Fault Refusal :=
  if c = u.other.core then .next (s.regFail c (.unit u) 0x20070000 5 true)
  else
    let s1 := s.lpCtrlBit u 1 0
    if (s.unit u).fab.lp.busyChange then .next (s1.onLp u (fun l => { l with heldSr := some 0 }))
    else .next (s1.onLp u (fun l => { l with selfRefresh := false }.release))

/-- REFRESH_DERATE_CHANGE: the memory's temperature crosses 85 degrees and LP_STAT.DERATE follows (R489, R501). -/
def execRefreshDerateChange (u : UnitId) (hot : Bool) (s : State) : Host.Outcome State Fault Refusal :=
  .next (s.onLp u (fun l => { l with derate := hot }))

end Sys2Proof.Machine
end

