-- ==== Sys2Proof/Machine/Hull.lean ====
section
/-!
DEFINITION. Speaker sets (R74 to R78): directions in UV32, the convex hull of a set with its degenerate cases, rings of
arcs, host triangles, and the triangulations and status of a layout rebuild.
-/
namespace Sys2Proof.Machine
open Sys2Proof

/-! ### Vectors -/

/-- The vector from `a` to `b`. -/
def vsub (b a : Pos) : Pos := ⟨b.x - a.x, b.y - a.y, b.z - a.z⟩
/-- Inner product. -/
def vdot (a b : Pos) : Int := a.x * b.x + a.y * b.y + a.z * b.z
/-- Cross product. -/
def vcross (a b : Pos) : Pos := ⟨a.y * b.z - a.z * b.y, a.z * b.x - a.x * b.z, a.x * b.y - a.y * b.x⟩
/-- Squared length. -/
def vsq (a : Pos) : Nat := (vdot a a).toNat
/-- The determinant of three vectors. -/
def vdet (a b c : Pos) : Int := vdot a (vcross b c)

/-- One in UV32. -/
def uvOne : Int := 2 ^ 30

/-- A vector normalised in UV32 (R88). -/
def vnorm (a : Pos) : Pos :=
  let n := vsq a
  ⟨rneOverSqrt 30 a.x n 1, rneOverSqrt 30 a.y n 1, rneOverSqrt 30 a.z n 1⟩

/-- The direction of a position in POS32; (1, 0, 0) closer than 2^-8 m to the origin (R76, R88). -/
def vdir (a : Pos) : Pos := if vsq a < 256 * 256 then ⟨uvOne, 0, 0⟩ else vnorm a

/-! ### The layout table -/

/-- A number of the layout table. -/
def layI (l : Assoc DVal) (idx sub elem : Nat) : Int := (baseVal l (dkey idx sub elem)).toInt

/-- A natural number of the layout table. -/
def layN (l : Assoc DVal) (idx sub elem : Nat) : Nat := (layI l idx sub elem).toNat

/-- The position of a feed (R72). -/
def feedPos (l : Assoc DVal) (f : Nat) : Pos := ⟨layI l 0x5000 1 f, layI l 0x5000 2 f, layI l 0x5000 3 f⟩

/-- The normal of a feed, in units of 2^-14 (R72). -/
def feedNorm (l : Assoc DVal) (f : Nat) : Pos := ⟨layI l 0x5000 4 f, layI l 0x5000 5 f, layI l 0x5000 6 f⟩

/-- A feed belongs to a set. -/
def isMember (l : Assoc DVal) (s f : Nat) : Bool := natBit (layN l 0x5000 7 f) s

/-- The members of a set. -/
def members (l : Assoc DVal) (s : Nat) : List Nat := (List.range 1024).filter (isMember l s)

/-- NORMAL_BAD (R74). -/
def normalBad (l : Assoc DVal) (f : Nat) : Bool :=
  let n := vsq (feedNorm l f) * 100
  decide (n < 98 * 2 ^ 28) || decide (102 * 2 ^ 28 < n)

/-- The unit vector of a virtual point (R75). -/
def virtualDir (v : Nat) : Pos :=
  match v - 1024 with
  | 0 => ⟨uvOne, 0, 0⟩
  | 1 => ⟨-uvOne, 0, 0⟩
  | 2 => ⟨0, uvOne, 0⟩
  | 3 => ⟨0, -uvOne, 0⟩
  | 4 => ⟨0, 0, uvOne⟩
  | _ => ⟨0, 0, -uvOne⟩

/-- A virtual point is enabled for a set. -/
def isVirtual (l : Assoc DVal) (s v : Nat) : Bool :=
  decide (1024 ≤ v) && decide (v < 1030) && natBit (layN l 0x5100 2 s) (v - 1024)

/-- The direction of a vertex of a three-dimensional set. -/
def vertexDir (l : Assoc DVal) (v : Nat) : Pos := if 1024 ≤ v then virtualDir v else vdir (feedPos l v)

/-- The horizontal direction of a ring member, where it has one (R78). -/
def ringDir (l : Assoc DVal) (f : Nat) : Option Pos :=
  let p := feedPos l f
  let h : Pos := ⟨p.x, p.y, 0⟩
  if vsq h < 256 * 256 then none else some (vnorm h)

/-! ### The automatic hull (R76, R77) -/

/-- Points with a direction that no earlier point has. -/
def dedupDirs : List (Nat × Pos) → List Pos → List (Nat × Pos)
  | [], _ => []
  | p :: l, seen => if p.2 ∈ seen then dedupDirs l seen else p :: dedupDirs l (p.2 :: seen)

/-- The candidate vertices of a three-dimensional set. -/
def candidates (l : Assoc DVal) (s : Nat) : List (Nat × Pos) :=
  let ms := (members l s).map (fun f => (f, vertexDir l f))
  let vs := ((List.range 6).map (1024 + ·)).filter (isVirtual l s) |>.map (fun v => (v, virtualDir v))
  dedupDirs (ms ++ vs) []

/-- An edge of a face's outline: every point of the face lies left of it as seen from outside, or between its ends. -/
def isEdge (n : Pos) (face : List (Nat × Pos)) (u v : Nat × Pos) : Bool :=
  u.1 != v.1 && face.all (fun p =>
    let e := vsub v.2 u.2
    let k := vdot n (vcross e (vsub p.2 u.2))
    let along := vdot (vsub p.2 u.2) e
    decide (0 < k) || (k == 0 && decide (0 ≤ along) && decide (along ≤ (vsq e : Int))))

/-- The vertex that follows `u` on the outline. -/
def nextVertex (n : Pos) (face : List (Nat × Pos)) (u : Nat × Pos) : Option (Nat × Pos) :=
  face.find? (fun v => isEdge n face u v)

/-- The outline from a vertex on, until it comes back to the first. -/
def walkFace (n : Pos) (face : List (Nat × Pos)) (first : Nat) : Nat → (Nat × Pos) → List Nat
  | 0, _ => []
  | k + 1, u =>
    match nextVertex n face u with
    | some v => if v.1 = first then [u.1] else u.1 :: walkFace n face first k v
    | none => []

/-- The outline of a face, counter-clockwise as seen from outside, from its lowest-numbered strict vertex. -/
def outline (n : Pos) (face : List (Nat × Pos)) : List Nat :=
  match (face.filter (fun u => (nextVertex n face u).isSome && face.any (fun w => isEdge n face w u))) with
  | [] => []
  | u :: l =>
    let low := l.foldl (fun a b => if b.1 < a.1 then b else a) u
    walkFace n face low.1 (face.length + 1) low

/-- The outward normal and the points of the hull face through three points, where they span one. -/
def faceOf (pts : List (Nat × Pos)) (a b c : Pos) : Option (Pos × List (Nat × Pos)) :=
  let n := vcross (vsub b a) (vsub c a)
  if vsq n = 0 then none
  else if pts.all (fun p => decide (vdot n (vsub p.2 a) ≤ 0)) then
    some (n, pts.filter (fun p => vdot n (vsub p.2 a) == 0))
  else none

/-- Every face of the hull, with its outward normal. -/
def hullFaces (pts : List (Nat × Pos)) : List (Pos × List (Nat × Pos)) :=
  pts.flatMap (fun a => pts.flatMap (fun b => pts.filterMap (fun c => faceOf pts a.2 b.2 c.2)))

/-- The origin lies strictly inside the hull. -/
def originInside (faces : List (Pos × List (Nat × Pos))) : Bool :=
  !faces.isEmpty && faces.all (fun f =>
    match f.2 with
    | p :: _ => decide (0 < vdot f.1 p.2)
    | [] => false)

/-- The fan of an outline from its first vertex. -/
def fan (v0 : Nat) : List Nat → List (List Nat)
  | a :: b :: l => [v0, a, b] :: fan v0 (b :: l)
  | _ => []

/-- Insertion into an ascending list of numbers. -/
def insertNat (x : Nat) : List Nat → List Nat
  | [] => [x]
  | y :: l => if x ≤ y then x :: y :: l else y :: insertNat x l

/-- Lexicographic order of triples. -/
def triLt : List Nat → List Nat → Bool
  | [], _ => false
  | _, [] => false
  | a :: l, b :: m => decide (a < b) || (a == b && triLt l m)

/-- Insertion into an ascending list of triples without repeats. -/
def insertTri (t : List Nat) : List (List Nat) → List (List Nat)
  | [] => [t]
  | u :: l => if t = u then u :: l else if triLt t u then t :: u :: l else u :: insertTri t l

/-- A triple in ascending order. -/
def sortTri (t : List Nat) : List Nat := t.foldl (fun l x => insertNat x l) []

/-- The triangles of the hull in ascending order (R76). -/
def hullTriangles (faces : List (Pos × List (Nat × Pos))) : List (List Nat) :=
  (faces.flatMap (fun f =>
    match outline f.1 f.2 with
    | v0 :: l => fan v0 l
    | [] => [])).foldl (fun l t => insertTri (sortTri t) l) []

/-- The automatic triangulation of a set: bit 0 of the status is HULL_OPEN, bit 1 TOO_FEW (R76, R77). -/
def autoTri (l : Assoc DVal) (s : Nat) : SetTri :=
  let pts := candidates l s
  if pts.length < 4 then ⟨[], 2⟩
  else
    let faces := hullFaces pts
    if originInside faces then ⟨hullTriangles faces, 0⟩ else ⟨[], 1⟩

/-! ### Host lists and rings (R77, R78) -/

/-- The vertex triples of a TRI_LIST value, six bytes each. -/
def triBytes : List Byte → List (List Nat)
  | a :: b :: c :: d :: e :: f :: l => [beNat [a, b], beNat [c, d], beNat [e, f]] :: triBytes l
  | _ => []

/-- A host triangle is used: its vertices are members or enabled virtual points, and its directions independent. -/
def hostOk (l : Assoc DVal) (s : Nat) (t : List Nat) : Bool :=
  t.all (fun v => (decide (v < 1024) && isMember l s v) || isVirtual l s v) &&
    vdet (vertexDir l (t.getD 0 0)) (vertexDir l (t.getD 1 0)) (vertexDir l (t.getD 2 0)) != 0

/-- The triangulation from a host list. -/
def hostTri (l : Assoc DVal) (s : Nat) : SetTri :=
  ⟨(triBytes (baseVal l (dkey 0x5100 5 s)).toBytes).filter (hostOk l s), 0⟩

/-- The angle of the first vector from +x, counter-clockwise, is below that of the second, exactly. -/
def angleLt (a b : Pos) : Bool :=
  let ua := decide (0 < a.y) || (a.y == 0 && decide (0 < a.x))
  let ub := decide (0 < b.y) || (b.y == 0 && decide (0 < b.x))
  if ua != ub then ua else decide (0 < a.x * b.y - a.y * b.x)

/-- Insertion by azimuth; a member with the azimuth of an earlier one is passed over. -/
def insertAz (p : Nat × Pos) : List (Nat × Pos) → List (Nat × Pos)
  | [] => [p]
  | q :: l =>
    if angleLt p.2 q.2 then p :: q :: l
    else if angleLt q.2 p.2 then q :: insertAz p l
    else q :: l

/-- The arcs between neighbours, those of 180 degrees or more left out. -/
def arcs (first : Nat × Pos) : List (Nat × Pos) → List (List Nat)
  | [] => []
  | [a] => if 0 < a.2.x * first.2.y - a.2.y * first.2.x then [[a.1, first.1]] else []
  | a :: b :: l => (if 0 < a.2.x * b.2.y - a.2.y * b.2.x then [[a.1, b.1]] else []) ++ arcs first (b :: l)

/-- The triangulation of a ring (R78). -/
def ringTri (l : Assoc DVal) (s : Nat) : SetTri :=
  let pts := ((members l s).filterMap (fun f => (ringDir l f).map (fun d => (f, d)))).foldl (fun m p => insertAz p m) []
  match pts with
  | a :: b :: m =>
    let r := arcs a (a :: b :: m)
    ⟨r, if r.isEmpty then 2 else 0⟩
  | _ => ⟨[], 2⟩

/-- The triangulation of a set in a rebuild. -/
def buildSet (l : Assoc DVal) (s : Nat) : SetTri :=
  if layN l 0x5100 1 s = 1 then ringTri l s else if layN l 0x5100 4 s = 1 then hostTri l s else autoTri l s

/-- The triangulations of the 64 sets that have members, virtual points or a host list, or show a status. -/
def buildAll (l : Assoc DVal) : Assoc SetTri :=
  (List.range 64).foldl (fun m s => aputD m s (buildSet l s) {}) []

/-- FEED_GEO_STATUS of a feed after a rebuild: bit 0 NOT_VERTEX, bit 1 NORMAL_BAD (R74, R76). -/
def geoStatus (l : Assoc DVal) (tri : Assoc SetTri) (f : Nat) : Nat :=
  let nv := (List.range 64).any (fun s => isMember l s f && !((agetD tri s {}).faces.any (fun t => t.contains f)))
  (if nv then 1 else 0) + if normalBad l f then 2 else 0

/-- The geometry status of all feeds that differs from 0. -/
def buildGeo (l : Assoc DVal) (tri : Assoc SetTri) : Assoc Nat :=
  (List.range 1024).foldl (fun m f => aputD m f (geoStatus l tri f) 0) []

end Sys2Proof.Machine
end

