-- ==== Sys2Proof/Machine/Keyframes.lean ====
section
/-!
DEFINITION. Keyframes and trajectories (R82 to R87): the keyframe FIFO as the front end's model and both units keep it,
and the position and hold of a trajectory at an evaluation point.
-/
namespace Sys2Proof.Machine
open Sys2Proof

/-- The evaluation point of block n: e(n) = 32 n + 32. -/
def evalPoint (n : Nat) : Nat := 32 * n + 32

/-- A keyframe record of 24 bytes (R82). -/
def keyframeOf (b : List Byte) : Keyframe :=
  ⟨beNat (b.take 8), toSigned 32 (beNat ((b.drop 8).take 4)), toSigned 32 (beNat ((b.drop 12).take 4)),
    toSigned 32 (beNat ((b.drop 16).take 4)), ((b.getD 20 0).toNat)⟩

/-- The records of a keyframe value, `n` of them at most. -/
def keyframesOf : Nat → List Byte → List Keyframe
  | 0, _ => []
  | n + 1, b => if b.length < 24 then [] else keyframeOf b :: keyframesOf n (b.drop 24)

/-- The first keyframe of a list of stages, past gap markers. -/
def firstKey : List (FItem Keyframe) → Option Keyframe
  | [] => none
  | .item k _ :: _ => some k
  | .gap _ :: l => firstKey l

/-- Whether a keyframe is reached at evaluation point `e`. -/
def reachedBy (e : Nat) : Option Keyframe → Bool
  | some k => decide (k.time ≤ e)
  | none => false

/-- The keyframe after the next one, past gap markers. -/
def secondKey : List (FItem Keyframe) → Option Keyframe
  | [] => none
  | .item _ _ :: l => firstKey l
  | .gap _ :: l => secondKey l

/-- What leaves the FIFO up to the block whose evaluation point is `e` (R87). -/
def kfRetire (e : Nat) : List (FItem Keyframe) → List (FItem Keyframe)
  | [] => []
  | .gap n :: l => if reachedBy e (firstKey l) then kfRetire e l else .gap n :: l
  | .item k z :: .gap n :: l => if reachedBy e (firstKey l) then kfRetire e l else .item k z :: .gap n :: l
  | .item k z :: l => if reachedBy e (secondKey l) then kfRetire e l else .item k z :: l

/-- Records that find a full FIFO are dropped: a gap marker for `d` of them at the input-most stage (R84, R477). -/
def kfGap (d : Nat) : List (FItem Keyframe) → List (FItem Keyframe)
  | [] => []
  | [.item _ _] => [.gap (min 65535 (d + 1))]
  | [.gap n] => [.gap (min 65535 (n + d))]
  | x :: y :: l => x :: kfGap d (y :: l)

/-- Records enter a FIFO of 64 stages while it has room; the FIFO after them and how many were dropped (R84). -/
def kfEnter (l : List (FItem Keyframe)) (ks : List Keyframe) : List (FItem Keyframe) × Nat :=
  let room := 64 - l.length
  let l1 := l ++ (ks.take room).map (fun k => .item k true)
  let d := ks.length - room
  (if d = 0 then l1 else kfGap d l1, d)

/-- Keyframes in a FIFO. -/
def kfCount (l : List (FItem Keyframe)) : Nat :=
  (l.filter (fun i => match i with
    | .item _ _ => true
    | .gap _ => false)).length

/-- The keyframe directly at the head of a list, with no gap marker before it. -/
def headKey : List (FItem Keyframe) → Option Keyframe
  | .item k _ :: _ => some k
  | _ => none

/-- The last keyframe reached at `e`, with the keyframe directly before it and what follows it. -/
def kfSeek (e : Nat) (prev : Option Keyframe) : List (FItem Keyframe) →
    Option (Option Keyframe × Keyframe × List (FItem Keyframe))
  | [] => none
  | .gap _ :: l => kfSeek e none l
  | .item k _ :: l =>
    if k.time ≤ e then
      match kfSeek e (some k) l with
      | some r => some r
      | none => some (prev, k, l)
    else none

/-- One component of the segment from `k` to `k1` at `e` (R85): linear, or cubic with the neighbours' tangents. -/
def segAt (e : Nat) (f : Keyframe → Int) (prev : Option Keyframe) (k k1 : Keyframe) (k2 : Option Keyframe) : Int :=
  let x0 : Rat := f k
  let x1 : Rat := f k1
  let dt : Rat := (k1.time : Int) - k.time
  let u : Rat := ((e : Int) - k.time : Int) / dt
  if k.mode = 1 then satS 32 (rneQ (x0 + u * (x1 - x0)))
  else
    let flat := (x1 - x0) / dt
    let m0 : Rat := match prev with
      | some p => (x1 - (f p : Rat)) / (((k1.time : Int) - p.time : Int) : Rat)
      | none => flat
    let m1 : Rat := match k2 with
      | some q => ((f q : Rat) - x0) / (((q.time : Int) - k.time : Int) : Rat)
      | none => flat
    let u2 := u * u
    let u3 := u2 * u
    satS 32 (rneQ ((2 * u3 - 3 * u2 + 1) * x0 + (u3 - 2 * u2 + u) * dt * m0 + (3 * u2 - 2 * u3) * x1 + (u3 - u2) * dt * m1))

/-- The position at evaluation point `e` and KF_HOLD, from the visible FIFO; `none` before any keyframe is reached
(R85, R86). -/
def kfPosition (e : Nat) (l : List (FItem Keyframe)) : Option (Pos × Bool) :=
  match kfSeek e none l with
  | none => none
  | some (prev, k, rest) =>
    match headKey rest with
    | none => some (⟨k.x, k.y, k.z⟩, true)
    | some k1 =>
      if k.mode = 0 then some (⟨k.x, k.y, k.z⟩, false)
      else
        let k2 := headKey (rest.drop 1)
        some (⟨segAt e (·.x) prev k k1 k2, segAt e (·.y) prev k k1 k2, segAt e (·.z) prev k k1 k2⟩, false)

end Sys2Proof.Machine
end

