-- ==== Sys2Proof/Machine/Geometry.lean ====
section
/-!
DEFINITION. The geometry engine (R73, R79 to R103): a unit's settings, the layout switch, trajectories, the five laws in
exact arithmetic, and the law records of a block.
-/
namespace Sys2Proof.Machine
open Sys2Proof

/-! ### Objects and history -/

/-- A unit's state of an object. -/
def Render.obj (r : Render) (o : Nat) : ObjState := agetD r.objs o {}

/-- The render path with a unit's state of an object replaced. -/
def Render.setObj (r : Render) (o : Nat) (x : ObjState) : Render := { r with objs := aputD r.objs o x {} }

/-! ### Routes (R170, R171) -/

/-- A route at block `n`: a value other than the present source starts a change with the length and law in force. A route
without state starts as the route in force (R551). -/
def routeAt (old : Option Route) (n v len : Nat) (power : Bool) : Route :=
  match old with
  | none => ⟨v, v, 0, 0, false⟩
  | some r => if r.cur = v then r else ⟨v, r.cur, 32 * n, len, power⟩

/-- A change of the route runs at sample `x`. -/
def Route.fading (r : Route) (x : Nat) : Bool := decide (r.start ≤ x) && decide (x < r.start + r.len)

/-- The weights of the old and the new source at sample `x` (R171). -/
def Route.weights (r : Route) (x : Nat) : Int × Int := xfWeights r.power (x - r.start + 1) r.len

/-! ### The layout switch (R73) -/

/-- A key of the layout table. -/
def isLayoutKey (k : Nat) : Bool :=
  match dictFind (keyIdx k) (keySub k) with
  | some e => e.tbl == .layout
  | none => false

/-- A layout rebuild is due in a unit by block `n`. -/
def Render.layoutDue (r : Render) (n : Nat) : Bool :=
  r.pend.any (fun p => isLayoutKey p.key && p.wins && decide (p.apply ≤ 32 * n))

/-- The layout table in force at block `n`. -/
def layoutFold (l : Assoc DVal) (p : List JRec) (n : Nat) : Assoc DVal :=
  p.foldl (fun m r => if isLayoutKey r.key && r.wins && decide (r.apply ≤ 32 * n) then putVal m r.key r.val else m) l

/-- The shadow copy of the layout, rebuilt, becomes active (R73 to R78). -/
def Render.switchLayout (r : Render) (n : Nat) : Render :=
  if r.layoutDue n then
    let l := layoutFold r.layout r.pend n
    let t := buildAll l
    { r with
      layout := l, cfg := layoutFold r.cfg r.pend n, tri := t, geo := buildGeo l t
      pend := r.pend.filter (fun p => !(isLayoutKey p.key && decide (p.apply ≤ 32 * n))) }
  else r

/-! ### Directions of a law (R88 to R90) -/

/-- The cosine and sine of σ = 90° * spread / 65536, in UV32. -/
def sigma (spread : Nat) : Int × Int :=
  let a : Int := (fxPi * spread : Nat) / 131072
  (fxRound 30 (fxCos a), fxRound 30 (fxSin a))

/-- c_j and s_j of R90 in UV32. -/
def hexUnit (j : Nat) : Int × Int :=
  let a : Int := (fxPi * j : Nat) / 3
  (fxRound 30 (fxCos a), fxRound 30 (fxSin a))

/-- A sum of products of UV32 values rounded to UV32. -/
def uvRound (x : Int) : Int := satS 32 (rneShift 30 x)

/-- The directions D of a three-dimensional set (R90). -/
def spreadDirs (p : Pos) (spread : Nat) : List Pos :=
  let d := vdir p
  if spread = 0 then [d]
  else
    let a : Pos := if d.z.natAbs * 1000 ≤ 875 * 2 ^ 30 then ⟨0, 0, uvOne⟩ else ⟨uvOne, 0, 0⟩
    let e1 := vnorm (vcross a d)
    let c := vcross d e1
    let e2 : Pos := ⟨uvRound c.x, uvRound c.y, uvRound c.z⟩
    let cs := sigma spread
    let at_ := fun (j : Nat) =>
      let h := hexUnit j
      let f := fun (x y z : Int) => cs.1 * x * 2 ^ 30 + cs.2 * (h.1 * y + h.2 * z)
      vnorm ⟨f d.x e1.x e2.x, f d.y e1.y e2.y, f d.z e1.z e2.z⟩
    d :: (List.range 6).map at_

/-- The directions D of a ring set (R89, R90). -/
def ringDirs (p : Pos) (spread : Nat) : List Pos :=
  let d := vdir p
  let h : Pos := ⟨d.x, d.y, 0⟩
  let q : Pos := if vsq h = 0 then ⟨uvOne, 0, 0⟩ else vnorm h
  if spread = 0 then [q]
  else
    let cs := sigma spread
    let rot := fun (s : Int) => (⟨uvRound (cs.1 * q.x - s * q.y), uvRound (s * q.x + cs.1 * q.y), 0⟩ : Pos)
    [q, rot (-cs.2), rot cs.2]

/-! ### Gains (R89 to R96) -/

/-- The exact solution for a face, where every component is at least 0 (R89). -/
def faceSolve (dirOf : Nat → Pos) (d : Pos) (face : List Nat) : Option (List (Nat × Rat)) :=
  match face with
  | [a, b, c] =>
    let ua := dirOf a
    let ub := dirOf b
    let uc := dirOf c
    let t := vdet ua ub uc
    let h : List (Nat × Rat) :=
      [(a, (vdet d ub uc : Rat) / t), (b, (vdet ua d uc : Rat) / t), (c, (vdet ua ub d : Rat) / t)]
    if t ≠ 0 ∧ h.all (fun e => decide (0 ≤ e.2)) then some h else none
  | [a, b] =>
    let ua := dirOf a
    let ub := dirOf b
    let t := ua.x * ub.y - ua.y * ub.x
    let h : List (Nat × Rat) :=
      [(a, ((d.x * ub.y - d.y * ub.x : Int) : Rat) / t), (b, ((ua.x * d.y - ua.y * d.x : Int) : Rat) / t)]
    if t ≠ 0 ∧ h.all (fun e => decide (0 ≤ e.2)) then some h else none
  | _ => none

/-- The directions of the vertices of a set. -/
def setDirOf (l : Assoc DVal) (s v : Nat) : Pos :=
  if layN l 0x5100 1 s = 1 then (ringDir l v).getD ⟨uvOne, 0, 0⟩ else vertexDir l v

/-- The solutions of a set, one for each direction that a face contains. -/
def setSolve (r : Render) (s : Nat) (p : Pos) (spread : Nat) : List (List (Nat × Rat)) :=
  let ds := if layN r.layout 0x5100 1 s = 1 then ringDirs p spread else spreadDirs p spread
  ds.filterMap (fun d => (agetD r.tri s {}).faces.findSome? (faceSolve (setDirOf r.layout s) d))

/-- H_i of a vertex (R90). -/
def hSum (sol : List (List (Nat × Rat))) (v : Nat) : Rat :=
  (sol.map (fun h => ((h.filter (fun e => e.1 == v)).map (·.2)).sum)).sum

/-- The gain of a feed in a VBAP or hybrid set, in units of 2^-21 (R90). -/
def vbapGain (r : Render) (s f : Nat) (p : Pos) (spread : Nat) : Int :=
  let sol := setSolve r s p spread
  let real := ((sol.flatMap (fun h => h.map (·.1))).filter (· < 1024)).eraseDups
  let tot := (real.map (fun v => hSum sol v * hSum sol v)).sum
  if tot = 0 then 0 else satS 24 (rneSqrtQ false (hSum sol f * hSum sol f * 2 ^ 42 / tot))

/-- Distance for DBAP in DST32: at least 0.25 m (R91). -/
def dbapDist (p q : Pos) (b : Nat) : Nat := max 16384 (min (2 ^ 32 - 1) (rneSqrt (vsq (vsub q p) + b * b) 1).toNat)

/-- The unnormalised DBAP weight in units of 2^-24 (R91). A distance of a power of two makes the exponent of ten rational, and
the weight is then taken exactly where that exponent is whole (R88). -/
def dbapWeight (taper : Int) (d : Nat) (rho : Int) : Nat :=
  let x := rho * ((d.log2 : Int) - 16)
  if d = 2 ^ d.log2 ∧ x % 5120 = 0 then
    let m := x / 5120
    min (2 ^ 32 - 1) (if 0 ≤ m then rneDiv (8 * taper) (10 ^ m.toNat) else 8 * taper * 10 ^ (-m).toNat).toNat
  else
  let e := fxExp (-(rho * fxLn d 65536 * fxLn10) / (5120 * fxLn2))
  min (2 ^ 32 - 1) (rneShift fxBits (8 * taper * e)).toNat

/-- The members of the sets that a mask selects (R91). -/
def maskMembers (l : Assoc DVal) (mask : Nat) : List Nat :=
  (List.range 1024).filter (fun f => layN l 0x5000 7 f &&& mask != 0)

/-- The DBAP weight of a feed for an object at a position. -/
def dbapV (r : Render) (o x f : Nat) (p : Pos) : Nat :=
  let b := rneShift 16 (r.n 0x4000 4 o x * r.i 0x7000 3 0 x)
  dbapWeight (layI r.layout 0x5000 8 f) (dbapDist p (feedPos r.layout f) b.toNat) (r.i 0x4000 0xE o x)

/-- S(n) over the members of a mask, in units of 2^-48 (R91). -/
def dbapSum (r : Render) (o x mask : Nat) (p : Pos) : Nat :=
  ((maskMembers r.layout mask).map (fun f => dbapV r o x f p * dbapV r o x f p)).sum

/-- n · q of a feed seen from a position. -/
def normDot (l : Assoc DVal) (f : Nat) (p : Pos) : Int := vdot (feedNorm l f) (vsub (feedPos l f) p)

/-- A feed is a secondary source of a position (R93). -/
def isSecondary (r : Render) (f : Nat) (p : Pos) : Bool :=
  decide (0 < normDot r.layout f p) && !natBit (agetD r.geo f 0) 1

/-- The gain of a feed in a delay-field set (R93). -/
def fieldGain (r : Render) (x s f : Nat) (p : Pos) : Int :=
  if isSecondary r f p = false then 0
  else
    let k := (layI r.layout 0x5000 8 f * layI r.layout 0x5100 3 s * normDot r.layout f p).toNat
    let n := vsq (vsub (feedPos r.layout f) p)
    let ref := r.n 0x7000 2 0 x
    if 16384 * 16384 ≤ n then satS 24 (rneRoot4 (k ^ 4 * ref ^ 2) (2 ^ 140 * n ^ 3))
    else satS 24 (rneSqrt (k ^ 2 * ref) (2 ^ 84 * n))

/-- The selected sets that contain a feed. -/
def setsOf (l : Assoc DVal) (mask f : Nat) : List Nat :=
  (List.range 64).filter (fun s => natBit mask s && isMember l s f)

/-- The pair gain target under a mask, in GAIN24 (R96), from the object's law record. -/
def lawGain (r : Render) (rec : LawRec) (o f mask norm : Nat) : Int :=
  let x := 32 * rec.block
  let ss := setsOf r.layout mask f
  match rec.law with
  | 1 =>
    if ss.isEmpty ∨ norm = 0 then 0
    else satS 24 (rneOverSqrt 21 (dbapV r o x f rec.pos) norm 1)
  | 2 => satS 24 (ss.map (fun s => fieldGain r x s f rec.pos)).sum
  | 4 => satS 24 (r.i 0x4000 8 o x * ss.length)
  | _ => satS 24 (ss.map (fun s => vbapGain r s f rec.pos (r.n 0x4000 4 o x))).sum

/-- A pair is formed in the block of a law record: the object is enabled and the feed a member under its mask, or under
either mask while a change runs (R102, R103). -/
def pairFormed (r : Render) (rec : LawRec) (f : Nat) : Bool :=
  let m := rec.mask
  let mem := layN r.layout 0x5000 7 f
  rec.enable && (mem &&& m.cur != 0 || (m.fading (32 * rec.block) && mem &&& m.old != 0))

/-- The gain target of a formed pair at the end of the block (R96, R117, R171). -/
def pairTarget (r : Render) (rec : LawRec) (o f : Nat) : Int :=
  let m := rec.mask
  let gn := lawGain r rec o f m.cur rec.normNew
  if m.fading (32 * rec.block) then
    let w := m.weights (32 * rec.block + 31)
    satS 24 (rneShift 23 (w.1 * lawGain r rec o f m.old rec.normOld + w.2 * gn))
  else gn

/-- The composed delay target of a pair, in units of 2^-16 sample (R97). -/
def composedDelay (r : Render) (rate : Nat) (rec : LawRec) (o f : Nat) : Int :=
  let x := 32 * rec.block
  let fixed := r.i 0x4000 7 o x + r.i 0x5000 9 f x - r.i 0x6000 4 f x * 65536
  if rec.law = 2 ∨ rec.law = 3 then
    let c := r.n 0x7000 1 0 x
    rneAddSqrt fixed (vsq (vsub (feedPos r.layout f) rec.pos) * rate ^ 2 * 2 ^ 40) (c ^ 2)
  else fixed

/-! ### Law records -/

/-- Keyframe records and TRAJ_SRC writes with apply index up to block `n` reach the keyframe FIFO of an object, and
`KF_DROPS` grows by the drops of gap markers (R84 to R87). -/
def kfTake (n o : Nat) : List JRec → List (FItem Keyframe) × Nat × Bool → List (FItem Keyframe) × Nat × Bool
  | [], a => a
  | j :: l, a =>
    if keyElem j.key ≠ o ∨ 32 * n < j.apply ∨ j.wins = false then kfTake n o l a
    else if keyIdx j.key = 0x4000 then
      kfTake n o l (if j.val = .num 0 then ([], a.2.1, a.2.2) else a)
    else
      let f := kfRetire (evalPoint (j.apply / 32 - 1)) a.1
      if j.kind = 3 then kfTake n o l (kfGap j.val.toNat f, a.2.1 + j.val.toNat, true)
      else kfTake n o l ((kfEnter f (keyframesOf 32 j.val.toBytes)).1, a.2.1, a.2.2)

/-- The position of an object at block `n`, and KF_HOLD (R85). -/
def objPosition (r : Render) (o n : Nat) (l : List (FItem Keyframe)) : Pos × Bool :=
  let x := 32 * n
  let static : Pos := ⟨r.i 0x4000 0xA o x, r.i 0x4000 0xB o x, r.i 0x4000 0xC o x⟩
  if r.n 0x4000 9 o x = 1 then (kfPosition (evalPoint n) l).getD (static, false) else (static, false)

/-- OUTSIDE_HULL: a selected VBAP or hybrid set has no face that contains a direction (R81). -/
def outsideHull (r : Render) (o mask x : Nat) (law : Nat) (p : Pos) : Bool :=
  (law == 0 || law == 3) && (List.range 64).any (fun s =>
    natBit mask s && (setSolve r s p (r.n 0x4000 4 o x)).isEmpty)

/-- NO_SECONDARY: a selected delay-field set has no feed that radiates towards the object's field (R81). -/
def noSecondary (r : Render) (mask law : Nat) (p : Pos) : Bool :=
  law == 2 && (List.range 64).any (fun s =>
    natBit mask s && !((members r.layout s).any (fun f => decide (0 < normDot r.layout f p))))

/-- The DBAP normalisations of a block (R92): the first block of DBAP, of a mask or of an enable uses its own sums. -/
def dbapNorms (x : ObjState) (on changed : Bool) (sNew sOld : Nat) : Nat × Nat × Bool :=
  if !x.wasDbap || !x.wasOn || !on then (sNew, sOld, true)
  else if changed then (sNew, x.sumNew, true)
  else (x.sumNew, x.sumOld, false)

/-- The keyframe FIFO of an object as the journal and the block index leave it at block `n` (R87). -/
def Render.kfNow (r : Render) (n o : Nat) : List (FItem Keyframe) :=
  kfRetire (evalPoint (n - 1)) (kfTake n o (byApply r.kfPend) ((agetD r.kf o {}).items, 0, false)).1

/-- One object's keyframe records up to block `n` taken into its FIFO outside RENDER; a gap marker among them raises KF_GAP and
KF_DROPS at the first block of the next RENDER (R65, R86, R87). -/
def Render.takeKf (r : Render) (n o : Nat) : Render :=
  let f := kfTake n o (byApply r.kfPend) ((agetD r.kf o {}).items, 0, false)
  let q := r.setObj o { r.obj o with gapDue := min 65535 ((r.obj o).gapDue + f.2.1) }
  { q with kf := aputD r.kf o { items := f.1 } {} }

/-- Every object with a keyframe record or TRAJ_SRC write up to block `n`, outside RENDER. -/
def Render.takeKfs (r : Render) (n : Nat) : Render :=
  let due := (r.kfPend.filter (fun j => decide (j.apply ≤ 32 * n))).map (fun j => keyElem j.key)
  { due.eraseDups.foldl (fun (q : Render) o => q.takeKf n o) r with
    kfPend := r.kfPend.filter (fun j => decide (32 * n < j.apply)) }

/-- The law record of one object for block `n`, and its trajectory state after it. -/
def Render.lawObj (r : Render) (n : Nat) (o : Nat) : Render :=
  let x := 32 * n
  let st := r.obj o
  let fifo := kfTake n o (byApply r.kfPend) ((agetD r.kf o {}).items, 0, false)
  let items := r.kfNow n o
  let gap := fifo.2.2 || decide (0 < st.gapDue)
  let p := objPosition r o n items
  let mask := r.n 0x4000 3 o x
  let route := routeAt st.mask n mask (r.n 0x4000 0x36 o x) (r.n 0x4000 0x37 o x == 1)
  let changed := st.mask.isSome && (st.mask.map (·.cur)) != some mask
  let law := r.n 0x4000 2 o x
  let on := r.n 0x4000 1 o x == 1
  let dbap := on && law == 1
  let sNew := if dbap then dbapSum r o x route.cur p.1 else 0
  let sOld := if dbap && route.fading x then dbapSum r o x route.old p.1 else 0
  let nm := dbapNorms st on changed sNew sOld
  let vel : Pos := match st.prev with
    | some q => ⟨satS 32 (p.1.x - q.x), satS 32 (p.1.y - q.y), satS 32 (p.1.z - q.z)⟩
    | none => {}
  let live := (if on && outsideHull r o route.cur x law p.1 then 1 else 0) +
    (if on && noSecondary r route.cur law p.1 then 2 else 0) + (if p.2 then 4 else 0) +
    (if dbap && nm.2.2 then 64 else 0)
  let st' := { st with
    mask := some route, prev := some p.1, sumNew := sNew, sumOld := sOld, wasOn := on, wasDbap := dbap
    kfDrops := min 65535 (st.kfDrops + st.gapDue + fifo.2.1), gapDue := 0
    status := live + (st.status &&& 0x30) + (if gap || natBit st.status 3 then 8 else 0) }
  { r.setObj o st' with
    kf := aputD r.kf o { items := items } {}
    laws := aputD r.laws (1024 * (n % 4) + o) ⟨n, p.1, vel, law, on, p.2, nm.1, nm.2.1, route⟩ {} }

/-- The law records of block `n` for a list of objects. -/
def Render.lawAll (r : Render) (n : Nat) : List Nat → Render
  | [] => r
  | o :: l => (r.lawObj n o).lawAll n l

/-- The geometry engine's work for block `n`: a layout rebuild that is due switches, then one law record per object. -/
def Render.broadcast (r : Render) (n : Nat) : Render :=
  let r1 := (r.switchLayout n).lawAll n (List.range 1024)
  { r1 with lawBlk := n + 1, kfPend := r1.kfPend.filter (fun j => decide (32 * n < j.apply)) }

/-- The set and feed status entries of the rebuilt layout (R72, R75, R76). -/
def geoEntries (r : Render) (m : Assoc DVal) : Assoc DVal :=
  let m1 := (List.range 64).foldl (fun m s =>
    let t := agetD r.tri s {}
    putVal (putVal m (dkey 0x5100 7 s) (.num t.status)) (dkey 0x5100 8 s) (.num t.faces.length)) m
  (List.range 1024).foldl (fun m f => putVal m (dkey 0x5000 0xA f) (.num ((agetD r.geo f 0 : Nat) : Int))) m1

/-- LAYOUT_SWITCH: the rebuilt layout table switches at the rebuild's apply index, in the units and in the front end's
entries (R73). While a unit renders, its own table switches with the law records of the block. -/
def execLayoutSwitch (s : State) : Host.Outcome State Fault Refusal :=
  let n := s.tb.sidx / 32
  let due := s.fePend.filter (fun p => isLayoutKey p.key && p.wins && decide (p.apply ≤ s.tb.sidx))
  match due.getLast? with
  | none => .next s
  | some q =>
    let sw := fun (t : State) (u : UnitId) => if t.unitRuns u then t else t.onRd u (fun r => r.switchLayout n)
    let s1 := sw (sw s .a) .b
    let s2 := { s1 with
      dict := layoutFold s1.dict s1.fePend n
      fePend := s1.fePend.filter (fun p => !(isLayoutKey p.key && decide (p.apply ≤ s.tb.sidx))) }
    let shadow : Render := ({ cfg := [], layout := s.dict, pend := s.fePend } : Render).switchLayout n
    let s3 := { s2 with dict := geoEntries shadow s2.dict }
    .next (s3.setFeN 0x7000 4 0 q.apply)

end Sys2Proof.Machine
end

