-- ==== Sys2Proof/Machine/Interp.lean ====
section
/-!
DEFINITION. Reading history at a fractional delay (R118 to R124): ramps, the cubic and 8-tap interpolators and the
coefficient table.
-/
namespace Sys2Proof.Machine
open Sys2Proof

/-- The value at sample `j` of a 32-sample ramp from `a` to `b` (R118, R124). -/
def ramp32 (a b : Int) (j : Nat) : Int := a + rneShift 5 ((b - a) * ((j : Int) + 1))

/-- An AUD32 value and whether it had to be saturated. -/
def aud32 (v : Int) : Int × Bool := (satS 32 v, decide (satS 32 v ≠ v))

/-! ### The coefficient table (R122) -/

/-- Terms of the series of the modified Bessel function I0, with `q` the square of half the argument. -/
def besselSeries (q : Int) : Nat → Nat → Int → Int
  | 0, _, t => t
  | n + 1, i, t => t + besselSeries q n (i + 1) (fxMul t q / (((i : Int) + 1) * ((i : Int) + 1)))

/-- I0(6 √(1 - (v/4)^2)) for v = a / 256. -/
def kaiser (a : Int) : Int := besselSeries (9 * (2 ^ 20 - a * a) * 2 ^ fxBits / 2 ^ 20) 70 0 (2 ^ fxBits)

/-- sinc(a / 256). -/
def sinc256 (a : Int) : Int :=
  if a = 0 then 2 ^ fxBits
  else
    let q := a / 256
    let r := a % 256
    let s := if r = 0 then 0 else fxSin (fxPi * r / 256)
    let sg := if q % 2 = 0 then s else -s
    sg * 2 ^ fxBits * 256 / (fxPi * a)

/-- The windowed sinc h at v = a / 256, but for the factor 1 / I0(6) that the table's quotient cancels. -/
def hWin (a : Int) : Int := if 1024 ≤ a.natAbs then 0 else fxMul (sinc256 a) (kaiser a)

/-- The taps m = -3 to 4. -/
def taps8 : List Int := [-3, -2, -1, 0, 1, 2, 3, 4]

/-- cf[p][m] in units of 2^-22 (R122). -/
def cfTable (p : Nat) (m : Int) : Int :=
  let den := (taps8.map (fun i => hWin (256 * i - p))).sum
  rneDiv (2 ^ 22 * hWin (256 * m - p)) den.toNat

/-! ### Interpolation (R119 to R121, R123) -/

/-- The ceiling and the fraction of a delay in units of 2^-16 sample (R119). -/
def delaySplit (d : Nat) : Nat × Nat := ((d + 65535) / 65536, (65536 - d % 65536) % 65536)

/-- The exact numerator of the cubic interpolation (R120). -/
def cubicNum (m x0 x1 x2 x3 : Int) : Int :=
  x1 * 2 ^ 49 + m * (x2 - x0) * 2 ^ 32 + m ^ 2 * (2 * x0 - 5 * x1 + 4 * x2 - x3) * 2 ^ 16 +
    m ^ 3 * (3 * x1 - 3 * x2 + x3 - x0)

/-- The cubic value at sample `t` and delay `d`, from history `x` (R119, R120). -/
def cubicAt (x : Int → Int) (t : Int) (d : Nat) : Int × Bool :=
  let c := delaySplit d
  let k := t - c.1
  if c.2 = 0 then (x k, false)
  else aud32 (rneShift 49 (cubicNum c.2 (x (k - 1)) (x k) (x (k + 1)) (x (k + 2))))

/-- The exact coefficient cc(m) in units of 2^-30 (R121). -/
def tapCoef (p f : Nat) (m : Int) : Int := 256 * cfTable p m + (cfTable (p + 1) m - cfTable p m) * f

/-- The 8-tap value at sample `t` and delay `d` (R119, R121). -/
def tap8At (x : Int → Int) (t : Int) (d : Nat) : Int × Bool :=
  let c := delaySplit d
  let k := t - c.1
  if c.2 = 0 then (x k, false)
  else aud32 (rneShift 30 ((taps8.map (fun m => tapCoef (c.2 / 256) (c.2 % 256) m * x (k + m))).sum))

/-- The value of a hop pair at sample `j` of the block that begins at `t0` (R123). -/
def hopAt (x : Int → Int) (t0 : Int) (j ds de : Nat) : Int × Bool :=
  let o := cubicAt x (t0 + j) ds
  let n := cubicAt x (t0 + j) de
  (rneShift 5 (o.1 * (31 - (j : Int)) + n.1 * ((j : Int) + 1)), o.2 || n.2)

/-- The value of a pair of a mode (0 cubic glide, 1 8-tap glide, 2 hop) at sample `j` (R118, R123). -/
def pairAt (x : Int → Int) (mode : Nat) (t0 : Int) (j ds de : Nat) : Int × Bool :=
  if mode = 2 then hopAt x t0 j ds de
  else
    let d := (ramp32 ds de j).toNat
    if mode = 1 then tap8At x (t0 + j) d else cubicAt x (t0 + j) d

end Sys2Proof.Machine
end

