-- ==== Sys2Proof/Machine/Stages.lean ====
section
/-!
DEFINITION. The sample-by-sample stages that objects, feeds, buses and egress channels share (R143 to R148, R154, R155,
R161): stepped gains, mute factors, biquads, the limiter and the silence detectors. Each run answers its outputs, its
state after the block, and whether it saturated.
-/
namespace Sys2Proof.Machine
open Sys2Proof

/-- A stepped gain takes the value in force at sample `s` and steps (R144); the gain applies from `s` itself. -/
def ZcGain.step (g : ZcGain) (s : Nat) (v x : Int) (stp timeout : Nat) : ZcGain :=
  let g1 : ZcGain := if v = g.t then g else { g with w := if g.c = g.t then s else g.w, t := v }
  let g2 : ZcGain :=
    if g1.c = g1.t then g1
    else
      let cross := x == 0 || (decide (0 < x) && decide (g1.p < 0)) || (decide (x < 0) && decide (0 < g1.p))
      if cross || s == g1.w + timeout then
        let d := min stp (g1.t - g1.c).natAbs
        { g1 with c := if g1.c < g1.t then g1.c + d else g1.c - d, w := s + 1 }
      else g1
  { g2 with p := x }

/-- A run of a stepped gain over inputs from sample `s`; `v`, `stp` and `timeout` are the settings in force at a
sample. -/
def zcRun (v : Nat → Int) (stp timeout : Nat → Nat) : Nat → ZcGain → List Int → List Int × ZcGain × Bool
  | _, g, [] => ([], g, false)
  | s, g, x :: xs =>
    let g1 := g.step s (v s) x (stp s) (timeout s)
    let y := aud32' (rneShift 27 (x * lin32 g1.c))
    let r := zcRun v stp timeout (s + 1) g1 xs
    (y.1 :: r.1, r.2.1, y.2 || r.2.2)
where
  /-- Saturation to AUD32 with its flag. -/
  aud32' (v : Int) : Int × Bool := (satS 32 v, decide (satS 32 v ≠ v))

/-- The gain state at the first sample of a RENDER: current gain and target at the value in force (R551). -/
def zcInit (g : Option ZcGain) (v : Int) (s : Nat) : ZcGain := g.getD ⟨v, v, s, 0⟩

/-- A mute and polarity factor at sample `j` of a block that takes it from `f0` to `f1` (R146). -/
def factorAt (f0 f1 : Int) (j : Nat) (x : Int) : Int :=
  satS 32 (rneShift 5 (x * (32 * f0 + (f1 - f0) * ((j : Int) + 1))))

/-- A run of a mute and polarity factor over a block, from sample `j`. -/
def factorRun (f0 f1 : Int) : Nat → List Int → List Int
  | _, [] => []
  | j, x :: xs => factorAt f0 f1 j x :: factorRun f0 f1 (j + 1) xs

/-- The coefficients of a biquad section, in units of 2^-28. -/
structure BqCoef where
  b0 : Int
  b1 : Int
  b2 : Int
  a1 : Int
  a2 : Int
deriving DecidableEq, Repr

/-- One sample of a biquad (R147). -/
def Biquad.step (k : BqCoef) (st : Biquad) (x : Int) : Int × Biquad × Bool :=
  let v := rneShift 28 (k.b0 * x + k.b1 * st.x1 + k.b2 * st.x2 - k.a1 * st.y1 - k.a2 * st.y2)
  let y := satS 32 v
  (y, ⟨x, st.x1, y, st.y1⟩, decide (y ≠ v))

/-- A run of a biquad over a block. -/
def bqRun (k : BqCoef) : Biquad → List Int → List Int × Biquad × Bool
  | st, [] => ([], st, false)
  | st, x :: xs =>
    let r := st.step k x
    let q := bqRun k r.2.1 xs
    (r.1 :: q.1, q.2.1, r.2.2 || q.2.2)

/-- A chain of biquads over a block; section `b` has coefficients `k b`. -/
def bqChain (k : Nat → BqCoef) : Nat → List Biquad → List Int → List Int × List Biquad × Bool
  | _, [], xs => (xs, [], false)
  | b, st :: l, xs =>
    let r := bqRun (k b) st xs
    let q := bqChain k (b + 1) l r.1
    (q.1, r.2.1 :: q.2.1, r.2.2 || q.2.2)

/-- A silence detector over a block: its counter, limited to the hold count, and the state at the block's end (R161). -/
def Silence.run (d : Silence) (thr : Int) (hold : Nat) (xs : List Int) : Silence :=
  let c := xs.foldl (fun c x => if (x.natAbs : Int) < thr then min (c + 1) hold else 0) (min d.c hold)
  ⟨c, c == hold⟩

/-- A zero run after a block (R113, R150). -/
def zeroRun (z cap : Nat) (xs : List Int) : Nat :=
  xs.foldl (fun z x => if x = 0 then min (z + 1) cap else 0) z

/-- The session note of a change of silence (R162): from the unit the front end reads. -/
def State.silenceNote (s : State) (u : UnitId) (idx elem n : Nat) (was now : Bool) : State :=
  if was = now ∨ s.arb.source ≠ u then s
  else s.notify (if now then 5 else 6) (dkey idx 5 elem) n []

end Sys2Proof.Machine
end

