-- ==== Sys2Proof/Machine/Silt.lean ====
section
/-!
DEFINITION. The ingress aligner and the matrix render array (chapter 04, R108 to R134): preprocessing and the history
commit, the pair-law units, and the lanes.
-/
namespace Sys2Proof.Machine
open Sys2Proof

/-- SILT_STAT. -/
def siltStat : Nat := 0x20000004

/-- Sticky bits of SILT_STAT; FIRST_TILE keeps the tile of the first residue or uncorrectable error (R137). -/
def State.siltSet (s : State) (u : UnitId) (t mask : Nat) : State :=
  let r := s.reg (.unit u) siltStat
  let s1 := if r % 4 = 0 ∧ mask % 4 ≠ 0 then s.setReg (.unit u) siltStat ((r &&& 0xFFFFC0FF) + 256 * t) else s
  s1.setStat (.unit u) siltStat mask

/-- SILT_CTRL.CNT_HOLD (R136). -/
def State.siltHold (s : State) (u : UnitId) : Bool := natBit (s.reg (.unit u) 0x20000000) 1

/-- Corrected errors of the array (R132). -/
def State.siltCe (s : State) (u : UnitId) (n : Nat) : State :=
  if n = 0 then s
  else
    let s1 := if s.siltHold u then s else s.countReg (.unit u) 0x20000010 n
    (s1.siltSet u 0 32).ceHealth u n

/-- A residue mismatch in a tile (R131, R138, R139). -/
def State.siltRes (s : State) (u : UnitId) (t n : Nat) : State :=
  let a := 0x2000100C + 16 * t
  let r := s.reg (.unit u) a
  let s1 := if s.siltHold u then s
    else (s.countReg (.unit u) 0x20000014 1).setReg (.unit u) a (r / 65536 * 65536 + min 65535 (r % 65536 + 1))
  ((s1.siltSet u t 1).countFe 0xE100 4 (64 * u.toNat + t) 1).blockFault u n 0

/-- An uncorrectable error in a tile's pair memory or in a history read of its lanes (R132, R138). -/
def State.siltUe (s : State) (u : UnitId) (t n : Nat) : State :=
  ((s.setStat (.unit u) (0x2000100C + 16 * t) 65536).siltSet u t 2).blockFault u n 1

/-! ### The ingress aligner (R80, R111, R113) -/

/-- The coefficients of an object's biquad at sample `x` (R79). -/
def objCoef (r : Render) (o x b : Nat) : BqCoef :=
  ⟨r.i 0x4000 (0x10 + 5 * b) o x, r.i 0x4000 (0x11 + 5 * b) o x, r.i 0x4000 (0x12 + 5 * b) o x,
    r.i 0x4000 (0x13 + 5 * b) o x, r.i 0x4000 (0x14 + 5 * b) o x⟩

/-- The samples of a slot in an input block. -/
def InBlock.slot (b : InBlock) (k : Nat) : List Int := (List.range 32).map (fun j => agetD b.vals (32 * k + j) 0)

/-- Words written into a ring of `size` words with key base `base`, from sample `s`. -/
def ringPut (m : Assoc Int) (base size s : Nat) : List Int → Assoc Int
  | [] => m
  | x :: xs => ringPut (aputD m (base + s % size) x 0) base size (s + 1) xs

/-- Preprocessing and commit of one object's samples of block `n` (R80, R111, R113). -/
def Render.commitObj (r : Render) (b : InBlock) (o : Nat) : Render :=
  let x0 := 32 * b.block
  let st := r.obj o
  let v := fun s => r.i 0x4000 0xD o s
  let t := zcRun v (fun s => r.n 0x6F00 1 0 s) (fun s => r.n 0x6F00 2 0 s) x0 (zcInit st.trim (v x0) x0) (b.slot o)
  let q := bqChain (objCoef r o x0) 0 st.bq t.1
  let sil := st.sil.run (thr24 (r.i 0x6610 1 o x0)) (r.n 0x6610 2 o x0) q.1
  { r.setObj o { st with trim := some t.2.1, bq := q.2.1, sil := sil, zrun := zeroRun st.zrun 8192 q.1 } with
    hist := ringPut r.hist (8192 * o) 8192 x0 q.1 }

/-- Every object of a list. -/
def Render.commitAll (r : Render) (b : InBlock) : List Nat → Render
  | [] => r
  | o :: l => (r.commitObj b o).commitAll b l

/-- The aux inputs of a block enter the aux rings (R17). -/
def Render.commitAux (r : Render) (b : InBlock) : List Nat → Render
  | [] => r
  | a :: l => { r with aux := ringPut r.aux (1024 * a) 1024 (32 * b.block) (b.slot (1024 + a)) }.commitAux b l

/-- The notes of objects whose silence changed between two states of the render path. -/
def State.objSilNotes (s : State) (u : UnitId) (n : Nat) (old new : Render) : List Nat → State
  | [] => s
  | o :: l => (s.silenceNote u 0x6610 o n (old.obj o).sil.silent (new.obj o).sil.silent).objSilNotes u n old new l

/-- HISTORY_COMMIT: once the readers of the previous block are done and the block has been delivered, each object's
samples are preprocessed and committed (R111, R113); `ce` and `ue` are the ECC findings of the commit (R132). -/
def execHistoryCommit (u : UnitId) (ce : Nat) (ue : Bool) (s : State) : Host.Outcome State Fault Refusal :=
  let r := (s.unit u).rd
  let n := r.commit
  match r.inq.find? (fun b => b.block == n) with
  | none => .next s
  | some b =>
    if ¬ s.unitRuns u ∨ r.chain < n ∨ s.tb.sidx < 32 * (n + s.arb.lat - 1) then .next s
    else
      let r1 := (r.commitAll b (List.range 1024)).commitAux b (List.range 256)
      let r2 := { r1 with commit := n + 1, inq := r1.inq.filter (fun q => decide (n < q.block)) }
      let s1 := (s.onRd u (fun _ => r2)).objSilNotes u n r r2 (List.range 1024)
      let s2 := s1.siltCe u ce
      .next (if ue then (s2.siltSet u 0 2).blockFault u n 1 else s2)

/-! ### The pair-law units (R96 to R102, R116, R129) -/

/-- The window of an interpolation mode (R98). -/
def windowLo (mode : Nat) : Nat := if mode = 1 then 0x30001 else 0x10001
/-- The upper end of the window (R98). -/
def windowHi (mode : Nat) : Nat := if mode = 1 then 0x1FDD0000 else 0x1FDF0000

/-- A composed target brought into the window; `start` is the start delay of a glide series, `none` where the series is
constant. The answer says whether it was changed (R98). -/
def clampEnd (mode : Nat) (t : Int) (start : Option Nat) : Nat × Bool :=
  if windowHi mode < t then (windowHi mode, true)
  else if windowLo mode ≤ t then (t.toNat, false)
  else if 0 ≤ t ∧ t % 65536 = 0 ∧ (start = none ∨ start = some t.toNat) then (t.toNat, false)
  else (windowLo mode, true)

/-- A start delay brought into the window for an end delay `e` (R98). -/
def clampStart (mode : Nat) (st e : Nat) : Nat × Bool :=
  if windowHi mode < st then (windowHi mode, true)
  else if windowLo mode ≤ st then (st, false)
  else if st % 65536 = 0 ∧ (mode = 2 ∨ st = e) then (st, false)
  else (windowLo mode, true)

/-- The end delay of a glide within 16 samples of its start (R99). -/
def slopeLimit (st e : Nat) : Nat × Bool :=
  if st + 1048576 < e then (st + 1048576, true)
  else if e + 1048576 < st then (st - 1048576, true)
  else (e, false)

/-- Slot 0 or 1 of a record written: delay and gain. -/
def PairRec.put (p : PairRec) (slot d : Nat) (g : Int) : PairRec :=
  if slot = 0 then { p with d0 := d, g0 := g } else { p with d1 := d, g1 := g }

/-- The delay of a slot. -/
def PairRec.delay (p : PairRec) (slot : Nat) : Nat := if slot = 0 then p.d0 else p.d1
/-- The gain of a slot. -/
def PairRec.gain (p : PairRec) (slot : Nat) : Int := if slot = 0 then p.g0 else p.g1

/-- The update of a record for block `m` (R116): `formed` with its gain and delay target, or not formed. -/
def PairRec.update (p : PairRec) (m mode : Nat) (formed : Option (Int × Int)) : PairRec :=
  let e := m % 2
  let b := 1 - e
  let q : PairRec := if p.release then { p with valid := false, new := false, release := false } else p
  match formed with
  | some (g, t) =>
    if q.valid = false then
      let d := clampEnd mode t none
      { (q.put b d.1 0).put e d.1 g with
        valid := true, new := true, release := false, clamp := d.2, slope := false, mode := mode }
    else
      let st0 := q.delay b
      let d := clampEnd mode t (if mode = 2 then none else some st0)
      let st := clampStart mode st0 d.1
      let lim := if mode = 2 then (d.1, false) else slopeLimit st.1 d.1
      { (q.put b st.1 (q.gain b)).put e lim.1 g with
        new := false, clamp := d.2 || st.2, slope := lim.2, mode := mode }
  | none =>
    if q.valid then
      let st := clampStart mode (q.delay b) (q.delay b)
      { (q.put b st.1 (q.gain b)).put e st.1 0 with
        release := true, new := false, clamp := st.2, slope := false, mode := mode }
    else { q with clamp := false, slope := false }

/-- MODE of an object's pairs at sample `x` (R115). -/
def pairMode (r : Render) (o x : Nat) : Nat :=
  if r.n 0x4000 6 o x = 1 then 2 else if r.n 0x4000 5 o x = 1 then 1 else 0

/-- The feed of a record of a tile. -/
def recFeed (t rec : Nat) : Nat := 16 * t + rec / 1024
/-- The object of a record. -/
def recObj (rec : Nat) : Nat := rec % 1024

/-- A tile's state. -/
def Render.tile (r : Render) (t : Nat) : Tile := agetD r.tiles t {}
/-- A pair record. -/
def Render.pair (r : Render) (t rec : Nat) : PairRec := agetD r.pairs (16384 * t + rec) {}
/-- A law record of block `m`. -/
def Render.law (r : Render) (m o : Nat) : LawRec := agetD r.laws (1024 * (m % 4) + o) {}

/-- Records of a tile from a position on. -/
def recsFrom (p : Nat) : List Nat := (List.range (16384 - p)).map (· + p)

/-- The next record that the pair-law unit handles for block `m`: one whose pair exists or is formed. -/
def Render.nextLaw (r : Render) (t m : Nat) : Option Nat :=
  (recsFrom (r.tile t).lawPos).find? (fun k =>
    (r.pair t k).valid || pairFormed r (r.law m (recObj k)) (recFeed t k))

/-- The pair-law unit of a tile has written the targets of block `m`. -/
def Render.lawsDone (r : Render) (t m : Nat) : Bool :=
  let q := r.tile t
  decide (m < q.lawBlk) || (q.lawBlk == m && decide (m < r.lawBlk) && (r.nextLaw t m).isNone)

/-- Every pair-law unit has written the targets of the blocks whose law records are out. -/
def Render.lawsTaken (r : Render) : Bool := r.lawBlk == 0 || (List.range 64).all (fun t => r.lawsDone t (r.lawBlk - 1))

/-- A tile's pair-law unit goes on to block `n`; the counts of the block before it are kept (R116, R135). -/
def Tile.rollTo (q : Tile) (n : Nat) : Tile :=
  if n ≤ q.lawBlk then q
  else
    { q with
      lawBlk := n, lawPos := 0, clampPrev := if q.lawBlk + 1 = n then q.clamp else 0
      slopePrev := if q.lawBlk + 1 = n then q.slope else 0, clamp := 0, slope := 0 }

/-- Every tile's pair-law unit goes on to block `n`. -/
def Render.rollTiles (r : Render) (n : Nat) : Render :=
  { r with tiles := (List.range 64).foldl (fun m t => aput m t ((r.tile t).rollTo n)) r.tiles }

/-- LAW_RECORD_BROADCAST: the law records of the unit's next block, at most one block ahead of its lanes, once the pair-law
units have taken those of the block before it (R85, R87, R116). -/
def execLawRecordBroadcast (u : UnitId) (s : State) : Host.Outcome State Fault Refusal :=
  let r := (s.unit u).rd
  if ¬ s.unitRuns u ∨ r.chain + 1 < r.lawBlk ∨ r.lawsTaken = false then .next s
  else .next (s.onRd u (fun r => (r.broadcast r.lawBlk).rollTiles r.lawBlk))

/-- The tile ready for the next block's targets once those of the present one are written. -/
def Render.rollLaw (r : Render) (t : Nat) : Render :=
  let q := r.tile t
  if r.lawsDone t q.lawBlk ∧ q.lawBlk < r.lawBlk - 1 then
    { r with tiles := aput r.tiles t (q.rollTo (q.lawBlk + 1)) }
  else r

/-- An object's clamp and slope status after one of its pairs was updated for block `m` (R81, R129, R130). -/
def ObjState.pairFlags (x : ObjState) (m : Nat) (cl sl : Bool) : ObjState :=
  let x1 := if cl then
      { x with
        status := x.status ||| 0x10, clampBlk := m + 1
        clampCount := if x.clampBlk = m + 1 then x.clampCount else min 0xFFFFFFFF (x.clampCount + 1) }
    else x
  if sl then
    { x1 with
      status := x1.status ||| 0x20, slopeBlk := m + 1
      slopeCount := if x1.slopeBlk = m + 1 then x1.slopeCount else min 0xFFFFFFFF (x1.slopeCount + 1) }
  else x1

/-- One record updated for block `m`, with the counts of its tile and object. -/
def Render.updatePair (r : Render) (rate t m k : Nat) : Render :=
  let o := recObj k
  let f := recFeed t k
  let rec_ := r.law m o
  let formed := if pairFormed r rec_ f then some (pairTarget r rec_ o f, composedDelay r rate rec_ o f) else none
  let p := (r.pair t k).update m (pairMode r o (32 * m)) formed
  let q := r.tile t
  let r1 := r.setObj o ((r.obj o).pairFlags m p.clamp p.slope)
  { r1 with
    pairs := aputD r1.pairs (16384 * t + k) p {}
    tiles := aput r1.tiles t { q with
      lawPos := k + 1
      clamp := q.clamp + if p.valid && p.clamp then 1 else 0
      slope := q.slope + if p.valid && p.slope then 1 else 0 } }

/-- What the checks found in a tile while block `n` was worked on (R131, R132). -/
def State.pairChecks (s : State) (u : UnitId) (t n : Nat) (c : PairCheck) : State :=
  let s1 := s.siltCe u c.ce
  let s2 := if c.res then s1.siltRes u t n else s1
  if c.pairUe || !c.histUe.isEmpty then s2.siltUe u t n else s2

/-- A pair record that proves uncorrectable is treated as empty (R132). -/
def Render.dropPair (r : Render) (t k : Nat) : Render :=
  { r with pairs := aputD r.pairs (16384 * t + k) { r.pair t k with valid := false, new := false, release := false } {} }

/-- PAIR_LAW_UPDATE: the pair-law unit of a tile updates its next record for the next block, once the lane that holds the
pair has finished it (R116); it reads no history. -/
def execPairLawUpdate (u : UnitId) (t : Nat) (c : PairCheck) (s : State) : Host.Outcome State Fault Refusal :=
  if ¬ s.unitRuns u ∨ 64 ≤ t then .next s
  else
    let r := (s.unit u).rd.rollLaw t
    let m := (r.tile t).lawBlk
    match r.nextLaw t m with
    | none => .next (s.onRd u (fun _ => r))
    | some k =>
      if r.lawBlk ≤ m ∨ (m ≠ r.chain ∧ (r.pair t k).valid ∧ (r.tile t).pos ≤ k) then .next s
      else
        let r1 := if c.pairUe then r.dropPair t k else r
        .next ((s.onRd u (fun _ => r1.updatePair s.rate t m k)).pairChecks u t m { c with histUe := [] })

/-! ### The lanes (R109, R118 to R128) -/

/-- The history of an object as its taps read it while block `n` is rendered: the ring word, exact zero for an
uncorrectable one. -/
def Render.tap (r : Render) (o : Nat) (ue : List Nat) (s : Int) : Int :=
  if ue.any (fun k => s == (k : Int)) then 0 else agetD r.hist (8192 * o + (s % 8192).toNat) 0

/-- The largest delay that a pair uses in a block, over both taps of a hop pair; the delays of a glide lie between those of
its first and last samples (R118, R123, R128). -/
def pairReach (mode ds de : Nat) : Nat :=
  if mode = 2 then max ds de else max (ramp32 ds de 0).toNat (ramp32 ds de 31).toNat

/-- A pair is skipped: every tap it reads is an exact zero (R128). -/
def pairSkips (zrun mode ds de : Nat) : Bool :=
  decide (32 + (pairReach mode ds de + 65535) / 65536 + (if mode = 1 then 3 else 1) ≤ zrun)

/-- An amount added to an accumulator. -/
def accAdd (m : Assoc Int) (k : Nat) (v : Int) : Assoc Int := aputD m k (agetD m k 0 + v) 0

/-- A pair's 32 products enter its feed's accumulator (R124, R125); the answer says whether an interpolation
saturated. -/
def Render.renderPair (r : Render) (p : PairRec) (n o f : Nat) (ue : List Nat) : Render × Bool :=
  let e := n % 2
  let ys := (List.range 32).map (fun j => pairAt (r.tap o ue) p.mode (32 * n) j (p.delay (1 - e)) (p.delay e))
  let acc := (List.range 32).foldl (fun m j =>
    accAdd m (32 * (1024 * (n % 4) + f) + j) ((ys.getD j (0, false)).1 * ramp32 (p.gain (1 - e)) (p.gain e) j)) r.acc
  ({ r with acc := acc }, ys.any (·.2))

/-- The record already holds targets of the block after the one that the lanes render; a pair that is new there is no work
for them yet (R116). -/
def Render.aheadRec (r : Render) (t k : Nat) : Bool := (r.tile t).lawBlk == r.chain + 1 && decide (k < (r.tile t).lawPos)

/-- The next record that the lanes of a tile take: the next pair that exists in the block they render. -/
def Render.nextPair (r : Render) (t : Nat) : Option Nat :=
  (recsFrom (r.tile t).pos).find? (fun k => (r.pair t k).valid && !r.aheadRec t k)

/-- Every lane of a tile has finished the block in progress. -/
def Render.tileDone (r : Render) (t : Nat) : Bool := r.lawsDone t r.chain && (r.nextPair t).isNone

/-- The lane skips record `k` of a tile in block `n` (R128, R136). -/
def Render.laneSkip (r : Render) (skipEn : Bool) (t n k : Nat) (c : PairCheck) : Bool :=
  let p := r.pair t k
  skipEn && !c.pairUe && pairSkips (r.obj (recObj k)).zrun p.mode (p.delay (1 - n % 2)) (p.delay (n % 2))

/-- The lane's work on record `k` of a tile in block `n`: skipped, dropped or rendered. -/
def Render.lanePair (r : Render) (skipEn : Bool) (t n k : Nat) (c : PairCheck) : Render × Bool :=
  let p := r.pair t k
  let o := recObj k
  let q := r.tile t
  let skip := r.laneSkip skipEn t n k c
  let r0 := { r with tiles := aput r.tiles t { q with
    pos := k + 1, unitsNow := q.unitsNow + (if p.mode = 0 then 1 else 2), skipNow := q.skipNow + if skip then 1 else 0 } }
  if c.pairUe then (r0.dropPair t k, false)
  else
    let r1 := { r0 with pairs := aputD r0.pairs (16384 * t + k) { p with skipped := skip } {} }
    if skip then (r1, false) else r1.renderPair p n o (recFeed t k) c.histUe

/-- LANE_PAIR_RENDER: a lane of a tile takes the next valid record and renders its 32 samples (R109); a pair that it skips reads no
history. -/
def execLanePairRender (u : UnitId) (t : Nat) (c : PairCheck) (s : State) : Host.Outcome State Fault Refusal :=
  let r := (s.unit u).rd
  let n := r.chain
  if ¬ s.unitRuns u ∨ 64 ≤ t ∨ r.commit ≤ n ∨ r.lawsDone t n = false then .next s
  else
    match r.nextPair t with
    | none => .next s
    | some k =>
      let en := natBit (s.reg (.unit u) 0x20000000) 0
      let q := r.lanePair en t n k c
      let s1 := (s.onRd u (fun _ => q.1)).pairChecks u t n (if r.laneSkip en t n k c then { c with histUe := [] } else c)
      .next (if q.2 then s1.siltSet u t 16 else s1)

end Sys2Proof.Machine
end

