-- ==== Sys2Proof/Machine/Novil.lean ====
section
/-!
DEFINITION. The Novil engines (chapter 08): jobs and their deadlines, local memories and addressing, the instruction
issue with its budget, loops and faults, the windows, and one meaning per instruction.
-/
namespace Sys2Proof.Machine
open Sys2Proof

/-! ### Access to the engines -/

/-- An engine of a unit. -/
def NovilArray.engine (v : NovilArray) (e : Nat) : Novil := agetD v.eng e {}

/-- The array with an engine replaced. -/
def NovilArray.setEngine (v : NovilArray) (e : Nat) (x : Novil) : NovilArray := { v with eng := aputD v.eng e x {} }

/-- The state with a unit's Novil part changed. -/
def State.onNv (s : State) (u : UnitId) (f : NovilArray → NovilArray) : State :=
  s.onUnit u (fun r => { r with nv := f r.nv })

/-- The image in slot k (0x8000:01). -/
def State.image (s : State) (k : Nat) : List Byte := (s.fe (dkey 0x8000 1 k)).toBytes

/-- The base of an engine's control block register (R273). -/
def nvReg (e off : Nat) : Nat := 0x20030000 + 0x1000 * e + off

/-- NV_CTRL.CNT_HOLD. -/
def State.nvHold (s : State) (u : UnitId) (e : Nat) : Bool := natBit (s.reg (.unit u) (nvReg e 0)) 0

/-- An ECC finding in an engine's memories (R247). -/
def State.nvEcc (s : State) (u : UnitId) (e n : Nat) (k : Ecc) : State :=
  match k with
  | .none => s
  | .ce =>
    let s1 := if s.nvHold u e then s else s.countReg (.unit u) (nvReg e 0x28) 1
    (s1.setStat (.unit u) (nvReg e 4) 16).ceHealth u 1
  | .ue => (s.setStat (.unit u) (nvReg e 4) 8).blockFault u n 1

/-- A word as ECC leaves it: exact zero where it is uncorrectable (R247). -/
def eccWord (k : Ecc) (w : Nat) : Nat := if k = .ue then 0 else w

/-! ### Local memory (R247 to R249) -/

/-- Words written from a key on; zero words are not listed. -/
def putWords (m : Assoc Nat) (k : Nat) : List Nat → Assoc Nat
  | [] => m
  | w :: l => putWords (aputD m k w 0) (k + 1) l

/-- A range of words zeroed. -/
def zeroWords (m : Assoc Nat) (k n : Nat) : Assoc Nat := m.filter (fun e => !(k ≤ e.1 && e.1 < k + n))

/-- The oldest outstanding transfer completes (R261). -/
def Novil.finishOne (x : Novil) : Novil :=
  match x.xfers with
  | [] => x
  | t :: l =>
    let y := { x with xfers := l }
    if t.inbound then
      if t.memY then { y with y := putWords y.y t.at_ t.words } else { y with x := putWords y.x t.at_ t.words }
    else y

/-- The oldest transfers complete, `k` of them. -/
def Novil.finish : Nat → Novil → Novil
  | 0, x => x
  | k + 1, x => Novil.finish k x.finishOne

/-- Every outstanding transfer completes. -/
def Novil.finishAll (x : Novil) : Novil := Novil.finish x.xfers.length x

/-- How many transfers must complete before a local word may be accessed: up to the last that still owes it. -/
def owedBy (memY : Bool) (w : Nat) : List NvXfer → Nat → Nat
  | [], _ => 0
  | t :: l, i =>
    let later := owedBy memY w l (i + 1)
    if later ≠ 0 then later
    else if t.inbound && t.memY == memY && decide (t.at_ ≤ w) && decide (w < t.at_ + t.words.length) then i + 1
    else 0

/-- An access to a local word waits for the transfers that owe it (R261). -/
def Novil.await (x : Novil) (memY : Bool) (w : Nat) : Novil := Novil.finish (owedBy memY w x.xfers 0) x

/-- A virtual word lies in a declared region of a memory, of a kind other than a given one. -/
def inRegion (rs : List NvRegion) (mem v : Nat) : Option NvRegion :=
  rs.find? (fun r => r.mem == mem && decide (r.start ≤ v) && decide (v < r.start + r.words))

/-- The physical word of a virtual address of X (0) or Y (1) (R248). -/
def NvJob.phys (j : NvJob) (mem v : Nat) : Nat :=
  if mem = 0 then (j.xBase + v) % 32768
  else if 0x7F00 ≤ v then v
  else (j.yBase + v) % 32768

/-- What an instruction needs beside the engine: its job, the job's regions and CODE_WORDS. -/
structure NvEnv where
  u : UnitId
  e : Nat
  job : NvJob
  rs : List NvRegion
  code : Nat
  op1 : Ecc
  op2 : Ecc
  /-- ECC's findings in the further words of a transfer, by their place in it. -/
  words : List (Nat × Ecc)
  /-- The instruction word, without the fields that its function does not use. -/
  word : Nat
  /-- The rows that a transfer activates (R490). -/
  rows : List (Option Nat)
deriving DecidableEq, Repr

/-- The flags left open by the instruction in progress (R203, R246). -/
def NvEnv.free (v : NvEnv) (x : Novil) : Nat := Config.nvFlags v.word x.d

/-- What ECC finds in word `i` of a transfer. -/
def NvEnv.eccOf (v : NvEnv) (i : Nat) : Ecc := if i = 0 then v.op2 else agetD v.words i .none

/-- The word of a memory (0 X, 1 Y, 2 P) at a pointer, or a REGION fault (R248); the engine has waited for it. -/
def Novil.read (v : NvEnv) (x : Novil) (mem p : Nat) : Except Nat (Nat × Novil) :=
  if mem = 2 then
    let a := p % 8192
    if a < v.code then .ok (agetD x.pmem (8192 * x.page + (v.job.pBase + a) % 8192) 0, x) else .error 4
  else
    let a := p % 32768
    if (mem = 1 ∧ 0x7F00 ≤ a) ∨ (inRegion v.rs mem a).isSome then
      let w := v.job.phys mem a
      let y := x.await (mem == 1) w
      .ok (agetD (if mem = 1 then y.y else y.x) w 0, y)
    else .error 4

/-- A store to X or Y; P memory, the parameter page, constant regions and undeclared words are REGION faults (R248,
R253). -/
def Novil.write (v : NvEnv) (x : Novil) (mem p w : Nat) : Except Nat Novil :=
  let a := p % 32768
  match (if 2 ≤ mem then none else inRegion v.rs mem a) with
  | none => .error 4
  | some r =>
    if r.kind = 0 then .error 4
    else
      let k := v.job.phys mem a
      let y := x.await (mem == 1) k
      .ok (if mem = 1 then { y with y := aputD y.y k w 0 } else { y with x := aputD y.x k w 0 })

/-- The post-update of pointer k (R249). -/
def Novil.bump (x : Novil) (k : Nat) : Novil :=
  let p : Int := (x.p.getD k 0 : Nat)
  let m := x.m.getD k 0
  let b : Int := (x.b.getD k 0 : Nat)
  let l := x.l.getD k 0
  let q := if l = 0 then p + m else b + (p - b + m) % (l : Int)
  { x with p := lset x.p k (toUnsigned 16 q) }

/-! ### Registers and flags (R245, R246) -/

/-- Data register k. -/
def Novil.dreg (x : Novil) (k : Nat) : Int := x.d.getD k 0

/-- The engine with a data register written. -/
def Novil.setD (x : Novil) (k : Nat) (v : Int) : Novil := { x with d := lset x.d k (wrapS 32 v) }

/-- The engine with flag bits of a mask replaced. -/
def Novil.setFl (x : Novil) (mask v : Nat) : Novil :=
  { x with fl := (x.fl &&& (0xFF ^^^ mask)) ||| (v &&& mask) }

/-- An accumulator result, exact modulo 2^72; a wrap sets AV (R251). -/
def Novil.setA (x : Novil) (k : Nat) (v : Int) : Novil :=
  let w := wrapS 72 v
  let y := { x with a := lset x.a k w }
  if w = v then y else y.setFl 32 32

/-- Whether a condition holds (R254). -/
def condHolds (fl cond : Nat) : Bool :=
  let z := natBit fl 0
  let n := natBit fl 1
  match cond with
  | 0 => true
  | 1 => z
  | 2 => !z
  | 3 => n
  | 4 => !n
  | 5 => !n && !z
  | 6 => n || z
  | 7 => natBit fl 2
  | 8 => !natBit fl 2
  | 9 => natBit fl 3
  | _ => !natBit fl 3

/-! ### Stops, faults and ends of jobs (R244, R264, R270, R271) -/

/-- The totals of an engine whose jobs have all ended in its block (R273): they become those of the last completed block. -/
def Novil.close (x : Novil) : Novil :=
  { x with
    slotsLast := x.slotsBlk, dmaLast := x.dmaBlk, winLast := x.winBlk, slotsPeak := max x.slotsPeak x.slotsBlk
    lastBlk := x.blk, blk := x.blk + 1, slotsBlk := 0, dmaBlk := 0, winBlk := 0 }

/-- The jobs of an engine. -/
def NovilArray.jobsOn (v : NovilArray) (e : Nat) : List NvJob := v.graph.filter (fun j => j.engine == e)

/-- The slots and report words of a job become those of the last completed block. -/
def NovilArray.publish (v : NovilArray) (j : NvJob) : NovilArray :=
  { v with
    slotsLast := aputD v.slotsLast j.id (agetD v.slotsNow j.id 0) 0
    report := (List.range 16).foldl (fun m k =>
      aputD m (16 * j.id + k) (agetD v.reportNow (16 * j.id + k) 0) 0) v.report }

/-- A job's engine closes its block once its last job has ended. -/
def NovilArray.closeEngine (v : NovilArray) (e : Nat) : NovilArray :=
  let x := v.engine e
  if (v.jobsOn e).all (fun j => decide (x.blk < agetD v.ended j.id 0)) then
    ((v.jobsOn e).foldl NovilArray.publish v).setEngine e x.close
  else v

/-- A job has ended: its transfers are complete and its engine is free (R261, R264). -/
def NovilArray.endJob (v : NovilArray) (e : Nat) (j : NvJob) (x : Novil) : NovilArray :=
  let y := x.finishAll
  let v1 := v.setEngine e { y with
    job := none, loops := [], stack := []
    slotsBlk := y.slotsBlk + y.slots, dmaBlk := y.dmaBlk + y.dma, winBlk := y.winBlk + y.win }
  { v1 with ended := aputD v1.ended j.id (y.blk + 1) 0, slotsNow := aputD v1.slotsNow j.id y.slots 0 }.closeEngine e

/-- The job's end in a unit, with the Sieve's flow state (R513). -/
def State.nvEndJob (s : State) (u : UnitId) (e : Nat) (j : NvJob) (x : Novil) : State :=
  let s1 := s.onNv u (fun v => v.endJob e j x)
  if j.flow = 0 then s1
  else s1.onUnit u (fun r => { r with sv := { r.sv with flowEnded := aput r.sv.flowEnded j.flow j.id } })

/-- The registers and entries of a stop (cause 1) or a fault (causes 2 to 7) at a program counter (R271, R273, R274). -/
def State.nvCause (s : State) (u : UnitId) (e cause pc n : Nat) (j : NvJob) : State :=
  let st := s.reg (.unit u) (nvReg e 4)
  let s1 := if st % 4 = 0 then s.setReg (.unit u) (nvReg e 0x24) (j.id + 256 * cause + 4096 * (pc % 8192)) else s
  let s2 := if s1.nvHold u e then s1
    else s1.countReg (.unit u) (nvReg e (if cause = 1 then 0x1C else 0x20)) 1
  let s3 := s2.setStat (.unit u) (nvReg e 4) (if cause = 1 then 1 else 2)
  let v := (s.unit u).nv
  let first := agetD v.stops j.id 0 == 0 && agetD v.faults j.id 0 == 0
  let bump := fun (m : Assoc Nat) => aput m j.id (min 0xFFFFFFFF (agetD m j.id 0 + 1))
  let s4 := s3.onNv u (fun v => { v with
    stops := if cause = 1 then bump v.stops else v.stops
    faults := if cause = 1 then v.faults else bump v.faults
    lastFault := aput v.lastFault j.id (cause + 16 * (pc % 8192) + 2 ^ 17 * (n % 2 ^ 15)) })
  if first && s.arb.source == u then
    s4.notify 9 (dkey 0x8210 3 j.id) n (beBytes 1 j.id ++ beBytes 1 cause ++ beBytes 2 (pc % 8192))
  else s4

/-- A job stops at an instruction (R270). -/
def State.nvStop (s : State) (u : UnitId) (e cause : Nat) (j : NvJob) (x : Novil) : State :=
  (s.nvCause u e cause x.pc x.blk j).nvEndJob u e j x

/-! ### Loops (R256 to R258) -/

/-- The passes that end when control reaches a program counter: counters, loops and the next program counter (R257). -/
def passEnd : List NvLoop → List Nat → Nat → List NvLoop × List Nat × Nat
  | [], lc, pc => ([], lc, pc)
  | l :: ls, lc, pc =>
    if pc = l.last + 1 then
      let v := toUnsigned 16 ((lc.getD l.ctr 0 : Nat) - 1 : Int)
      let lc1 := lset lc l.ctr v
      if v ≠ 0 then (l :: ls, lc1, l.first) else passEnd ls lc1 pc
    else (l :: ls, lc, pc)

/-- The engine after the passes that end at its program counter. -/
def Novil.passes (x : Novil) : Novil :=
  let r := passEnd x.loops x.lc x.pc
  { x with loops := r.1, lc := r.2.1, pc := r.2.2 }

/-- An address lies in a loop body. -/
def NvLoop.has (l : NvLoop) (a : Nat) : Bool := l.first ≤ a && a ≤ l.last

/-- The loops that a taken branch from one address to another leaves active (R257). -/
def leaveLoops (frm to_ : Nat) : List NvLoop → List NvLoop
  | [] => []
  | l :: ls =>
    let rest := leaveLoops frm to_ ls
    if (l.has frm && !l.has to_) || rest.length ≠ ls.length then rest else l :: ls

/-- The engine executes from the loop buffer (R258). -/
def Novil.buffered (x : Novil) : Bool :=
  match x.loops with
  | l :: _ => l.last < l.first + 32 && l.has x.pc
  | [] => false

/-- A taken branch. -/
def Novil.goto (x : Novil) (frm to_ : Nat) : Novil := { x with pc := to_, loops := leaveLoops frm to_ x.loops }

/-! ### Issue -/

/-- An instruction without the fields that its function does not use. -/
def NvInsn.canon : NvInsn → NvInsn
  | .control fn cond lcs target =>
    if fn = 1 ∨ fn = 2 then .control fn cond 0 target
    else if fn = 4 then .control fn 0 lcs target
    else .control fn 0 0 0
  | .alu fn dd da db =>
    if fn = 10 ∨ fn = 11 then .alu fn dd da 0 else if fn = 14 then .alu fn 0 da db else .alu fn dd da db
  | .acc fn aa dd sh rm ab =>
    if fn = 0 then .acc fn aa dd sh rm 0
    else if fn = 2 ∨ fn = 3 then .acc fn aa 0 0 false ab
    else if fn = 4 then .acc fn aa dd sh false 0
    else if fn = 5 then .acc fn aa 0 sh rm 0
    else .acc fn aa 0 0 false 0
  | .mac fn m =>
    .mac fn { m with
      xp := if m.xe then m.xp else 0, xd := if m.xe then m.xd else 0
      yp := if m.ye then m.yp else 0, yd := if m.ye then m.yd else 0 }
  | i => i

/-- What an instruction does to the engine, and to the state outside it; a fault keeps what ECC found before it (R247). -/
abbrev NvRun := State → NvEnv → Novil → Except (State × Nat) (State × Novil)

/-- The slots an instruction costs (R256). -/
def NvInsn.cost (x : Novil) : NvInsn → Nat
  | .control fn cond _ _ =>
    if fn = 0 ∨ fn = 6 then 1
    else if fn = 1 then (if condHolds x.fl cond then 2 else 1)
    else 2
  | .dma _ => 2
  | _ => 1

/-- The static faults of an instruction: control transfers in the loop buffer, and PB outside it (R258). -/
def NvInsn.bufferFault (x : Novil) : NvInsn → Option Nat
  | .control fn _ _ _ => if x.buffered && decide (1 ≤ fn) && decide (fn ≤ 4) then some 3 else none
  | .mac _ m => if m.pb && !x.buffered then some 5 else none
  | _ => none

/-- What an instruction sees of its issue, its job and its image. -/
def issueEnv (c : NvIssue) (j : NvJob) (img : List Byte) (i : NvInsn) : NvEnv :=
  ⟨c.u, c.e, j, imgRegions img, imgCode img, c.op1, c.op2, c.words, nvEncode i.canon, c.rows⟩

/-- The engine issues an instruction: it is the one that the running job's code holds at the program counter, it fits the
budget, and it takes effect or faults (R253 to R258, R270). Where no job runs, or the code holds another instruction, the
event does not occur. -/
def State.nvIssue (s : State) (c : NvIssue) (i : NvInsn) (run : NvRun) : State :=
  let v := (s.unit c.u).nv
  let x := v.engine c.e
  match x.job.bind (fun id => v.graph.find? (fun j => j.id == id)) with
  | none => s
  | some j =>
    let img := s.image j.image
    let env := issueEnv c j img i
    if imgCode img ≤ x.pc then s.nvStop c.u c.e 4 j x
    else
      let s1 := s.nvEcc c.u c.e x.blk c.fetch
      match nvDecode (eccWord c.fetch (agetD x.pmem (8192 * x.page + (j.pBase + x.pc) % 8192) 0)) with
      | none => s1.nvStop c.u c.e 3 j x
      | some w =>
        if w.canon ≠ i.canon then s
        else if j.budget < x.slots + i.cost x then s1.nvStop c.u c.e 1 j x
        else
          match i.bufferFault x with
          | some f => s1.nvStop c.u c.e f j x
          | none =>
            match run s1 env { x with pc := x.pc + 1, slots := x.slots + i.cost x } with
            | .error (t, f) => t.nvStop c.u c.e f j x
            | .ok (s2, y) =>
              if i = .control 5 0 0 0 then s2.nvEndJob c.u c.e j y
              else s2.onNv c.u (fun v => v.setEngine c.e y.passes)

/-- An instruction whose effect lies in the engine alone. -/
def pureRun (f : NvEnv → Novil → Except Nat Novil) : NvRun :=
  fun s v x => match f v x with
    | .ok y => .ok (s, y)
    | .error k => .error (s, k)

/-! ### Control -/

/-- NOP (R254). -/
def execNvNop (c : NvIssue) (s : State) : Host.Outcome State Fault Refusal :=
  .next (s.nvIssue c (.control 0 0 0 0) (pureRun (fun _ x => .ok x)))

/-- BR: to TARGET where COND holds (R254, R257). -/
def execNvBr (c : NvIssue) (cond target : Nat) (s : State) : Host.Outcome State Fault Refusal :=
  .next (s.nvIssue c (.control 1 cond 0 target) (pureRun (fun _ x =>
    .ok (if condHolds x.fl cond then x.goto (x.pc - 1) target else x))))

/-- CALL: where COND holds, the return address is pushed and control goes to TARGET; a ninth nested call is a STACK fault
(R254, R256). -/
def execNvCall (c : NvIssue) (cond target : Nat) (s : State) : Host.Outcome State Fault Refusal :=
  .next (s.nvIssue c (.control 2 cond 0 target) (pureRun (fun _ x =>
    if condHolds x.fl cond then
      if 8 ≤ x.stack.length then .error 6
      else .ok { x.goto (x.pc - 1) target with stack := x.pc :: x.stack }
    else .ok x)))

/-- RET: to the address on top of the stack; an empty stack is a STACK fault (R256). -/
def execNvRet (c : NvIssue) (s : State) : Host.Outcome State Fault Refusal :=
  .next (s.nvIssue c (.control 3 0 0 0) (pureRun (fun _ x =>
    match x.stack with
    | [] => .error 6
    | a :: l => .ok { x with pc := a, stack := l })))

/-- LOOP: the body through TARGET runs LC_s times; a counter of 0 skips it (R257). -/
def execNvLoop (c : NvIssue) (lcs target : Nat) (s : State) : Host.Outcome State Fault Refusal :=
  .next (s.nvIssue c (.control 4 0 lcs target) (pureRun (fun _ x =>
    if target < x.pc ∨ x.loops.any (fun l => l.ctr == lcs) then .error 3
    else if x.lc.getD lcs 0 = 0 then .ok { x with pc := target + 1 }
    else .ok { x with loops := ⟨x.pc, target, lcs⟩ :: x.loops })))

/-- END: the job ends once its transfers are complete (R254, R261). -/
def execNvEnd (c : NvIssue) (s : State) : Host.Outcome State Fault Refusal :=
  .next (s.nvIssue c (.control 5 0 0 0) (pureRun (fun _ x => .ok x)))

/-- DMAW: every outstanding transfer of the job completes (R254). -/
def execNvDmaw (c : NvIssue) (s : State) : Host.Outcome State Fault Refusal :=
  .next (s.nvIssue c (.control 6 0 0 0) (pureRun (fun _ x => .ok x.finishAll)))

/-! ### ALU -/

/-- The flags of an ALU instruction: Z and N of its result; V where the spec defines it, and else V and C, as free values
(R246, R250, log entry 12). -/
def aluFlags (free : Nat) (r : Int) (v : Option Bool) : Nat :=
  bit01 (r == 0) + 2 * bit01 (decide (r < 0)) + 4 * (free % 2) + 8 * (match v with
    | some b => bit01 b
    | none => free / 2 % 2)

/-- An ALU instruction that writes DD: its result wraps to 32 bits, and its open flags are free. -/
def aluRun (dd : Nat) (f : Novil → Int × Option Bool) : NvRun := pureRun (fun v x =>
  let r := f x
  let w := wrapS 32 r.1
  .ok ((x.setD dd w).setFl 15 (aluFlags (v.free x) w r.2)))

/-- A comparison: flags of a difference that is not written; where the difference leaves the 32-bit range its N is free as
well (log entry 12). -/
def cmpRun (f : Novil → Int) : NvRun := pureRun (fun v x =>
  let d := f x
  let w := wrapS 32 d
  let fl := aluFlags (v.free x) w none
  let fl1 := if w = d then fl else fl - 2 * bit01 (decide (w < 0)) + 2 * (v.free x / 4 % 2)
  .ok (x.setFl 15 fl1))

/-- A saturated result and whether it saturated (R250). -/
def satV (r : Int) : Int × Option Bool := (satS 32 r, some (satS 32 r != r))

/-- The shift count of a register or an immediate: bits [5:0] (R250). -/
def shCount (v : Int) : Nat := toUnsigned 32 v % 64

/-- SHL, SHR and SHRL (R250). -/
def shlOf (a : Int) (k : Nat) : Int := if 32 ≤ k then 0 else wrapS 32 (a * 2 ^ k)
/-- An arithmetic right shift. -/
def shrOf (a : Int) (k : Nat) : Int := a / 2 ^ k
/-- A logical right shift. -/
def shrlOf (a : Int) (k : Nat) : Int := if 32 ≤ k then 0 else ((toUnsigned 32 a / 2 ^ k : Nat) : Int)

/-- A bitwise operation on two words. -/
def bitsOf (f : Nat → Nat → Nat) (a b : Int) : Int := ((f (toUnsigned 32 a) (toUnsigned 32 b) : Nat) : Int)

/-- ADD: the wrapping sum (R250). -/
def execNvAdd (c : NvIssue) (dd da db : Nat) (s : State) : Host.Outcome State Fault Refusal :=
  .next (s.nvIssue c (.alu 0 dd da db) (aluRun dd (fun x => (x.dreg da + x.dreg db, none))))

/-- SUB: the wrapping difference (R250). -/
def execNvSub (c : NvIssue) (dd da db : Nat) (s : State) : Host.Outcome State Fault Refusal :=
  .next (s.nvIssue c (.alu 1 dd da db) (aluRun dd (fun x => (x.dreg da - x.dreg db, none))))

/-- AND (R254). -/
def execNvAnd (c : NvIssue) (dd da db : Nat) (s : State) : Host.Outcome State Fault Refusal :=
  .next (s.nvIssue c (.alu 2 dd da db) (aluRun dd (fun x => (bitsOf (· &&& ·) (x.dreg da) (x.dreg db), none))))

/-- OR (R254). -/
def execNvOr (c : NvIssue) (dd da db : Nat) (s : State) : Host.Outcome State Fault Refusal :=
  .next (s.nvIssue c (.alu 3 dd da db) (aluRun dd (fun x => (bitsOf (· ||| ·) (x.dreg da) (x.dreg db), none))))

/-- XOR (R254). -/
def execNvXor (c : NvIssue) (dd da db : Nat) (s : State) : Host.Outcome State Fault Refusal :=
  .next (s.nvIssue c (.alu 4 dd da db) (aluRun dd (fun x => (bitsOf (· ^^^ ·) (x.dreg da) (x.dreg db), none))))

/-- SHL: 0 for counts of 32 or more (R250). -/
def execNvShl (c : NvIssue) (dd da db : Nat) (s : State) : Host.Outcome State Fault Refusal :=
  .next (s.nvIssue c (.alu 5 dd da db) (aluRun dd (fun x => (shlOf (x.dreg da) (shCount (x.dreg db)), none))))

/-- SHR: the sign fill for counts of 32 or more (R250). -/
def execNvShr (c : NvIssue) (dd da db : Nat) (s : State) : Host.Outcome State Fault Refusal :=
  .next (s.nvIssue c (.alu 6 dd da db) (aluRun dd (fun x => (shrOf (x.dreg da) (shCount (x.dreg db)), none))))

/-- SHRL: 0 for counts of 32 or more (R250). -/
def execNvShrl (c : NvIssue) (dd da db : Nat) (s : State) : Host.Outcome State Fault Refusal :=
  .next (s.nvIssue c (.alu 7 dd da db) (aluRun dd (fun x => (shrlOf (x.dreg da) (shCount (x.dreg db)), none))))

/-- MIN (R254). -/
def execNvMin (c : NvIssue) (dd da db : Nat) (s : State) : Host.Outcome State Fault Refusal :=
  .next (s.nvIssue c (.alu 8 dd da db) (aluRun dd (fun x => (min (x.dreg da) (x.dreg db), none))))

/-- MAX (R254). -/
def execNvMax (c : NvIssue) (dd da db : Nat) (s : State) : Host.Outcome State Fault Refusal :=
  .next (s.nvIssue c (.alu 9 dd da db) (aluRun dd (fun x => (max (x.dreg da) (x.dreg db), none))))

/-- ABS: 0x8000_0000 gives 0x7FFF_FFFF and sets V (R250). -/
def execNvAbs (c : NvIssue) (dd da : Nat) (s : State) : Host.Outcome State Fault Refusal :=
  .next (s.nvIssue c (.alu 10 dd da 0) (aluRun dd (fun x => satV ((x.dreg da).natAbs : Int))))

/-- NEG: 0x8000_0000 gives 0x7FFF_FFFF and sets V (R250). -/
def execNvNeg (c : NvIssue) (dd da : Nat) (s : State) : Host.Outcome State Fault Refusal :=
  .next (s.nvIssue c (.alu 11 dd da 0) (aluRun dd (fun x => satV (0 - x.dreg da))))

/-- ADDS: the saturating sum (R250). -/
def execNvAdds (c : NvIssue) (dd da db : Nat) (s : State) : Host.Outcome State Fault Refusal :=
  .next (s.nvIssue c (.alu 12 dd da db) (aluRun dd (fun x => satV (x.dreg da + x.dreg db))))

/-- SUBS: the saturating difference (R250). -/
def execNvSubs (c : NvIssue) (dd da db : Nat) (s : State) : Host.Outcome State Fault Refusal :=
  .next (s.nvIssue c (.alu 13 dd da db) (aluRun dd (fun x => satV (x.dreg da - x.dreg db))))

/-- CMP: flags of DA - DB (R254). -/
def execNvCmp (c : NvIssue) (da db : Nat) (s : State) : Host.Outcome State Fault Refusal :=
  .next (s.nvIssue c (.alu 14 0 da db) (cmpRun (fun x => x.dreg da - x.dreg db)))

/-- MUL: the low 32 bits of the product (R250). -/
def execNvMul (c : NvIssue) (dd da db : Nat) (s : State) : Host.Outcome State Fault Refusal :=
  .next (s.nvIssue c (.alu 15 dd da db) (aluRun dd (fun x => (x.dreg da * x.dreg db, none))))

/-- LDI: the sign-extended immediate (R254). -/
def execNvLdi (c : NvIssue) (dd v : Nat) (s : State) : Host.Outcome State Fault Refusal :=
  .next (s.nvIssue c (.imm 0 dd v) (aluRun dd (fun _ => (toSigned 16 v, none))))

/-- LDH: the upper half is set and the lower half stays (R254). -/
def execNvLdh (c : NvIssue) (dd v : Nat) (s : State) : Host.Outcome State Fault Refusal :=
  .next (s.nvIssue c (.imm 1 dd v) (aluRun dd (fun x =>
    (((65536 * v + toUnsigned 32 (x.dreg dd) % 65536 : Nat) : Int), none))))

/-- ADDI: the wrapping sum with the sign-extended immediate (R254). -/
def execNvAddi (c : NvIssue) (dd v : Nat) (s : State) : Host.Outcome State Fault Refusal :=
  .next (s.nvIssue c (.imm 2 dd v) (aluRun dd (fun x => (x.dreg dd + toSigned 16 v, none))))

/-- CMPI: flags of the comparison with the sign-extended immediate (R254). -/
def execNvCmpi (c : NvIssue) (dd v : Nat) (s : State) : Host.Outcome State Fault Refusal :=
  .next (s.nvIssue c (.imm 3 dd v) (cmpRun (fun x => x.dreg dd - toSigned 16 v)))

/-- SHLI: left by IMM16[5:0] (R254). -/
def execNvShli (c : NvIssue) (dd v : Nat) (s : State) : Host.Outcome State Fault Refusal :=
  .next (s.nvIssue c (.imm 4 dd v) (aluRun dd (fun x => (shlOf (x.dreg dd) (v % 64), none))))

/-- SHRI: right arithmetically by IMM16[5:0] (R254). -/
def execNvShri (c : NvIssue) (dd v : Nat) (s : State) : Host.Outcome State Fault Refusal :=
  .next (s.nvIssue c (.imm 5 dd v) (aluRun dd (fun x => (shrOf (x.dreg dd) (v % 64), none))))

/-- ANDI: with the zero-extended immediate (R254). -/
def execNvAndi (c : NvIssue) (dd v : Nat) (s : State) : Host.Outcome State Fault Refusal :=
  .next (s.nvIssue c (.imm 6 dd v) (aluRun dd (fun x => (bitsOf (· &&& ·) (x.dreg dd) v, none))))

/-! ### Loads, stores and moves -/

/-- LOAD (R253, R255). -/
def execNvLoad (c : NvIssue) (m d ptr : Nat) (upd : Bool) (s : State) : Host.Outcome State Fault Refusal :=
  .next (s.nvIssue c (.ldst false m d ptr upd) (fun s v x =>
    match x.read v m (x.p.getD ptr 0) with
    | .error k => .error (s, k)
    | .ok (w, y) =>
      let z := y.setD d (eccWord v.op1 w : Nat)
      .ok (s.nvEcc v.u v.e x.blk v.op1, if upd then z.bump ptr else z)))

/-- STORE (R253). -/
def execNvStore (c : NvIssue) (m d ptr : Nat) (upd : Bool) (s : State) : Host.Outcome State Fault Refusal :=
  .next (s.nvIssue c (.ldst true m d ptr upd) (pureRun (fun v x =>
    match x.write v m (x.p.getD ptr 0) (toUnsigned 32 (x.dreg d)) with
    | .error k => .error k
    | .ok y => .ok (if upd then y.bump ptr else y))))

/-- A special register written from a data word (R254). -/
def Novil.setSpecial (x : Novil) (sp : Nat) (w : Nat) : Novil :=
  let h := w % 65536
  if sp < 8 then { x with p := lset x.p sp h }
  else if sp < 16 then { x with m := lset x.m (sp - 8) (toSigned 16 h) }
  else if sp < 24 then { x with b := lset x.b (sp - 16) h }
  else if sp < 32 then { x with l := lset x.l (sp - 24) h }
  else if sp < 34 then { x with lc := lset x.lc (sp - 32) h }
  else { x with fl := w % 64 }

/-- A special register's value (R254). -/
def Novil.special (x : Novil) (v : NvEnv) (sp : Nat) : Int :=
  if sp < 8 then (x.p.getD sp 0 : Nat)
  else if sp < 16 then x.m.getD (sp - 8) 0
  else if sp < 24 then (x.b.getD (sp - 16) 0 : Nat)
  else if sp < 32 then (x.l.getD (sp - 24) 0 : Nat)
  else if sp < 34 then (x.lc.getD (sp - 32) 0 : Nat)
  else if sp = 0x22 then (x.fl : Nat)
  else if sp = 0x23 then (v.job.budget - x.slots : Nat)
  else if sp = 0x24 then (x.blk % 2 ^ 32 : Nat)
  else (v.job.id : Nat)

/-- MOVE to a special register; a read-only or unknown code is an ILLEGAL fault (R254). -/
def execNvMoveToSpecial (c : NvIssue) (d sp : Nat) (s : State) : Host.Outcome State Fault Refusal :=
  .next (s.nvIssue c (.move false d sp) (pureRun (fun _ x => .ok (x.setSpecial sp (toUnsigned 32 (x.dreg d))))))

/-- MOVE from a special register (R254). -/
def execNvMoveFromSpecial (c : NvIssue) (d sp : Nat) (s : State) : Host.Outcome State Fault Refusal :=
  .next (s.nvIssue c (.move true d sp) (pureRun (fun v x => .ok (x.setD d (x.special v sp)))))

/-! ### Accumulators -/

/-- Accumulator k. -/
def Novil.areg (x : Novil) (k : Nat) : Int := x.a.getD k 0

/-- A value divided by 2^sh under a rounding mode: to nearest even, or down (R252). -/
def accShift (rm : Bool) (sh : Nat) (a : Int) : Int := if rm then a / 2 ^ sh else rneShift sh a

/-- STA: the accumulator shifted, rounded and saturated into DD; saturation sets SV (R252). -/
def execNvSta (c : NvIssue) (aa dd sh : Nat) (rm : Bool) (s : State) : Host.Outcome State Fault Refusal :=
  .next (s.nvIssue c (.acc 0 aa dd sh rm 0) (pureRun (fun _ x =>
    let v := accShift rm sh (x.areg aa)
    let y := x.setD dd (satS 32 v)
    .ok (if satS 32 v = v then y else y.setFl 16 16))))

/-- CLRA (R254). -/
def execNvClra (c : NvIssue) (aa : Nat) (s : State) : Host.Outcome State Fault Refusal :=
  .next (s.nvIssue c (.acc 1 aa 0 0 false 0) (pureRun (fun _ x => .ok (x.setA aa 0))))

/-- ADDA (R254). -/
def execNvAdda (c : NvIssue) (aa ab : Nat) (s : State) : Host.Outcome State Fault Refusal :=
  .next (s.nvIssue c (.acc 2 aa 0 0 false ab) (pureRun (fun _ x => .ok (x.setA aa (x.areg aa + x.areg ab)))))

/-- SUBA (R254). -/
def execNvSuba (c : NvIssue) (aa ab : Nat) (s : State) : Host.Outcome State Fault Refusal :=
  .next (s.nvIssue c (.acc 3 aa 0 0 false ab) (pureRun (fun _ x => .ok (x.setA aa (x.areg aa - x.areg ab)))))

/-- LDA: the sign-extended DD times 2^sh; a shift above 39 is an ILLEGAL fault (R252). -/
def execNvLda (c : NvIssue) (aa dd sh : Nat) (s : State) : Host.Outcome State Fault Refusal :=
  .next (s.nvIssue c (.acc 4 aa dd sh false 0) (pureRun (fun _ x =>
    if 39 < sh then .error 3 else .ok (x.setA aa (x.dreg dd * 2 ^ sh)))))

/-- SHRA: the accumulator divided by 2^sh under the rounding mode (R252). -/
def execNvShra (c : NvIssue) (aa sh : Nat) (rm : Bool) (s : State) : Host.Outcome State Fault Refusal :=
  .next (s.nvIssue c (.acc 5 aa 0 sh rm 0) (pureRun (fun _ x => .ok (x.setA aa (accShift rm sh (x.areg aa))))))

/-- NEGA (R254). -/
def execNvNega (c : NvIssue) (aa : Nat) (s : State) : Host.Outcome State Fault Refusal :=
  .next (s.nvIssue c (.acc 6 aa 0 0 false 0) (pureRun (fun _ x => .ok (x.setA aa (0 - x.areg aa)))))

/-! ### MAC (R251, R255) -/

/-- One parallel load of a MAC instruction: the word and the engine with its pointer updated. -/
def macLoad (v : NvEnv) (x : Novil) (on : Bool) (mem ptr : Nat) (k : Ecc) : Except Nat (Nat × Novil) :=
  if on then
    match x.read v mem (x.p.getD ptr 0) with
    | .error e => .error e
    | .ok (w, y) => .ok (eccWord k w, y.bump ptr)
  else .ok (0, x)

/-- A MAC instruction: the operation with the operands as they stood, then the loads (R255). -/
def macRun (m : MacOp) (f : Int → Int → Int) : NvRun := fun s v x =>
  match macLoad v x m.xe 0 m.xp v.op1 with
  | .error e => .error (s, e)
  | .ok (wx, x1) =>
    let s1 := if m.xe then s.nvEcc v.u v.e x.blk v.op1 else s
    match macLoad v x1 m.ye (if m.pb then 2 else 1) m.yp v.op2 with
    | .error e => .error (s1, e)
    | .ok (wy, x2) =>
      let x3 := x2.setA m.aa (f (x.areg m.aa) (x.dreg m.da * x.dreg m.db))
      let x4 := if m.xe then x3.setD m.xd (wx : Nat) else x3
      let x5 := if m.ye then x4.setD (8 + m.yd) (wy : Nat) else x4
      .ok (if m.ye then s1.nvEcc v.u v.e x.blk v.op2 else s1, x5)

/-- MAC: A := A + DA DB (R254, R255). -/
def execNvMac (c : NvIssue) (m : MacOp) (s : State) : Host.Outcome State Fault Refusal :=
  .next (s.nvIssue c (.mac 0 m) (macRun m (fun a p => a + p)))

/-- MSU: A := A - DA DB (R254, R255). -/
def execNvMsu (c : NvIssue) (m : MacOp) (s : State) : Host.Outcome State Fault Refusal :=
  .next (s.nvIssue c (.mac 1 m) (macRun m (fun a p => a - p)))

/-- MPY: A := DA DB (R254, R255). -/
def execNvMpy (c : NvIssue) (m : MacOp) (s : State) : Host.Outcome State Fault Refusal :=
  .next (s.nvIssue c (.mac 2 m) (macRun m (fun _ p => p)))

/-- MPYN: A := -DA DB (R254, R255). -/
def execNvMpyn (c : NvIssue) (m : MacOp) (s : State) : Host.Outcome State Fault Refusal :=
  .next (s.nvIssue c (.mac 3 m) (macRun m (fun _ p => 0 - p)))

/-! ### Windows and transfers (R259 to R261) -/

/-- A DMA descriptor (R259). -/
structure NvDesc where
  win : Nat
  out : Bool
  memY : Bool
  local_ : Nat
  index : Nat
  offset : Nat
  count : Nat
deriving DecidableEq, Repr

/-- The descriptor of four words; none where a reserved field is not 0 or COUNT is out of range. -/
def nvDesc (w0 w1 w2 w3 : Nat) : Option NvDesc :=
  if natBits w0 6 2 = 0 ∧ natBits w0 23 9 = 0 ∧ natBits w1 16 16 = 0 ∧ natBits w3 14 18 = 0 ∧
      1 ≤ w3 % 2 ^ 14 ∧ w3 % 2 ^ 14 ≤ 8192 then
    some ⟨natBits w0 0 4, natBit w0 4, natBit w0 5, natBits w0 8 15, natBits w1 0 16, w2, natBits w3 0 14⟩
  else none

/-- The signed sample offset. -/
def NvDesc.soff (d : NvDesc) : Int := toSigned 32 d.offset

/-- The four words of the descriptor at a pointer, read one after the other. -/
def descWords (v : NvEnv) (p : Nat) : Nat → Novil → Except Nat (List Nat × Novil)
  | 0, x => .ok ([], x)
  | k + 1, x =>
    match descWords v p k x with
    | .error e => .error e
    | .ok (l, x1) =>
      match x1.read v 1 (p + k) with
      | .error e => .error e
      | .ok (w, x2) => .ok (l ++ [w], x2)

/-- Every word of the local range lies in a declared region (R260). -/
def localOk (v : NvEnv) (d : NvDesc) : Bool :=
  (List.range d.count).all (fun i => (inRegion v.rs (if d.memY then 1 else 0) (d.local_ + i)).isSome)

/-- The local range meets a constant region. -/
def localConst (v : NvEnv) (d : NvDesc) : Bool :=
  (List.range d.count).any (fun i => match inRegion v.rs (if d.memY then 1 else 0) (d.local_ + i) with
    | some r => r.kind == 0
    | none => false)

/-- The window admits the transfer (R260). -/
def windowOk (v : NvEnv) (d : NvDesc) : Bool :=
  let c : Int := (d.count : Nat)
  let feedLike := decide (0 ≤ d.soff) && decide (d.soff + c ≤ 32)
  match d.win with
  | 0 => !d.out && d.index < 1024 && decide (-8160 ≤ d.soff) && decide (d.soff + c ≤ 0)
  | 1 => !d.out && d.index < 256 && decide (-992 ≤ d.soff) && decide (d.soff + c ≤ 0)
  | 2 => !d.out && d.index < 1024 && d.offset == 0 && d.count == 8
  | 3 => !d.out && d.index < 1024 && feedLike
  | 4 => !d.out && d.index < 256 && feedLike
  | 5 => d.out && v.job.insFirst ≤ d.index && d.index < v.job.insFirst + v.job.insCount && feedLike
  | 6 => d.out && v.job.busFirst ≤ d.index && d.index < v.job.busFirst + v.job.busCount && feedLike
  | 7 => d.index == 0 && (List.range d.count).all (fun i => (inRegion v.rs 2 (d.offset + i)).isSome)
  | 8 => d.index == 0 && v.job.exchFirst ≤ d.offset && d.offset + d.count ≤ v.job.exchFirst + v.job.exchWords
  | 9 => d.out && d.offset + d.count ≤ 16
  | _ => false

/-- The words of a law record as a window shows them: those of block n - 1, or zeros (R260). -/
def lawWords (r : Render) (n o : Nat) : List Nat :=
  let q := agetD r.laws (1024 * ((n - 1) % 4) + o) {}
  if q.block + 1 = n then
    [toUnsigned 32 q.pos.x, toUnsigned 32 q.pos.y, toUnsigned 32 q.pos.z, toUnsigned 32 q.vel.x, toUnsigned 32 q.vel.y,
      toUnsigned 32 q.vel.z, q.law, bit01 q.enable + 2 * bit01 q.hold]
  else List.replicate 8 0

/-- The words that an inbound transfer brings, taken when it issues. -/
def windowRead (s : State) (v : NvEnv) (n : Nat) (d : NvDesc) : List Nat :=
  let r := (s.unit v.u).rd
  let nv := (s.unit v.u).nv
  let ring := fun (m : Assoc Int) (size : Nat) => (List.range d.count).map (fun (i : Nat) =>
    toUnsigned 32 (agetD m (size * d.index + (((32 * n : Nat) : Int) + d.soff + (i : Nat)).toNat % size) 0))
  let out := fun (m : Assoc Int) (per : Nat) => (List.range d.count).map (fun (i : Nat) =>
    if n < 2 then 0 else toUnsigned 32 (agetD m (32 * (per * ((n - 2) % 4) + d.index) + d.offset + i) 0))
  match d.win with
  | 0 => ring r.hist 8192
  | 1 => ring r.aux 1024
  | 2 => lawWords r n d.index
  | 3 => out r.feedOut 1024
  | 4 => out r.busOut 256
  | 7 => (List.range d.count).map (fun i => agetD nv.priv (25165824 * v.e + v.job.lpBase + d.offset + i) 0)
  | _ => (List.range d.count).map (fun i => agetD nv.exch (d.offset + i) 0)

/-- Words added into an accumulator at 2^21 (R260). -/
def addAcc (m : Assoc Int) (k : Nat) : List Nat → Assoc Int
  | [] => m
  | w :: l => addAcc (aputD m k (agetD m k 0 + toSigned 32 w * 2 ^ 21) 0) (k + 1) l

/-- ECC's finding in a word that a transfer takes from object history: counted and shown by the array; an uncorrectable
one reads as zero and is charged to no tile (R132, log entry 169). -/
def State.histEcc (s : State) (u : UnitId) (n : Nat) (k : Ecc) : State :=
  match k with
  | .none => s
  | .ce => s.siltCe u 1
  | .ue => (s.siltSet u 0 2).blockFault u n 1

/-- The words of an inbound transfer as ECC leaves them: those of a history window are zero where they are uncorrectable. -/
def arrived (v : NvEnv) (d : NvDesc) (l : List Nat) : List Nat :=
  if d.win = 0 then (List.range l.length).map (fun i => eccWord (v.eccOf i) (l.getD i 0)) else l

/-- ECC's findings in the words of a transfer reach the place that held them: the array's history, or the engine's memories
(R132, R247). -/
def State.transferEcc (s : State) (v : NvEnv) (n : Nat) (d : NvDesc) : State :=
  (List.range d.count).foldl (fun (t : State) i =>
    if d.out then t.nvEcc v.u v.e n (v.eccOf i) else if d.win = 0 then t.histEcc v.u n (v.eccOf i) else t) s

/-- The effect of an outbound transfer at the moment it issues (R260, R261). -/
def windowWrite (s : State) (v : NvEnv) (n : Nat) (d : NvDesc) (ws : List Nat) : State :=
  match d.win with
  | 5 => s.onRd v.u (fun r => { r with acc := addAcc r.acc (32 * (1024 * (n % 4) + d.index) + d.offset) ws })
  | 6 => s.onRd v.u (fun r => { r with busAcc := addAcc r.busAcc (32 * (256 * (n % 4) + d.index) + d.offset) ws })
  | 7 => s.onNv v.u (fun a => { a with priv := putWords a.priv (25165824 * v.e + v.job.lpBase + d.offset) ws })
  | 8 => s.onNv v.u (fun a => { a with exch := putWords a.exch d.offset ws })
  | _ => s.onNv v.u (fun a => { a with reportNow := putWords a.reportNow (16 * v.job.id + d.offset) ws })

/-- The local words of an outbound transfer, after the transfers that owe them; one that ECC finds uncorrectable reads as
zero. -/
def localWords (v : NvEnv) (d : NvDesc) (x : Novil) : List Nat × Novil :=
  let mem := if d.memY then 1 else 0
  let owed := (List.range d.count).foldl (fun m i => max m (owedBy d.memY (v.job.phys mem (d.local_ + i)) x.xfers 0)) 0
  let y := Novil.finish owed x
  ((List.range d.count).map (fun i =>
    let w := agetD (if d.memY then y.y else y.x) (v.job.phys mem (d.local_ + i)) 0
    eccWord (v.eccOf i) w), y)

/-- A transfer's window lies in LP5 memory (R260). -/
def NvDesc.lp (d : NvDesc) : Bool := d.win == 7 || d.win == 8

/-- A transfer that issues to LP5 memory takes its bytes from the engine's bucket and activates its rows; the regions begin at multiples
of 64 KiB, so that the word offset gives the channel (R260, R483, R486, R490). -/
def State.lpTransfer (s : State) (v : NvEnv) (d : NvDesc) : State :=
  if d.lp then
    let w := if d.win = 7 then 25165824 * v.e + v.job.lpBase + d.offset else d.offset
    (s.bucketSpend v.u v.e (4 * d.count)).rowsOpen v.u (w / 16) (v.rows.take (granules (4 * w) (4 * d.count)).length)
  else s

/-- LP5 memory takes a transfer of engine `e`: it is open, its cluster's master is not in reset, and the engine's regulator lets it issue
(R464, R470, R486, R492, R493). -/
def State.lpTakes (s : State) (u : UnitId) (e : Nat) : Bool :=
  let f := (s.unit u).fab
  !f.lp.selfRefresh && !f.lp.busyChange && decide (1 + e / 4 ∉ f.draining) && s.bucketOk u e

/-- A transfer issues (R259 to R261). -/
def dmaRun (v : NvEnv) (d : NvDesc) (s : State) (x : Novil) : Except (State × Nat) (State × Novil) :=
  let bytes := 4 * d.count
  let lp := d.lp
  if windowOk v d = false ∨ localOk v d = false then .error (s, 7)
  else if !d.out && localConst v d then .error (s, 4)
  else if (lp && decide (v.job.dmaBytes < x.dma + bytes)) || (!lp && decide (v.job.winBytes < x.win + bytes)) then .error (s, 2)
  else
    let x1 := if 8 ≤ x.xfers.length then x.finishOne else x
    let x2 := if lp then { x1 with dma := x1.dma + bytes } else { x1 with win := x1.win + bytes }
    if d.out then
      let w := localWords v d x2
      .ok ((windowWrite (s.lpTransfer v d) v x.blk d w.1).transferEcc v x.blk d, { w.2 with xfers := w.2.xfers ++ [⟨false, false, 0, []⟩] })
    else
      .ok ((s.lpTransfer v d).transferEcc v x.blk d, { x2 with xfers := x2.xfers ++
        [⟨true, d.memY, v.job.phys (if d.memY then 1 else 0) d.local_, arrived v d (windowRead s v x.blk d)⟩] })

/-- A DMA instruction that the engine holds and that fits the budget waits: its descriptor is one of LP5 memory which that does not take
now (R470, R486). -/
def State.nvDmaWaits (s : State) (c : NvIssue) (ptr : Nat) : Bool :=
  let v := (s.unit c.u).nv
  let x := v.engine c.e
  match x.job.bind (fun id => v.graph.find? (fun j => j.id == id)) with
  | none => false
  | some j =>
    let img := s.image j.image
    let w := eccWord c.fetch (agetD x.pmem (8192 * x.page + (j.pBase + x.pc) % 8192) 0)
    let runs := decide (x.pc < imgCode img) && decide ((nvDecode w).map NvInsn.canon = some (NvInsn.dma ptr).canon) &&
      decide (x.slots + 2 ≤ j.budget)
    let env := issueEnv c j img (.dma ptr)
    let issues := fun (d : NvDesc) => d.lp && windowOk env d && localOk env d && (d.out || !localConst env d) &&
      decide (x.dma + 4 * d.count ≤ j.dmaBytes)
    match descWords env (x.p.getD ptr 0) 4 x with
    | .ok (l, _) =>
      runs && (nvDesc (eccWord c.op1 (l.getD 0 0)) (l.getD 1 0) (l.getD 2 0) (l.getD 3 0)).any issues && !s.lpTakes c.u c.e
    | .error _ => false

/-- DMA: the transfer of the descriptor at Y[Pk] (R259), which waits while LP5 memory does not take it (R486); a reserved
field is a WINDOW fault. -/
def execNvDma (c : NvIssue) (ptr : Nat) (s : State) : Host.Outcome State Fault Refusal :=
  if s.nvDmaWaits c ptr then .next s else
  .next (s.nvIssue c (.dma ptr) (fun s v x =>
    let t := s.nvEcc v.u v.e x.blk v.op1
    match descWords v (x.p.getD ptr 0) 4 x with
    | .error e =>
      .error (match x.read v 1 (x.p.getD ptr 0) with
        | .ok _ => t
        | .error _ => s, e)
    | .ok (l, y) =>
      match nvDesc (eccWord v.op1 (l.getD 0 0)) (l.getD 1 0) (l.getD 2 0) (l.getD 3 0) with
      | none => .error (t, 7)
      | some d => dmaRun v d t y))

/-! ### Jobs and graphs -/

/-- The next job of an engine for its block. -/
def NovilArray.nextJob (v : NovilArray) (e : Nat) : Option NvJob :=
  (v.jobsOn e).find? (fun j => decide (agetD v.ended j.id 0 ≤ (v.engine e).blk))

/-- A job may start: the jobs it follows have ended in its block (R264). -/
def NovilArray.mayStart (v : NovilArray) (j : NvJob) (n : Nat) : Bool :=
  (j.deps ++ ((flowPrev v.graph j).map (·.id)).toList).all (fun d => decide (n < agetD v.ended d 0))

/-- The engine at the start of a job: registers cleared, the parameters in force in its page (R245, R247, R272). -/
def Novil.start (x : Novil) (j : NvJob) (entry : Nat) (params : List Nat) : Novil :=
  { page := x.page, pmem := x.pmem, x := x.x, y := putWords x.y 0x7F00 params, blk := x.blk
    slotsBlk := x.slotsBlk, dmaBlk := x.dmaBlk, winBlk := x.winBlk, slotsLast := x.slotsLast, dmaLast := x.dmaLast
    winLast := x.winLast, slotsPeak := x.slotsPeak, lastBlk := x.lastBlk, job := some j.id, pc := entry }

/-- NOVIL_JOB_START: the engine's next job of its block starts once block n - 1 is committed and its law records are out (R243,
R260) and the jobs it follows have ended (R264). -/
def execNovilJobStart (u : UnitId) (e : Nat) (s : State) : Host.Outcome State Fault Refusal :=
  let r := s.unit u
  let x := r.nv.engine e
  let n := x.blk
  match r.nv.nextJob e with
  | none => .next s
  | some j =>
    if ¬ s.unitRuns u ∨ x.job.isSome ∨ r.nv.mayStart j n = false ∨ r.rd.commit < n ∨ r.rd.chain + 1 < n ∨ r.rd.lawBlk < n ∨
        s.tb.sidx + 64 < 32 * (n + s.arb.lat) ∨ (r.nv.next.any (fun g => decide (g.1 ≤ n))) then .next s
    else
      let params := (List.range 256).map (fun i => r.rd.n 0x8100 1 (256 * j.id + i) (32 * n))
      .next (s.onNv u (fun v => v.setEngine e (x.start j (imgEntry (s.image j.image) j.entry) params)))

/-- NOVIL_TRANSFER_COMPLETE: the oldest outstanding transfer of an engine completes (R261). -/
def execNovilTransferComplete (u : UnitId) (e : Nat) (s : State) : Host.Outcome State Fault Refusal :=
  .next (s.onNv u (fun v => v.setEngine e (v.engine e).finishOne))

/-- The constant regions of a job written from its image, its other X and Y regions zeroed (R267). -/
def Novil.loadJob (x : Novil) (img : List Byte) (j : NvJob) : Novil :=
  let zeroed := (imgRegions img).foldl (fun y r =>
    if r.mem = 0 then { y with x := zeroWords y.x (j.xBase + r.start) r.words }
    else if r.mem = 1 then { y with y := zeroWords y.y (j.yBase + r.start) r.words }
    else y) x
  (imgConstants img).foldl (fun y c =>
    if c.1.mem = 0 then { y with x := putWords y.x (j.xBase + c.1.start) c.2 }
    else { y with y := putWords y.y (j.yBase + c.1.start) c.2 }) zeroed

/-- A job's memories at its start in a graph or at a RENDER entry: its regions in X, Y and LP5 (R266, R267). -/
def NovilArray.loadJob (img : Nat → List Byte) (v : NovilArray) (j : NvJob) : NovilArray :=
  let b := img j.image
  let v1 := v.setEngine j.engine ((v.engine j.engine).loadJob b j)
  { v1 with priv := (imgRegions b).foldl (fun m r =>
      if r.mem = 2 then zeroWords m (25165824 * j.engine + j.lpBase + r.start) r.words else m) v1.priv }

/-- The code of a graph in the shadow P pages (R266). -/
def NovilArray.writeShadow (img : Nat → List Byte) (v : NovilArray) (j : NvJob) : NovilArray :=
  let x := v.engine j.engine
  v.setEngine j.engine { x with pmem := putWords x.pmem (8192 * (1 - x.page) + j.pBase) (imgCodeWords (img j.image)) }

/-- The engines swap pages and start on block g (R267). -/
def NovilArray.swapPages (v : NovilArray) (g : Nat) : NovilArray :=
  (List.range 16).foldl (fun v e =>
    let x := v.engine e
    v.setEngine e { x with page := 1 - x.page, blk := g }) v

/-- The switch of a unit's graph at block g. -/
def NovilArray.switch (img : Nat → List Byte) (v : NovilArray) (g : Nat) (js : List NvJob) : NovilArray :=
  let old := v.graph
  let v1 := { (v.swapPages g) with graph := js, since := g, next := none, ended := v.ended.filter (fun e =>
    (js.filter (jobContinues old)).any (fun j => j.id == e.1)) }
  (js.filter (fun j => !jobContinues old j)).foldl (fun a j =>
    let b := a.loadJob img j
    let x := b.engine j.engine
    b.setEngine j.engine { x with slotsBlk := x.slotsBlk + loaderSlots img j }) v1

/-- The Novil jobs of block `n` have ended (R18, R243). -/
def NovilArray.endedAll (v : NovilArray) (n : Nat) : Bool :=
  decide (n < v.since) || v.graph.all (fun j => decide (n < agetD v.ended j.id 0))

/-- The control firmware paces each engine's requests to LP5 memory by its jobs' declared bytes of a block (R265, R486, R497). -/
def State.paceEngines (s : State) (u : UnitId) (js : List NvJob) : State :=
  (List.range 16).foldl (fun (t : State) e =>
    let sum := ((js.filter (fun j => j.engine == e)).map (·.dmaBytes)).sum
    let a := 0x20060200 + 0x10 * e
    (t.setReg (.unit u) a ((sum * s.rate + 31999999) / 32000000)).setReg (.unit u) (a + 4) 4096) s

/-- A unit takes the committed graph at its switch block `g`, and the entries show the switch (R267, R272). -/
def State.takeGraph (s : State) (u : UnitId) (g : Nat) (js : List NvJob) : State :=
  let s0 := { s with fePend := s.fePend.filter (fun j => !(j.key == dkey 0x8010 2 0 && decide (j.apply ≤ 32 * g))) }
  let s1 := (s0.onNv u (fun v => v.switch s.image g js)).paceEngines u js
  (s1.setFeN 0x8010 3 0 3).setFeN 0x8010 4 0 ((32 * g : Nat) : Int)

/-- A committed graph whose switch block is not after `b` is taken. -/
def State.passGraph (s : State) (u : UnitId) (b : Nat) : State :=
  match (s.unit u).nv.next with
  | some (g, js) => if g ≤ b then s.takeGraph u g js else s
  | none => s

/-- NV_GRAPH_SWITCH: at its switch block g a unit takes the committed graph, once its jobs of block g - 1 have ended
(R267). -/
def execNvGraphSwitch (u : UnitId) (s : State) : Host.Outcome State Fault Refusal :=
  let v := (s.unit u).nv
  match v.next with
  | none => .next s
  | some (g, js) =>
    let due := if s.unitRuns u then decide (32 * (g + s.arb.lat) ≤ s.tb.sidx + 64) && v.endedAll (g - 1)
      else decide (32 * g ≤ s.tb.sidx)
    .next (if due then s.takeGraph u g js else s)

end Sys2Proof.Machine
end

