-- ==== Sys2Proof/Machine/Signals.lean ====
section
/-!
DEFINITION. The survey signals (R288, R295, R296): the sweep, the maximum-length sequences, and the pseudo-noise of the
live survey.
-/
namespace Sys2Proof.Machine
open Sys2Proof

/-- The feedback terms of each order (R288). -/
def mlsTerms (m : Nat) : List Nat :=
  match m with
  | 10 => [10, 7] | 11 => [11, 9] | 12 => [12, 11, 10, 4] | 13 => [13, 12, 11, 8] | 14 => [14, 13, 12, 2]
  | 15 => [15, 14] | 16 => [16, 15, 13, 4] | 17 => [17, 14] | _ => [18, 11]

/-- The shift register after `k` steps: bit i is the output i + 1 steps back; it starts with every stage at 1. -/
def mlsState (m : Nat) : Nat → Nat
  | 0 => 2 ^ m - 1
  | k + 1 =>
    let r := mlsState m k
    let fb := (mlsTerms m).foldl (fun b e => xor b (natBit r (e - 1))) false
    (2 * r + if fb then 1 else 0) % 2 ^ m

/-- bit(k) of the sequence: the oldest stage (log entry 11). -/
def mlsBit (m k : Nat) : Bool := natBit (mlsState m k) (m - 1)

/-- Samples of an emission. -/
def Emission.length (e : Emission) : Nat := if e.seq then e.periods * (2 ^ e.order - 1) else e.len

/-- x(k) of an emission at a rate, in AUD32 (R288). -/
def Emission.at (e : Emission) (rate k : Nat) : Int :=
  let a := lin32 e.level
  if e.seq then (if mlsBit e.order k then rneShift 3 a else rneShift 3 (-a))
  else
    let w := fxLn e.f2 e.f1
    let grow := fxExp (w * (k : Int) / (e.len : Int)) - 2 ^ fxBits
    let ang := 2 * (fxPi : Int) * ((e.f1 * e.len : Nat) : Int) * grow / ((rate : Int) * w)
    fxRound 24 (a * fxSin (ang % (2 * fxPi)) / 2 ^ 27)

/-- The emission's value for sample index `s`, where it emits. -/
def emissionAt (e : Option Emission) (rate f s : Nat) : Option Int :=
  match e with
  | some q => if q.feed = f ∧ q.start ≤ s ∧ s < q.start + q.length then some (q.at rate (s - q.start)) else none
  | none => none

/-- pn of a sample index and a feed (R295). -/
def pnSign (s f : Nat) : Int :=
  let m := 2 ^ 64
  let v0 := ((s ^^^ (f * 2 ^ 48)) % m + 0x9E3779B97F4A7C15) % m
  let v1 := ((v0 ^^^ (v0 >>> 30)) * 0xBF58476D1CE4E5B9) % m
  let v2 := ((v1 ^^^ (v1 >>> 27)) * 0x94D049BB133111EB) % m
  if natBit (v2 ^^^ (v2 >>> 31)) 63 then -1 else 1

/-- a_n of the live survey from the limiter's RMS level (R296). -/
def liveAmp (rms margin gate : Int) : Int :=
  if rms < thr24 gate then 0 else rneShift 27 (rms * lin32 (-margin))

end Sys2Proof.Machine
end

