-- ==== Sys2Proof/Machine/FeedChain.lean ====
section
/-!
DEFINITION. The feed chain, the correction engine, buses, egress channels and silence groups of a block (chapters 05 and
06, R140 to R176, R185 to R202; survey signals R289, R295, R296).
-/
namespace Sys2Proof.Machine
open Sys2Proof

/-! ### Status registers -/

/-- FC_STAT, with FIRST_FEED of the first BQ_SAT, LIM_CLIP or BULK_UE event (R176). -/
def State.fcSet (s : State) (u : UnitId) (f mask : Nat) : State :=
  let a := 0x20020004
  let r := s.reg (.unit u) a
  let s1 := if r % 8 = 0 ∧ mask % 8 ≠ 0 then s.setReg (.unit u) a ((r &&& 0xFFFC00FF) + 256 * f) else s
  s1.setStat (.unit u) a mask

/-- CX_STAT, with FIRST_FEED of the first SAT, ECC_UE or RES_ERR event (R202). -/
def State.cxSet (s : State) (u : UnitId) (f mask : Nat) : State :=
  let a := 0x20021004
  let r := s.reg (.unit u) a
  let s1 := if r &&& 11 = 0 ∧ mask &&& 11 ≠ 0 then s.setReg (.unit u) a ((r &&& 0xFFFC00FF) + 256 * f) else s
  s1.setStat (.unit u) a mask

/-- A correction counter counts unless CX_CTRL.CNT_HOLD holds it (R201). -/
def State.cxCount (s : State) (u : UnitId) (addr n : Nat) : State :=
  if natBit (s.reg (.unit u) 0x20021000) 0 then s else s.countReg (.unit u) addr n

/-- One finding of the checks (R131, R153, R188, R200). -/
def State.chainCheck (s : State) (u : UnitId) (n : Nat) (c : ChainCheck) : State :=
  match c with
  | .accRes f => s.siltRes u (f / 16) n
  | .cxRes f => ((s.cxSet u f 8).cxCount u 0x20021018 1).blockFault u n 0
  | .cxUe f _ => (s.cxSet u f 2).blockFault u n 1
  | .cxCe k => ((s.cxSet u 0 4).cxCount u 0x20021010 k).ceHealth u k
  | .cxLate f => (s.cxSet u f 16).blockFault u n 2
  | .bulkUe f _ => (s.fcSet u f 4).blockFault u n 1
  | .bulkCe k =>
    let s1 := if natBit (s.reg (.unit u) 0x20020000) 1 then s else s.countReg (.unit u) 0x20020018 k
    (s1.fcSet u 0 32).ceHealth u k

/-! ### One feed -/

/-- What a feed's run through the chain answers beside its state. -/
structure FeedRun where
  out : List Int
  /-- Saturation of the accumulator output, of steps 1 to 3, and of a biquad. -/
  accSat : Bool
  sat : Bool
  bqSat : Bool
  clips : Nat
  cxSat : Nat
  /-- Cost of the filter change that occupies the block (R199), 0 where none does. -/
  cost : Nat
  gated : Bool
deriving DecidableEq, Repr

/-- The settings of steps of zero-cross gains (R145). -/
def Render.zcStep (r : Render) (s : Nat) : Nat := r.n 0x6F00 1 0 s
/-- The timeout of zero-cross gains (R145). -/
def Render.zcTimeout (r : Render) (s : Nat) : Nat := r.n 0x6F00 2 0 s

/-- A feed's state. -/
def Render.feed (r : Render) (f : Nat) : FeedState := agetD r.feeds f {}

/-- The coefficients of a feed's biquad (R149). -/
def feedCoef (r : Render) (f x b : Nat) : BqCoef :=
  let e := 16 * f + b
  ⟨r.i 0x6100 1 e x, r.i 0x6100 2 e x, r.i 0x6100 3 e x, r.i 0x6100 4 e x, r.i 0x6100 5 e x⟩

/-- The mute and polarity factor in force (R146). -/
def feedFactor (r : Render) (f x : Nat) : Int :=
  if r.n 0x6000 2 f x = 1 then 0 else if r.n 0x6000 3 f x = 1 then -1 else 1

/-- The feed-chain input of a feed: the accumulator with a chain emission added, rounded to AUD32 (R126, R127, R289). -/
def feedInput (r : Render) (rate f n : Nat) : List Int × Bool :=
  let vs := (List.range 32).map (fun j =>
    let e := match r.emit with
      | some q => if q.raw then 0 else (emissionAt r.emit rate f (32 * n + j)).getD 0
      | none => 0
    rneShift 21 (agetD r.acc (32 * (1024 * (n % 4) + f) + j) 0 + e * 2 ^ 21))
  (vs.map (satS 32), vs.any (fun v => satS 32 v != v))

/-- Steps 1 to 3 of a feed: trim, mute and polarity, biquads. -/
def feedFront (r : Render) (f n : Nat) (st : FeedState) (xs : List Int) : List Int × FeedState × Bool × Bool :=
  let x := 32 * n
  let v := fun s => r.i 0x6000 1 f s
  let t := zcRun v r.zcStep r.zcTimeout x (zcInit st.trim (v x) x) xs
  let f1 := feedFactor r f x
  let m := factorRun (st.factor.getD f1) f1 0 t.1
  let f0 := st.factor.getD f1
  let neg := f1 == -1 && (List.range 32).any (fun j => t.1.getD j 0 == -(2 ^ 31) && (f0 == -1 || j == 31))
  let b := bqChain (feedCoef r f x) 0 st.bq m
  (b.1, { st with trim := some t.2.1, factor := some f1, bq := b.2.1 }, t.2.2 || neg || b.2.2, b.2.2)

/-- A change of a feed's filter begins in block `n`: with another slot, or with the switch of its slot (R197). -/
def FilterState.changes (q : FilterState) (r : Render) (n slot : Nat) : Bool :=
  q.slot != slot || (slot != 255 && (agetD r.slots slot {}).at_ == some n)

/-- The filter of a feed at block `n`, where a change may begin (R197). -/
def filterAt (r : Render) (f n : Nat) (old : Option FilterState) : FilterState :=
  let x := 32 * n
  let slot := r.n 0x6000 6 f x
  let taps := if slot = 255 then unitImpulse else setTaps (agetD r.slots slot {}).image f
  match old with
  | none => { taps := taps, old := taps, slot := slot }
  | some q =>
    if q.changes r n slot then
      { q with
        taps := taps, old := q.taps, slot := slot, start := x, len := r.n 0x6000 9 f x, staged := agetD q.ahead n {}
        stagedOld := q.staged, bad := q.bad.map cxWordTurn }
    else q

/-- The changes of a feed's filter to come that begin before block `hi`: their first blocks, and the taps (R197). -/
def Render.changesTo (r : Render) (f n hi : Nat) : List (Nat × List Int) :=
  let writes := r.pend.filterMap (fun j => if j.key = dkey 0x6000 6 f ∧ j.wins then some (j.apply / 32) else none)
  let commits := r.slots.filterMap (fun e => e.2.next.map (fun p => p.1 / 32))
  ((writes ++ commits).eraseDups.filter (fun b => decide (n < b ∧ b < hi))).filterMap (fun b =>
    let slot := r.n 0x6000 6 f (32 * b)
    let c := agetD r.slots slot {}
    let sw : Option (List Byte) := match c.next with
      | some (a, img) => if a ≤ 32 * b then some img else none
      | none => none
    let switched := slot != 255 && (c.next.map (fun p => p.1 / 32)) == some b
    if slot ≠ r.n 0x6000 6 f (32 * b - 1) ∨ switched = true then
      some (b, if slot = 255 then unitImpulse else setTaps (sw.getD c.image) f)
    else none)

/-- A change of the filter occupies block `n`; a change of length 0 occupies its apply block (R197). -/
def FilterState.occupies (q : FilterState) (n : Nat) : Bool :=
  if q.len = 0 then q.start == 32 * n && q.start != 0
  else decide (q.start ≤ 32 * n + 31) && decide (32 * n < q.start + q.len)

/-- The FIR input of a feed at a sample. -/
def firIn (r : Render) (f : Nat) (s : Int) : Int := agetD r.fir (32768 * f + (s % 32768).toNat) 0

/-- The contributions that block `n` stages for a feed's filters where it ends a segment, and how many values saturated: those
of both filters in force to the next segment, and those of each filter `coming` to the segment in which its change begins
(R187, R197). -/
def FilterState.stage (q : FilterState) (z : CxWord → Bool) (h : List (Nat × Nat × Nat)) (x : Int → Int) (n : Nat)
    (coming : List (Nat × List Int)) : FilterState × Nat :=
  let next := q.staged.after z .now h q.taps x n
  let old := if 32 * (n + 1) < q.start + q.len then q.stagedOld.after z .former h q.old x n else ({}, 0)
  let far := coming.map (fun e => (e.1, (agetD q.ahead e.1 {}).ahead z h e.2 x n e.1))
  ({ q with
    staged := next.1, stagedOld := old.1, ahead := far.map (fun e => (e.1, e.2.1))
    bad := q.bad.filter (fun w => (n + 1) % segBlocks (cxFar w) ≠ 0) }, next.2 + old.2 + (far.map (·.2.2)).sum)

/-- Step 4 of a feed: the correction filter, gated or not, with its crossfade (R150, R185, R197); `ws` are the stored words
found uncorrectable, those of levels 2 and 3 from the blocks of the present segments on (R187, R200). -/
def feedFir (r : Render) (gateEn : Bool) (ws : List CxWord) (f n : Nat) (st : FeedState) (xs : List Int) :
    List Int × FilterState × List (Nat × Nat × Nat) × Nat :=
  let q0 := filterAt r f n st.filt
  let q := { q0 with bad := q0.bad ++ ws.filter (fun w => cxFar w ≠ 0) }
  let z := fun w => ws.contains w
  let x := firIn r f
  let h := holesAfter st.holes ws n
  let zr := zeroRun q.zrun 16416 xs
  let off := fun (t : List Int) => decide (t.length + 31 ≤ zr)
  let fading := q.len != 0 && q.occupies n
  let sg := q.stage (fun w => q.bad.contains w) h x n
    (if (n + 1) % segBlocks 2 = 0 then r.changesTo f n (n + 1 + segBlocks 3) else q.ahead.map (fun e => (e.1, [])))
  let y1 := firBlock z .now h q.taps x q.staged n (off q.taps)
  let gate := gateEn && off q.taps && (!fading || off q.old)
  let q1 := { sg.1 with zrun := zr, gated := gate }
  if fading then
    let y0 := firBlock z .former h q.old x q.stagedOld n (off q.old)
    let ys := (List.range 32).map (fun j =>
      let s := 32 * n + j
      if s < q.start + q.len then
        let w := xfWeights false (s - q.start + 1) q.len
        rneShift 23 (w.1 * y0.1.getD j 0 + w.2 * y1.1.getD j 0)
      else y1.1.getD j 0)
    (ys.map (satS 32), q1, h, y1.2 + y0.2 + sg.2 + (ys.filter (fun y => satS 32 y ≠ y)).length)
  else (y1.1, q1, h, y1.2 + sg.2)

/-- A word of a feed's bulk ring; an uncorrectable one reads as zero (R151, R153). -/
def bulkIn (r : Render) (f : Nat) (ue : List Nat) (s : Int) : Int :=
  if ue.any (fun k => s == (k : Int)) then 0 else agetD r.bulk (262144 * f + (s % 262144).toNat) 0

/-- Step 5 of a feed: the bulk delay and its crossfade (R151, R152). -/
def feedBulk (r : Render) (f n : Nat) (ue : List Nat) (q : Route) : List Int :=
  (List.range 32).map (fun j =>
    let s := 32 * n + j
    if q.fading s then
      let w := q.weights s
      satS 32 (rneShift 23 (w.1 * bulkIn r f ue ((s : Int) - q.old) + w.2 * bulkIn r f ue ((s : Int) - q.cur)))
    else bulkIn r f ue ((s : Int) - q.cur))

/-- `a / d` rounded away from zero. -/
def raz (a : Int) (d : Nat) : Int :=
  if a < 0 then -(((a.natAbs + d - 1) / d : Nat) : Int) else (((a.natAbs + d - 1) / d : Nat) : Int)

/-- The limiter's settings in force (R154 to R156, R158). -/
structure LimSet where
  enable : Bool
  thrPeak : Int
  thrEnv : Int
  thrRms : Int
  det : Nat
  att : Nat
  rel : Nat
  envSh : Nat
  rmsSh : Nat
  ceil : Int
deriving DecidableEq, Repr

/-- The limiter settings of a feed at sample `x`; the exposure offset is added to two thresholds (R158). -/
def limSet (r : Render) (f x : Nat) : LimSet :=
  let g := r.n 0x6400 0xC f x
  let off := if g = 255 then 0 else r.i 0x6500 6 g x
  ⟨r.n 0x6400 1 f x == 1, thr24 (r.i 0x6400 2 f x), thr24 (satS 16 (r.i 0x6400 3 f x + off)),
    thr24 (satS 16 (r.i 0x6400 4 f x + off)), r.n 0x6400 5 f x, r.n 0x6400 7 f x, r.n 0x6400 8 f x, r.n 0x6400 9 f x,
    r.n 0x6400 0xA f x, thr24 (r.i 0x6400 0xB f x)⟩

/-- The gain that one detector asks for. -/
def detGain (on : Bool) (lvl thr : Int) : Int :=
  if on && decide (thr < lvl) then 2 ^ 23 * thr / lvl else 2 ^ 23

/-- One sample of the limiter: detectors, gain, ceiling; state is (env, ms, g) (R154, R155). -/
def limStep (c : LimSet) (st : Int × Int × Int) (la xb : Int) : Int × (Int × Int × Int) × Bool :=
  let pk : Int := la.natAbs
  let env := max pk (st.1 - raz st.1 (2 ^ c.envSh))
  let ms := st.2.1 + raz (pk * pk - st.2.1) (2 ^ c.rmsSh)
  if c.enable = false then (xb, (env, ms, 2 ^ 23), false)
  else
    let r := min (detGain (natBit c.det 0) pk c.thrPeak)
      (min (detGain (natBit c.det 1) env c.thrEnv) (detGain (natBit c.det 2) (rneSqrt ms.toNat 1) c.thrRms))
    let g0 := st.2.2
    let g1 := if r < g0 then g0 - raz (g0 - r) (2 ^ c.att) else g0
    let g := if g1 < r then g1 + raz (r - g1) (2 ^ c.rel) else g1
    let y := rneShift 23 (xb * g)
    if c.ceil < y then (c.ceil, (env, ms, g), true)
    else if y < -c.ceil then (-c.ceil, (env, ms, g), true)
    else (y, (env, ms, g), false)

/-- The limiter over a block, with the number of ceiling limits. -/
def limRun (c : LimSet) : (Int × Int × Int) → List (Int × Int) → List Int × (Int × Int × Int) × Nat
  | st, [] => ([], st, 0)
  | st, (la, xb) :: l =>
    let r := limStep c st la xb
    let q := limRun c r.2.1 l
    (satS 32 r.1 :: q.1, q.2.1, (if r.2.2 then 1 else 0) + q.2.2)

/-- Step 6 of a feed: the limiter with its lookahead in the bulk ring (R154). -/
def feedLimit (r : Render) (f n : Nat) (ue : List Nat) (st : FeedState) (bulk : Nat) (xb : List Int) :
    List Int × (Int × Int × Int) × Nat :=
  let x := 32 * n
  let la := min (r.n 0x6400 6 f x) bulk
  let xs := (List.range 32).map (fun j =>
    (bulkIn r f ue (((x + j : Nat) : Int) - bulk + la), xb.getD j 0))
  limRun (limSet r f x) (st.env, st.ms, st.g) xs

/-- The live-survey injection into the input of the bulk stage (R295, R296). -/
def feedInject (r : Render) (rate f n : Nat) (st : FeedState) (ys : List Int) : List Int :=
  let x := 32 * n
  if r.n 0xA200 1 f x ≠ 1 then ys
  else
    let a := liveAmp (rneSqrt st.ms.toNat 1) (r.i 0xA200 2 f x) (r.i 0xA200 3 f x)
    (List.range 32).map (fun j =>
      let y := ys.getD j 0
      if (emissionAt r.emit rate f (x + j)).isSome then y else satS 32 (y + pnSign (x + j) f * a))

/-- A raw emission replaces the limiter output (R289). -/
def rawEmit (r : Render) (rate f n : Nat) (ys : List Int) : List Int :=
  match r.emit with
  | some q =>
    if q.raw then (List.range 32).map (fun j => (emissionAt r.emit rate f (32 * n + j)).getD (ys.getD j 0)) else ys
  | none => ys

/-- The live bits of FEED_STATUS at the end of block `n` (R165). -/
def feedLive (st : FeedState) (n : Nat) (expo gated : Bool) : Nat :=
  let stepping := match st.trim with
    | some t => t.c != t.t
    | none => false
  let bx := match st.bulk with
    | some q => q.fading (32 * n + 32)
    | none => false
  (if stepping then 1 else 0) + (if bx then 2 else 0) + (if st.g < 2 ^ 23 then 8 else 0) +
    (if st.sil.silent then 32 else 0) + (if gated then 64 else 0) + (if expo then 128 else 0)

/-- The exposure offset of a feed is in force (R158). -/
def expoApplied (r : Render) (f x : Nat) : Bool :=
  let g := r.n 0x6400 0xC f x
  g != 255 && r.i 0x6500 6 g x != 0

/-- Steps 5 to 7 of a feed after its correction filter. -/
def feedBack (r : Render) (rate f n : Nat) (ue : List Nat) (st : FeedState) (q : FilterState) (ys : List Int) :
    Render × List Int × Nat :=
  let x := 32 * n
  let bi := feedInject r rate f n st ys
  let r1 := { r with bulk := ringPut r.bulk (262144 * f) 262144 x bi }
  let bk := routeAt st.bulk n (r.n 0x6000 4 f x) (r.n 0x6000 5 f x) false
  let lim := feedLimit r1 f n ue st bk.cur (feedBulk r1 f n ue bk)
  let out := rawEmit r rate f n lim.1
  let sil := st.sil.run (thr24 (r.i 0x6600 1 f x)) (r.n 0x6600 2 f x) (if r.n 0x6600 3 f x = 1 then bi else out)
  let st1 := { st with
    filt := some q, bulk := some bk, env := lim.2.1.1, ms := lim.2.1.2.1, g := lim.2.1.2.2, gEnd := lim.2.1.2.2, sil := sil
    clips := min 0xFFFFFFFF (st.clips + lim.2.2), sticky := st.sticky ||| if lim.2.2 = 0 then 0 else 16 }
  let st2 := { st1 with live := feedLive st1 n (expoApplied r f x) q.gated }
  ({ r1 with feeds := aput r1.feeds f st2, feedOut := ringPut r1.feedOut (32 * (1024 * (n % 4) + f)) 32 0 out },
    out, lim.2.2)

/-- A feed's run through steps 1 to 7 of R140 in block `n`. -/
def Render.runFeed (r : Render) (rate : Nat) (gateEn : Bool) (checks : List ChainCheck) (n f : Nat) : Render × FeedRun :=
  let a := feedInput r rate f n
  let fr := feedFront r f n (r.feed f) a.1
  let r1 := { r with fir := ringPut r.fir (32768 * f) 32768 (32 * n) fr.1 }
  let ws := checks.filterMap (fun c => match c with
    | .cxUe g w => if g = f then some w else none
    | _ => none)
  let ue := checks.filterMap (fun c => match c with
    | .bulkUe g s => if g = f then some s else none
    | _ => none)
  let c := feedFir r1 gateEn ws f n fr.2.1 fr.1
  let st := { fr.2.1 with holes := c.2.2.1, sticky := fr.2.1.sticky ||| if fr.2.2.2 then 4 else 0 }
  let b := feedBack r1 rate f n ue st c.2.1 c.1
  (b.1, ⟨b.2.1, a.2, fr.2.2.1, fr.2.2.2, b.2.2, c.2.2.2, if c.2.1.occupies n then changeCost c.2.1.taps.length else 0,
    c.2.1.gated⟩)

/-- Every feed of a list. -/
def Render.runFeeds (r : Render) (rate : Nat) (gateEn : Bool) (checks : List ChainCheck) (n : Nat) :
    List Nat → Render × List (Nat × FeedRun)
  | [] => (r, [])
  | f :: l =>
    let a := r.runFeed rate gateEn checks n f
    let b := a.1.runFeeds rate gateEn checks n l
    (b.1, (f, a.2) :: b.2)

/-! ### Buses and egress channels (R166 to R171) -/

/-- The value of a source for sample `j` of block `n` (R167). -/
def srcAt (r : Render) (n src j : Nat) : Int :=
  if src < 0x400 then agetD r.feedOut (32 * (1024 * (n % 4) + src) + j) 0
  else if src < 0x800 then agetD r.hist (8192 * (src - 0x400) + (32 * n + j) % 8192) 0
  else if src < 0x900 then agetD r.aux (1024 * (src - 0x800) + (32 * n + j) % 1024) 0
  else if src < 0xA00 then agetD r.busOut (32 * (256 * (n % 4) + (src - 0x900)) + j) 0
  else 0

/-- A routed signal over a block, with its crossfade, and whether it saturated (R171). -/
def routeSignal (r : Render) (n : Nat) (q : Route) : List Int × Bool :=
  let vs := (List.range 32).map (fun j =>
    let s := 32 * n + j
    if q.fading s then
      let w := q.weights s
      rneShift 23 (w.1 * srcAt r n q.old j + w.2 * srcAt r n q.cur j)
    else srcAt r n q.cur j)
  (vs.map (satS 32), vs.any (fun v => satS 32 v != v))

/-- A route occupies block `n` with its crossfade (R172). -/
def Route.occupies (q : Route) (n : Nat) : Bool :=
  q.len != 0 && decide (q.start ≤ 32 * n + 31) && decide (32 * n < q.start + q.len)

/-- One send slot: its products, its route and its gain after the block (R166, R168). -/
def sendRun (r : Render) (b n k : Nat) (st : BusState) : List Int × Route × Int :=
  let e := 16 * b + k
  let x := 32 * n
  let q := routeAt (aget? st.sends k) n (r.n 0x8410 1 e x) (r.n 0x8410 3 e x) (r.n 0x8410 4 e x == 1)
  let ge := r.i 0x8410 2 e x
  let gs := agetD st.sendGain k ge
  let xs := (routeSignal r n q).1
  ((List.range 32).map (fun j => xs.getD j 0 * ramp32 gs ge j), q, ge)

/-- The sends of a bus summed, from the accumulator's Novil writes on. -/
def sendSum (r : Render) (b n : Nat) (st : BusState) : List Nat → List Int × BusState → List Int × BusState
  | [], a => a
  | k :: l, a =>
    let s := sendRun r b n k st
    sendSum r b n st l ((List.range 32).map (fun j => a.1.getD j 0 + s.1.getD j 0),
      { a.2 with sends := aput a.2.sends k s.2.1, sendGain := aput a.2.sendGain k s.2.2 })

/-- A bus in block `n`: sends and Novil writes, gain and mute (R166). -/
def Render.runBus (r : Render) (n b : Nat) : Render × Bool :=
  let x := 32 * n
  let st := agetD r.buses b {}
  let base := (List.range 32).map (fun j => agetD r.busAcc (32 * (256 * (n % 4) + b) + j) 0)
  let a := sendSum r b n st (List.range 16) (base, st)
  let vs := a.1.map (rneShift 21)
  let v := fun s => r.i 0x8400 1 b s
  let g := zcRun v r.zcStep r.zcTimeout x (zcInit st.gain (v x) x) (vs.map (satS 32))
  let f1 : Int := if r.n 0x8400 2 b x = 1 then 0 else 1
  let ys := factorRun (st.factor.getD f1) f1 0 g.1
  ({ r with
      buses := aput r.buses b { a.2 with gain := some g.2.1, factor := some f1 }
      busOut := ringPut r.busOut (32 * (256 * (n % 4) + b)) 32 0 ys },
    vs.any (fun v => satS 32 v != v))

/-- Every bus of a list; whether any value saturated. -/
def Render.runBuses (r : Render) (n : Nat) : List Nat → Render × Bool
  | [] => (r, false)
  | b :: l =>
    let a := r.runBus n b
    let c := a.1.runBuses n l
    (c.1, a.2 || c.2)

/-- An egress channel in block `n`: its 32 staged words (R169). -/
def Render.runEg (r : Render) (n e : Nat) (o : OutBlock) : Render × OutBlock × Bool :=
  let x := 32 * n
  let st := agetD r.eg e {}
  let q := routeAt st.route n (r.n 0x3500 1 e x) (r.n 0x3500 3 e x) (r.n 0x3500 4 e x == 1)
  let sig := routeSignal r n q
  let v := fun s => r.i 0x3500 2 e s
  let g := zcRun v r.zcStep r.zcTimeout x (zcInit st.gain (v x) x) sig.1
  let w := (List.range 32).foldl (fun m j => aputD m (1280 * j + e) (g.1.getD j 0) 0) o.words
  ({ r with eg := aput r.eg e ⟨some g.2.1, some q⟩ }, { o with words := w }, sig.2 || g.2.2)

/-- Every egress channel of a list. -/
def Render.runEgs (r : Render) (n : Nat) (o : OutBlock) : List Nat → Render × OutBlock × Bool
  | [] => (r, o, false)
  | e :: l =>
    let a := r.runEg n e o
    let c := a.1.runEgs n a.2.1 l
    (c.1, c.2.1, a.2.2 || c.2.2)

/-! ### The block -/

/-- A silence group's state: it has members and every one is silent (R162). -/
def groupSilent (r : Render) (x g : Nat) : Bool :=
  let ms := (List.range 1024).filter (fun f => r.n 0x6600 4 f x == g)
  !ms.isEmpty && ms.all (fun f => (r.feed f).sil.silent)

/-- The states of the eight groups as a byte. -/
def groupByte (r : Render) (x : Nat) : Nat :=
  (List.range 8).foldl (fun m g => m + if groupSilent r x g then 2 ^ g else 0) 0

/-- Committed images whose apply index block `n` reaches become active (R193). -/
def Render.switchSlots (r : Render) (n : Nat) : Render :=
  { r with slots := r.slots.map (fun e =>
      match e.2.next with
      | some (a, img) => if a ≤ 32 * n then (e.1, { e.2 with image := img, at_ := some n, next := none }) else e
      | none => e) }

/-- An emission record of the journal that block `n` reaches is taken up; its value holds feed, point, kind, F1, F2, LEN,
ORDER, PERIODS and LEVEL (R289). -/
def emissionFrom (a : Nat) (b : List Byte) : Emission :=
  let fld := fun (o n : Nat) => beNat ((b.drop o).take n)
  ⟨fld 0 2, a, fld 3 1 == 1, fld 4 4, fld 8 4, fld 12 4, fld 16 1, fld 17 1, toSigned 16 (fld 18 2), fld 2 1 == 1⟩

/-- The emission of a journal record. -/
def emissionOf (j : JRec) : Emission := emissionFrom j.apply j.val.toBytes

/-- The key under which emissions are journaled. -/
def emissionKey : Nat := dkey 0xA020 4 0

/-- The emission that block `n` finds. -/
def Render.takeEmission (r : Render) (n : Nat) : Render :=
  match r.pend.find? (fun j => j.key == emissionKey && j.kind == 5 && decide (j.apply ≤ 32 * n)) with
  | some j => { r with emit := some (emissionOf j), pend := r.pend.filter (fun q => q.jseq ≠ j.jseq) }
  | none => r

/-- Crossfades that occupy block `n`: feed-chain in bits [7:0], egress in [24:16] (R172, R175). -/
def xfOccupied (r : Render) (n : Nat) : Nat :=
  let occ := fun (q : Option Route) => match q with
    | some q => q.occupies n
    | none => false
  let m := ((List.range 1024).filter (fun o => (r.law n o).block == n && (r.law n o).mask.occupies n)).length
  let b := (r.feeds.filter (fun e => occ e.2.bulk)).length
  let d := (r.buses.map (fun e => (e.2.sends.filter (fun q => q.2.occupies n)).length)).sum
  let g := (r.eg.filter (fun e => occ e.2.route)).length
  m + b + d + 65536 * g

/-- A tile at the end of block `n`: its counts are shown and its lanes start anew. -/
def Render.endTile (r : Render) (t : Nat) : Render :=
  let q := r.tile t
  { r with tiles := aput r.tiles t { q with
    pos := 0, units := q.unitsNow, skip := q.skipNow, unitsNow := 0, skipNow := 0 } }

/-- CLAMP or SLOPE counts of the targets of block `n`. -/
def Tile.countOf (q : Tile) (n : Nat) (slope : Bool) : Nat :=
  if q.lawBlk = n then (if slope then q.slope else q.clamp) else (if slope then q.slopePrev else q.clampPrev)

/-- The counts of the array at the end of block `n` (R135). -/
def State.siltCounts (s : State) (u : UnitId) (n : Nat) : State :=
  let r := (s.unit u).rd
  let ts := (List.range 64).map (fun t => r.tile t)
  let put := fun (s : State) (a v : Nat) => s.setReg (.unit u) a v
  let s1 := put (put (put (put s 0x20000018 (ts.map (·.units)).sum) 0x2000001C (ts.map (·.countOf n false)).sum)
    0x20000020 (ts.map (·.countOf n true)).sum) 0x20000024 (ts.map (·.skip)).sum
  let s2 := put (put s1 0x20000008 (n % 2 ^ 32)) 0x2000000C (n / 2 ^ 32 % 2 ^ 27)
  (List.range 64).foldl (fun s t =>
    put (put s (0x20001000 + 16 * t) (r.tile t).units) (0x20001008 + 16 * t) (r.tile t).skip) s2

/-- The saturations and clips of one feed reach the status registers (R127, R147, R155, R175, R201). -/
def State.feedFlags (s : State) (u : UnitId) (e : Nat × FeedRun) : State :=
  let f := e.1
  let bit := 2 ^ (f % 32)
  let s1 := if e.2.accSat then (s.setStat (.unit u) (0x20001004 + 16 * (f / 16)) (2 ^ (f % 16))).siltSet u (f / 16) 8 else s
  let s2 := if e.2.sat then s1.setStat (.unit u) (0x20020100 + 4 * (f / 32)) bit else s1
  let s3 := if e.2.bqSat then s2.fcSet u f 1 else s2
  let s4 := if e.2.clips = 0 then s3 else s3.fcSet u f 2
  if e.2.cxSat = 0 then s4
  else ((s4.cxSet u f 1).cxCount u 0x20021014 e.2.cxSat).setStat (.unit u) (0x20021100 + 4 * (f / 32)) bit

/-- The notes of feeds whose silence changed between two states of the render path. -/
def State.feedSilNotes (s : State) (u : UnitId) (n : Nat) (old new : Render) : List Nat → State
  | [] => s
  | f :: l => (s.silenceNote u 0x6600 f n (old.feed f).sil.silent (new.feed f).sil.silent).feedSilNotes u n old new l

/-- Accumulator words of block `n` are cleared for the next block that uses them. -/
def clearAcc (m : Assoc Int) (per n : Nat) : Assoc Int := m.filter (fun e => e.1 / (32 * per) != n % 4)

/-- What a block's run through feeds, buses and egress answers. -/
structure BlockRun where
  rd : Render
  feeds : List (Nat × FeedRun)
  busSat : Bool
  egSat : Bool
deriving DecidableEq, Repr

/-- A block through the feed chain (R141). -/
def Render.runBlock (r : Render) (rate : Nat) (gateEn : Bool) (checks : List ChainCheck) (n : Nat) : BlockRun :=
  let fs := ((r.switchSlots n).takeEmission n).runFeeds rate gateEn checks n (List.range 1024)
  let bs := fs.1.runBuses n (List.range 256)
  let g := groupByte bs.1 (32 * n)
  let es := bs.1.runEgs n { block := n, sil := g } (List.range 1280)
  let r1 := es.1
  let r2 := (List.range 64).foldl (fun q t => q.endTile t) r1
  { rd := { r2 with
      staged := some es.2.1, groups := g, chain := n + 1, xfUsed := xfOccupied r2 n
      acc := clearAcc r2.acc 1024 n, busAcc := clearAcc r2.busAcc 256 n }
    feeds := fs.2, busSat := bs.2, egSat := es.2.2 }

/-- The registers of the feed chain and the correction engine at the end of a block (R175, R201). -/
def State.chainRegs (s : State) (u : UnitId) (b : BlockRun) : State :=
  let put := fun (s : State) (a v : Nat) => s.setReg (.unit u) a v
  let count := fun (p : Nat × FeedRun → Bool) => (b.feeds.filter p).length
  let s1 := put (put s 0x20020008 b.rd.xfUsed) 0x2002000C (count (fun e => e.2.gated))
  let s2 := put s1 0x20020010 (b.rd.feeds.filter (fun e => decide (e.2.g < 2 ^ 23))).length
  let s3 := put (put s2 0x20020014 (b.rd.feeds.filter (fun e => e.2.sil.silent)).length) 0x2002001C b.rd.groups
  put (put s3 0x20021008 ((b.feeds.map (fun e => e.2.cost)).sum)) 0x2002100C (count (fun e => e.2.cost != 0))

/-- A block is due for the feed chain: committed, every tile done, every Novil job ended, with no switch of the graph still to
make for it (R18, R267). -/
def RUnit.chainReady (x : RUnit) : Bool :=
  decide (x.rd.chain < x.rd.commit) && (List.range 64).all x.rd.tileDone && x.nv.endedAll x.rd.chain &&
    !x.nv.next.any (fun g => decide (g.1 ≤ x.rd.chain))

/-- FEED_CHAIN_BLOCK: the feeds, buses and egress channels of the block whose accumulators are complete (R140, R141). Which of
several events of one block is the first (R176, R202): log entry 165. -/
def execFeedChainBlock (u : UnitId) (checks : List ChainCheck) (s : State) : Host.Outcome State Fault Refusal :=
  let x := s.unit u
  let n := x.rd.chain
  if ¬ s.unitRuns u ∨ x.chainReady = false then .next s
  else
    let b := x.rd.runBlock s.rate (natBit (s.reg (.unit u) 0x20020000) 0) checks n
    let s1 := s.onRd u (fun _ => b.rd)
    let s2 := b.feeds.foldl (fun t e => t.feedFlags u e) s1
    let s3 := checks.foldl (fun t c => t.chainCheck u n c) s2
    let s4 := if b.busSat then s3.fcSet u 0 8 else s3
    let s5 := if b.egSat then s4.fcSet u 0 16 else s4
    .next (((s5.siltCounts u n).chainRegs u b).feedSilNotes u n x.rd b.rd (List.range 1024))

end Sys2Proof.Machine
end

