-- ==== Sys2Proof/Machine/Images.lean ====
section
/-!
DEFINITION. Firmware images (R435 to R437): their header, the checks of the boot ROMs, and their identity entries.
-/
namespace Sys2Proof.Machine
open Sys2Proof

/-- `n` bytes of an image from an offset, most significant first. -/
def imgField (b : List Byte) (off n : Nat) : Nat := beNat ((b.drop off).take n)

/-- VERSION of an image (R435). -/
def imgVersion (b : List Byte) : Nat := imgField b 8 4
/-- SEC_VERSION of an image (R435). -/
def imgSec (b : List Byte) : Nat := imgField b 12 4
/-- RESULT_CLASS of an image (R435). -/
def imgClass (b : List Byte) : Nat := imgField b 16 4

/-- The header fields of an image of a kind (1 management, 2 control) have the values and ranges of R435. -/
def imgHeaderOk (kind : Nat) (b : List Byte) : Bool :=
  let len := imgField b 20 4
  decide (192 ≤ b.length) && imgField b 0 4 == 0x57414C49 && imgField b 4 1 == kind && imgField b 5 1 == 0xB1 &&
    imgField b 6 2 == 0 && decide (imgSec b ≤ 63) && (kind == 2 || imgClass b == 0) &&
    len == b.length && decide (len ≤ if kind = 1 then 393216 else 917504) &&
    ((b.drop 88).take 40).all (· == 0)

/-- An image is accepted (R436): its header, the digest of its key, its signature, and the anti-rollback counter. -/
def imgAccept (kind : Nat) (otpKey : List Byte) (counter : Nat) (b : List Byte) : Bool :=
  let key := (b.drop 24).take 64
  imgHeaderOk kind b && sha256 key == otpKey && ecdsaVerify key (b.drop (b.length - 64)) (b.take (b.length - 64)) &&
    decide (counter ≤ imgSec b)

/-- A management image passes R436 on this device. -/
def Subsoil.mgmtOk (p : Subsoil) (slot : Nat) : Bool :=
  imgAccept 1 p.otpKeyDigest p.otpMgmt (p.mgmtSlots.getD slot [])

/-- The control image of a region passes R436 on this device. -/
def Subsoil.ctrlOk (p : Subsoil) (region : Nat) : Bool :=
  imgAccept 2 p.otpKeyDigest p.otpCtrl (p.ctrlRegions.getD region [])

/-- The valid copy of the boot directory with the higher generation (R438). -/
def newestDir : List BootDir → Option BootDir
  | [] => none
  | d :: l =>
    match newestDir l with
    | some e => if d.valid ∧ e.gen < d.gen then some d else some e
    | none => if d.valid then some d else none

/-- The valid copy with the higher generation (R434). -/
def newestCopy (l : List StoreCopy) : Option StoreCopy :=
  l.foldl (fun m c => if c.valid && m.all (fun d => decide (d.gen < c.gen)) then some c else m) none

/-- A save writes the older copy, one generation higher than the newer (R434). -/
def saveCopy (l : List StoreCopy) (vals : Assoc DVal) (trained : List (List Nat)) : List StoreCopy :=
  let rank := fun (c : StoreCopy) => if c.valid then c.gen + 1 else 0
  let older := if rank (l.getD 1 {}) < rank (l.getD 0 {}) then 1 else 0
  lset l older ⟨((newestCopy l).map (·.gen)).getD 0 + 1, true, vals, trained⟩

/-- The copies of which the CRC-32 of some is found wrong; the copies are numbered from `base`. -/
def spoilCopies (l : List StoreCopy) (base : Nat) (bad : List Nat) : List StoreCopy :=
  l.mapIdx (fun i c => { c with valid := c.valid && !bad.contains (base + i) })

/-- Neither copy is valid, and not because both are erased (R381, R434). -/
def ignoredCopies (l : List StoreCopy) : Bool := (newestCopy l).isNone && l.any (fun c => c.gen != 0)

/-- The values of the kept entries that a start takes (R381). -/
def copyVals (l : List StoreCopy) : Assoc DVal := ((newestCopy l).map (·.vals)).getD []

/-- The boot directory that is in force; without a valid copy, slot A, no trial, region 0 (log entry 8). -/
def Subsoil.dir (p : Subsoil) : BootDir := (newestDir p.dirs).getD ⟨0, 0, false, 0, 0, false⟩

/-- Writing the boot directory: the older copy is replaced, one generation higher (R438). -/
def Subsoil.writeDir (p : Subsoil) (d : BootDir) : Subsoil :=
  { p with dirs := [{ d with gen := p.dir.gen + 1, valid := true }] ++ (newestDir p.dirs).toList }

/-- The management image of a slot runs: it is loaded whole into core SRAM from its base, and shows its version, digest and slot
(0x1000:08, 09, 0xD100:06; R435, R436, R438). -/
def State.identMgmt (s0 : State) (slot : Nat) : State :=
  let b := s0.sub.mgmtSlots.getD slot []
  let s := { s0 with sub := { s0.sub with mgmtMem := cellWrites s0.sub.mgmtMem 0 b } }
  (((s.setFeN 0x1000 8 0 (imgVersion b)).setFe 0x1000 9 0 (.bytes (sha256 b))).setFeN 0xD100 6 0 slot)

/-- The LP5 regions that the control firmware reserves: 64 KiB units, and the masters that may read and write them. They are the
bulk delay rings, the correction engine's regions, the Novil private and exchange regions, and the Sieve's spill region (R151,
R190, R260, R495, R511). -/
def reservedRegions : List (Nat × Nat) := [(16384, 0x040), (28576, 0x020), (32768, 0x01E), (256, 0x080)]

/-- Where a reserved region begins: the regions stand in their order, each after a gap that the firmware chooses, so that none
passes the end of LP5 memory and none meets another (log entry 168). -/
def regionStart (u : UnitId) (w : Nat) : Nat :=
  ((List.range (w + 1)).map (fun k => Config.regionBase u.toNat k % 13273)).sum + ((reservedRegions.take w).map (·.1)).sum

/-- Window `w` of the LP5 controller reserves a region for its masters (R495, R499; log entry 168). -/
def State.reserve (s : State) (u : UnitId) (w : Nat) : State :=
  let r := reservedRegions.getD w (0, 0)
  let base := regionStart u w
  let a := 0x20070200 + 0x10 * w
  ((s.setReg (.unit u) a base).setReg (.unit u) (a + 4) (base + r.1 - 1)).setReg (.unit u) (a + 8) (r.2 * 65537)

/-- A unit's control image is loaded: it overwrites core SRAM from its base, the firmware reserves its LP5 regions, and the image
shows its version, digest and class (0x1000:0A, 0B; R234, R344, R435, R495). -/
def State.identCtrl (s : State) (u : UnitId) (b : List Byte) : State :=
  let s1 := (s.setFeN 0x1000 0xA u.toNat (imgVersion b)).setFe 0x1000 0xB u.toNat (.bytes (sha256 b))
  let s2 := s1.onUnit u (fun r => { r with
    hl := { r.hl with resultClass := imgClass b }, fab := { r.fab with core := cellWrites r.fab.core 0 b } })
  [0, 1, 2, 3].foldl (fun (t : State) w => t.reserve u w) s2

/-- The control anti-rollback counter follows the images of both units while both are in step (R437). -/
def State.raiseCtrl (s : State) : State :=
  let sec := fun (i : Nat) => ((s.sub.loadedRegion.getD i none).map (fun k => imgSec (s.sub.ctrlRegions.getD k []))).getD 0
  let step := fun (h : HealthSt) => h.loaded && h.enabled && h.resync.phase == 0 && !h.need
  let v := min 63 (min (sec 0) (sec 1))
  if step s.ua.hl && step s.ub.hl && decide (s.sub.otpCtrl < v) then { s with sub := { s.sub with otpCtrl := v } } else s

end Sys2Proof.Machine
end

