-- ==== Sys2Proof/Machine/Redundancy.lean ====
section
/-!
DEFINITION. Unit redundancy (chapter 07): health and claims, block seals and the compute deadline, the bridge heartbeat,
and resynchronisation.
-/
namespace Sys2Proof.Machine
open Sys2Proof

/-! ### The start of a unit's rendering (R445, R551) -/

/-- A journal record that sets a value: no layout write and no emission. -/
def JRec.setsValue (j : JRec) : Bool := !isLayoutKey j.key && j.key != emissionKey

/-- Records up to sample `x` are folded into the settings in force, by apply index (R63). -/
def foldPend (cfg : Assoc DVal) (pend : List JRec) (x : Nat) : Assoc DVal :=
  pend.foldl (fun m j =>
    if j.setsValue && decide (j.apply ≤ x) then putVal m j.key (valueAt cfg pend j.key x) else m) cfg

/-- The records left after a fold up to sample `x`. -/
def leftPend (pend : List JRec) (x : Nat) : List JRec := pend.filter (fun j => !(j.setsValue && decide (j.apply ≤ x)))

/-- What an object keeps from one RENDER to the next: its status and counters, which the zero state of R203 does not name, and
the silent state until the next block end; its run counter starts at 0 (R79, R81, R130, R161). -/
def ObjState.kept (o : ObjState) : ObjState :=
  { status := o.status, clampCount := o.clampCount, slopeCount := o.slopeCount, kfDrops := o.kfDrops, gapDue := o.gapDue
    sil := { c := 0, silent := o.sil.silent } }

/-- What a feed keeps from one RENDER to the next: its sticky bits and CLIP_COUNT, and the live bits, the gain shown and the
silent state of the last block end (R156, R161, R165). -/
def FeedState.kept (f : FeedState) : FeedState :=
  { sticky := f.sticky, live := f.live, clips := f.clips, gEnd := f.gEnd, sil := { c := 0, silent := f.sil.silent } }

/-- The render path at the first block of a RENDER: the zero state, settings and layout in force at `b`, the keyframe FIFOs as
they stand, and the status that no start clears (R112, R147, R186, R203, R551; log entry 167). -/
def Render.fresh (r : Render) (b : Nat) : Render :=
  let x := 32 * b
  let l := layoutFold r.layout r.pend b
  let t := buildAll l
  { cfg := layoutFold (foldPend r.cfg r.pend x) r.pend b
    pend := r.pend.filter (fun j => decide (x < j.apply) || (j.key == emissionKey && j.kind == 5 && decide (x = j.apply)))
    kfPend := r.kfPend, kf := r.kf, groups := r.groups, expo := r.expo
    objs := r.objs.map (fun e => (e.1, e.2.kept)), feeds := r.feeds.map (fun e => (e.1, e.2.kept)), layout := l, tri := t, geo := buildGeo l t
    inq := r.inq.filter (fun q => decide (b ≤ q.block))
    commit := b, lawBlk := b, chain := b
    tiles := (List.range 64).map (fun t => (t, { lawBlk := b })), slots := r.slots, upload := r.upload
    jrd := r.jrd }

/-- The Novil part at a RENDER entry: regions are zeroed and constants reloaded (R267). -/
def NovilArray.fresh (img : Nat → List Byte) (v : NovilArray) (b : Nat) : NovilArray :=
  let v2 := v.graph.foldl (fun a j => a.loadJob img j) v
  let v3 := (List.range 16).foldl (fun a e =>
    let x := a.engine e
    a.setEngine e { page := x.page, pmem := x.pmem, x := x.x, y := x.y, blk := b, slotsLast := x.slotsLast
                    dmaLast := x.dmaLast, winLast := x.winLast, slotsPeak := x.slotsPeak, lastBlk := x.lastBlk }) v2
  { v3 with ended := [], slotsNow := [], exch := v3.exch, reportNow := [] }

/-- ENABLE of a unit in force at sample `x`. -/
def enableAt (r : Render) (u : UnitId) (x : Nat) : Bool := r.n 0x9000 7 u.toNat x == 1

/-- A record of a key with value 1 is pending up to sample `x`. -/
def pendingOne (r : Render) (k x : Nat) : Bool :=
  r.pend.any (fun j => j.key == k && j.wins && j.val == .num 1 && decide (j.apply ≤ x))

/-- A unit's health state at the first block of a RENDER; an ENABLE, RESYNC or UPDATE write deferred to `b` acts there, and a
unit disabled otherwise stays disabled (R65, R214). -/
def HealthSt.fresh (h : HealthSt) (r : Render) (u : UnitId) (b : Nat) : HealthSt :=
  let up := pendingOne r (dkey 0x9030 2 u.toNat) (32 * b)
  { h with
    enabled := if r.pend.any (fun j => j.key == dkey 0x9000 7 u.toNat && j.wins && decide (j.apply ≤ 32 * b))
      then enableAt r u (32 * b) else h.enabled
    resync := {}, need := pendingOne r (dkey 0x9000 6 u.toNat) (32 * b)
    returning := false, blkFaults := [], blk := b, healths := [], ceNow := 0, ceLast := 0, margins := []
    heard := [], hbRun := 16, hbLost := false, hbFrom := b + 2
    loaded := h.loaded && !up, loading := h.loading || up
    update := if up then 1 else if h.update = 2 ∨ h.update = 3 then 0 else h.update }

/-- A clearing write acts in a unit (R81, R130, R139, R156, R164, R272, R399). -/
def applyClear (u : UnitId) (j : JRec) (s : State) : State :=
  let i := keyIdx j.key
  let b := keySub j.key
  let e := keyElem j.key
  let v := j.val.toNat
  if i = 0x4000 ∧ b = 0x31 then
    s.onRd u (fun r =>
      let o := r.obj e
      r.setObj e { o with
        status := o.status - (o.status &&& v &&& 0x38)
        kfDrops := if natBit v 3 then 0 else o.kfDrops
        clampCount := if natBit v 4 then 0 else o.clampCount
        slopeCount := if natBit v 5 then 0 else o.slopeCount })
  else if i = 0x6000 ∧ b = 8 then
    s.onRd u (fun r =>
      let f := agetD r.feeds e {}
      { r with feeds := aputD r.feeds e { f with sticky := f.sticky - (f.sticky &&& v &&& 0x14) } {} })
  else if i = 0x6400 ∧ b = 0x12 ∧ v = 1 then
    s.onRd u (fun r =>
      let f := agetD r.feeds e {}
      { r with feeds := aputD r.feeds e { f with sticky := f.sticky - (f.sticky &&& 0x10), clips := 0 } {} })
  else if i = 0x8200 ∧ b = 3 ∧ v = 1 ∧ e / 16 = u.toNat then
    s.onNv u (fun n => n.setEngine (e % 16) { n.engine (e % 16) with slotsPeak := 0 })
  else if i = 0x8210 ∧ b = 5 ∧ v = 1 then
    s.onNv u (fun n => { n with stops := adel n.stops e, faults := adel n.faults e, lastFault := adel n.lastFault e })
  else if i = 0xE100 ∧ b = 3 ∧ e / 64 = u.toNat then s.clearStat (.unit u) (0x20001004 + 0x10 * (e % 64)) v
  else if i = 0xE000 ∧ b = 7 ∧ v = 1 then s.clearDiag u
  else s

/-- Every clearing write of a list acts in a unit. -/
def applyClears (u : UnitId) : List JRec → State → State
  | [], s => s
  | j :: l, s => applyClears u l (applyClear u j s)

/-- A unit starts rendering with block `b`: in step from the zero state where it is enabled (R214, R225, R445). The clearing
writes that its settings take up there act in it, a graph whose switch block has come is switched, and its warnings of an
earlier RENDER are over (R210, R267). -/
def State.beginUnit (s : State) (u : UnitId) (b : Nat) : State :=
  let due := (s.unit u).rd.pend.filter (fun j => j.setsValue && j.wins && decide (j.apply ≤ 32 * b))
  let s1 := (applyClears u due s).passGraph u b
  let calm := fun (l : List Bool) => lset l u.toNat false
  { s1 with sub := { s1.sub with
      win := { s1.sub.win with slow := calm s1.sub.win.slow }, slowLast := calm s1.sub.slowLast } }.onUnit u (fun r => { r with
    rd := r.rd.fresh b
    nv := r.nv.fresh s.image b
    sv := { r.sv with flowEnded := [] }
    hl := r.hl.fresh r.rd u b })

/-- The blocks before the end of a RENDER are computed: the unit stops, or starts on the RENDER that follows. -/
def State.tailEnd (s : State) (u : UnitId) : State :=
  let r := (s.unit u).rd
  match r.endBlk with
  | none => s
  | some e =>
    if (s.unit u).hl.blk < e then s
    else
      let s1 := (s.onRd u (fun r => { r with endBlk := none, beginBlk := none })).onUnit u (fun r => { r with
        hl := { r.hl with resync := {}, need := false } })
      match r.beginBlk with
      | some b => s1.beginUnit u b
      | none => s1

/-! ### Health, claims and seals (R210 to R216) -/

/-- The unit's completion margin or corrected errors call for a warning (R210). -/
def State.unitWarns (s : State) (u : UnitId) : Bool :=
  let h := (s.unit u).hl
  let lim := (s.unit u).rd.n 0x9000 0xB u.toNat s.tb.sidx
  s.sub.win.slow.getD u.toNat false || s.sub.slowLast.getD u.toNat false || decide (lim < h.ceNow) || decide (lim < h.ceLast)

/-- The health of a unit for a block: the lowest of the rows of R210 whose condition holds. -/
def State.healthAt (s : State) (u : UnitId) (n : Nat) : Nat :=
  let h := (s.unit u).hl
  if !h.enabled || !h.loaded || h.loading then 0
  else if h.resync.phase ≠ 0 ∨ h.need then 2
  else if agetD h.blkFaults n 0 % 64 ≠ 0 then 6
  else if s.unitWarns u then 12
  else if h.returning then 14
  else 15

/-- The claim of a unit with a health at a block (R211). -/
def State.claimAt (s : State) (u : UnitId) (n health : Nat) : Nat :=
  let r := (s.unit u).rd
  16 * min health (r.n 0x9000 4 u.toNat (32 * n)) + r.n 0x9000 3 u.toNat (32 * n)

/-- The byte string that a seal's CRC covers: 163,841 bytes (R215). -/
def sealBytes (o : OutBlock) : List Byte :=
  (List.range 32).flatMap (fun j => (List.range 1280).flatMap (fun e =>
    beBytes 4 (toUnsigned 32 (agetD o.words (1280 * j + e) 0)))) ++ [BitVec.ofNat 8 o.sil]

/-- A seal reaches the arbiter. -/
def Arbiter.takeSeal (a : Arbiter) (u : UnitId) (q : Seal) : Arbiter :=
  match u with
  | .a => { a with sealsA := q :: a.sealsA.take 1 }
  | .b => { a with sealsB := q :: a.sealsB.take 1 }

/-- A late check report reaches the arbiter. -/
def Arbiter.takeLate (a : Arbiter) (u : UnitId) (q : Nat × Bool) : Arbiter :=
  match u with
  | .a => { a with latesA := q :: a.latesA.take 1 }
  | .b => { a with latesB := q :: a.latesB.take 1 }

/-- The arbiter has had the report of a unit on a block. -/
def Arbiter.reported (a : Arbiter) (u : UnitId) (m : Nat) : Bool :=
  (match u with
    | .a => a.latesA
    | .b => a.latesB).any (fun e => e.1 == m)

/-- A unit's output words reach its copy of the staging memory (R219). -/
def Arbiter.stage (a : Arbiter) (u : UnitId) (o : OutBlock) : Arbiter :=
  match u with
  | .a => { a with stageA := o :: a.stageA.take 1 }
  | .b => { a with stageB := o :: a.stageB.take 1 }

/-- A block of a unit with health 6 is counted and logged (R238, R240, R456). -/
def State.countFault (s : State) (u : UnitId) (n : Nat) : State :=
  ((s.countReg (.unit u) 0x20090020 1).countFe 0x9000 9 u.toNat 1).evqLog u.toNat 0x0021 (1 + u.toNat) 2 n (u.toNat + 256)

/-- A unit closes block `n` with a health: the seal is its last one, a fault block is counted and logged, AUTO_PROMOTE ends
the returning state after its first block, and the source's own values are those read from then on (R210 to R212, R553). -/
def State.closeBlock (s : State) (u : UnitId) (q : Seal) (health : Nat) : State :=
  let n := q.block
  let auto := (s.unit u).rd.n 0x9010 3 0 (32 * n) == 1
  let s1 := s.onUnit u (fun r => { r with hl := { r.hl with
    last := some q, lastHealth := health, healths := (n, health) :: r.hl.healths.take 3
    blk := n + 1, blkFaults := r.hl.blkFaults.filter (fun e => n < e.1)
    returning := r.hl.returning && !auto
    update := if r.hl.returning && auto && r.hl.update == 3 then 0 else r.hl.update } })
  let s2 := s1.onArb (fun a => if a.source = u then { a with reads := u } else a)
  (if health = 6 then s2.countFault u n else s2).tailEnd u

/-- The completion margin of a unit's block closed now: B(n+L) as the media clock stands now, minus now, in whole ns, and the PTP
second of that deadline (R448). -/
def State.marginNow (s : State) (n : Nat) : Int × Nat :=
  let d := s.tb.ticksTo (tickTime s.rate s.tb.offset (32 * (n + s.arb.lat))) * s.tb.incr
  ((d / nsUnit : Nat), (s.tb.now + d) / secUnit)

/-- The monitor is to count a block's margin: in RENDER only (R448). -/
def State.noteMargin (s : State) (u : UnitId) (n : Nat) (m : Int) (sec : Nat) : State :=
  if s.rendering then s.onUnit u (fun r => { r with hl := { r.hl with margins := r.hl.margins ++ [(n, m, sec)] } }) else s

/-! ### The compute deadline (R134, R216, R244) -/

/-- The tiles whose lanes have not finished the block stop (R134). -/
def Render.stopTiles (r : Render) (n : Nat) : Render :=
  (List.range 64).foldl (fun (q : Render) t =>
    { q with tiles := aput q.tiles t { (q.tile t).rollTo (n + 1) with pos := 0, unitsNow := 0, skipNow := 0 } }) r

/-- The render path moves past block `n`, which was not completed. -/
def Render.abandon (r : Render) (n : Nat) : Render :=
  { r.stopTiles n with
    commit := max r.commit (n + 1), lawBlk := max r.lawBlk (n + 1), chain := max r.chain (n + 1)
    inq := r.inq.filter (fun q => decide (n < q.block)), acc := clearAcc r.acc 1024 n, busAcc := clearAcc r.busAcc 256 n
    staged := none }

/-- The jobs of one engine that have not ended in block `n` are stopped, and the engine shows an overrun (R244). -/
def State.stopEngine (s : State) (u : UnitId) (n e : Nat) : State :=
  let v := (s.unit u).nv
  let x := v.engine e
  let open_ := (v.jobsOn e).filter (fun j => decide (agetD v.ended j.id 0 ≤ n))
  if open_.isEmpty ∨ x.blk ≠ n then s
  else
    let s1 := s.setStat (.unit u) (nvReg e 4) 4
    let s2 := match x.job.bind (fun id => v.graph.find? (fun j => j.id == id)) with
      | some j => s1.nvEndJob u e j x
      | none => s1
    let s3 := s2.onNv u (fun v => { v with
      ended := open_.foldl (fun m j => aput m j.id (n + 1)) v.ended
      slotsNow := open_.foldl (fun m j => if some j.id = x.job then m else adel m j.id) v.slotsNow })
    if ((s3.unit u).nv.engine e).blk = n then s3.onNv u (fun v => v.closeEngine e) else s3

/-- A unit closes its block `n` as an overrun, with health 6 at most and a CRC field of 0; unfinished lanes and jobs are
stopped; its margin is recorded as -1 ns (R134, R216, R244, R448). -/
def State.closeOverrun (s : State) (u : UnitId) (n : Nat) : State :=
  let r := (s.unit u).rd
  let late := r.chain ≤ n && (List.range 64).any (fun t => !r.tileDone t)
  let s1 := if late then s.siltSet u 0 4 else s
  let s2 := (List.range 16).foldl (fun (t : State) e => t.stopEngine u n e) ((s1.passGraph u n).blockFault u n 2)
  let h := s2.healthAt u n
  ((s2.onRd u (fun r => r.abandon n)).noteMargin u n (-1) s.tb.sec).closeBlock u ⟨n, s2.claimAt u n h, 0⟩ h

/-- SEAL_CLOSE: a unit whose block is complete closes it with its seal, which reaches the arbiter directly; one that comes
after B(n+L) has missed the deadline and closes the block as an overrun (R56, R215, R216). -/
def execSealClose (u : UnitId) (s : State) : Host.Outcome State Fault Refusal :=
  let n := (s.unit u).hl.blk
  match (s.unit u).rd.staged with
  | none => .next s
  | some o =>
    if ¬ s.unitRuns u ∨ o.block ≠ n then .next s
    else if 32 * (n + s.arb.lat) < s.tb.sidx then .next (s.closeOverrun u n)
    else
      let h := s.healthAt u n
      let q : Seal := ⟨n, s.claimAt u n h, crc64 (sealBytes o)⟩
      .next (((s.onArb (fun a => (a.stage u o).takeSeal u q)).noteMargin u n (s.marginNow n).1 (s.marginNow n).2).closeBlock u q h)

/-- COMPUTE_DEADLINE: at B(n+L) a block that a unit has not closed is closed with health 6 and a CRC field of 0; unfinished
lanes and jobs are stopped (R134, R216, R244). -/
def execComputeDeadline (u : UnitId) (s : State) : Host.Outcome State Fault Refusal :=
  let n := (s.unit u).hl.blk
  if ¬ s.unitRuns u ∨ s.tb.sidx < 32 * (n + s.arb.lat) ∨ ¬ s.arb.run ∨ ((s.unit u).rd.endBlk.any (fun e => decide (e ≤ n))) then
    .next s
  else .next (s.closeOverrun u n)

/-- The oldest block that a unit has closed, whose report the arbiter still takes and has not had (R216). -/
def State.reportBlock (s : State) (u : UnitId) : Option (Nat × Nat) :=
  (s.unit u).hl.healths.reverse.find? (fun e =>
    decide (s.tb.sidx < 32 * (e.1 + s.arb.lat) + s.relC) && !s.arb.reported u e.1)

/-- LATE_CHECK_REPORT: before B(n+L) + C a unit reports whether every check on the samples of a closed block has passed; a
failure counts as health 6, and the block as one with health 6 unless its health was lower (R216). -/
def execLateCheckReport (u : UnitId) (ok : Bool) (s : State) : Host.Outcome State Fault Refusal :=
  match s.reportBlock u with
  | none => .next s
  | some e =>
    if ¬ s.arb.run then .next s
    else
      let s1 := s.onArb (fun a => a.takeLate u (e.1, ok))
      if ok then .next s1
      else
        let s2 := s1.setStat (.unit u) 0x20090008 0x20
        if e.2 ≤ 6 then .next s2
        else
          .next ((s2.onUnit u (fun r => { r with hl := { r.hl with
            healths := r.hl.healths.map (fun q => if q.1 = e.1 then (q.1, 6) else q) } })).countFault u e.1)

/-! ### The bridge heartbeat (R24, R25, R225) -/

/-- HEARTBEAT_RECEIVE: the other unit's last seal record arrives over the bridge. After a recorded loss the records of 16
consecutive blocks are counted; a single missing one breaks that count only (R225). -/
def execHeartbeatReceive (u : UnitId) (s : State) : Host.Outcome State Fault Refusal :=
  match (s.unit u.other).hl.last with
  | none => .next s
  | some q =>
    let h := (s.unit u).hl
    let prev := (h.heard.head?).map (fun e => e.2.block)
    if prev = some q.block then .next s
    else
      let run := if 16 ≤ h.hbRun ∨ prev = none ∨ prev.map (· + 1) = some q.block then h.hbRun + 1 else 1
      .next (s.onUnit u (fun r => { r with hl := { r.hl with
        heard := (s.tb.sidx, q) :: r.hl.heard.take 7, hbRun := run, hbLost := false } }))

/-- The seal record of block `k` has arrived in time (R25). -/
def State.heardInTime (s : State) (u : UnitId) (k : Nat) : Bool :=
  (s.unit u).hl.heard.any (fun e => e.2.block == k && decide (e.1 ≤ 32 * (k + s.arb.lat) + s.relC))

/-- HEARTBEAT_LOSS: at B(n+L) + C with the seal records of blocks n - 2 to n all missing; the bit sets again after three
further blocks (R25). -/
def execHeartbeatLoss (u : UnitId) (s : State) : Host.Outcome State Fault Refusal :=
  let h := (s.unit u).hl
  let n := (s.tb.sidx - s.relC) / 32 - s.arb.lat
  if ¬ s.unitRuns u ∨ ¬ s.arb.run ∨ n < h.hbFrom ∨ s.heardInTime u n ∨ s.heardInTime u (n - 1) ∨ s.heardInTime u (n - 2) then
    .next s
  else
    let s1 := s.onUnit u (fun r => { r with hl := { r.hl with hbLost := true, hbRun := 0, hbFrom := n + 3 } })
    .next (s1.setStat (.unit u) 0x200A0000 1)

/-! ### Resynchronisation (R227 to R233) -/

/-- The bytes of the configuration sweep, S1 (R230). -/
def State.sweepBytes (s : State) (r : Render) : Nat :=
  8000000 + ((List.range 32).map (fun k => (s.image k).length)).sum +
    100663296 * (r.slots.filter (fun e => !e.2.image.isEmpty)).length

/-- The regions of a kind of the jobs of a graph, with their jobs. -/
def graphRegions (img : Nat → List Byte) (g : List NvJob) (kind : Nat) : List (NvJob × NvRegion) :=
  g.flatMap (fun j => ((imgRegions (img j.image)).filter (fun r => r.kind == kind)).map (fun r => (j, r)))

/-- W_N: the largest window of the loaded jobs (R230, R269). -/
def State.windowN (s : State) (v : NovilArray) : Nat :=
  ((graphRegions s.image v.graph 2).map (fun e => e.2.window)).foldl max 0

/-- The bytes of carried state (R230). -/
def State.carriedBytes (s : State) (v : NovilArray) : Nat := 4 * ((graphRegions s.image v.graph 1).map (fun e => e.2.words)).sum

/-- Division rounded up. -/
def ceilDiv (a b : Nat) : Nat := (a + b - 1) / b

/-- A record inserted by apply index. -/
def insertByApply (j : JRec) : List JRec → List JRec
  | [] => [j]
  | k :: l => if k.apply ≤ j.apply then k :: insertByApply j l else j :: k :: l

/-- B_max: the largest BULK in force, or pending for a block before the end of phase 8, which may depend on it (R230). -/
def bulkMax (r : Render) (stop : Nat → Nat) (b0 : Nat) : Nat :=
  let now := ((List.range 1024).map (fun f => r.n 0x6000 4 f (32 * r.chain))).foldl max b0
  let due := ((r.pend.filter (fun j => keyIdx j.key == 0x6000 && keySub j.key == 4)).foldl
    (fun l j => insertByApply j l) [])
  due.foldl (fun b j => if j.apply < 32 * stop b then max b j.val.toNat else b) now

/-- The length of phase 6 in blocks for a B_max (R230). -/
def State.waitLen (s : State) (b : Nat) : Nat := ceilDiv ((if s.rate == 96000 then 10240 else 18432) + b) 32

/-- The length in blocks of a phase other than phase 6, for the unit that is the source (R230). -/
def State.phaseLen (s : State) (src : RUnit) (p : Nat) : Nat :=
  let hi := s.rate == 96000
  match p with
  | 1 => ceilDiv (s.sweepBytes src.rd) (if hi then 4000000 else 8000000)
  | 2 => if hi then 10 else 6
  | 3 => ceilDiv (8192 + s.windowN src.nv) 32
  | 4 => ceilDiv (s.carriedBytes src.nv) (if hi then 2097152 else 4194304)
  | 8 => 16
  | _ => 1

/-- The words `lo` to `hi - 1` of the regions of a kind, counted through all of them, copied from one unit's Novil memories to
the other's (R229, R230, R269). -/
def copyRegions (img : Nat → List Byte) (kind lo hi : Nat) (src tgt : NovilArray) : NovilArray :=
  ((graphRegions img src.graph kind).foldl (fun (a : NovilArray × Nat) e =>
    let v := a.1
    let j := e.1
    let r := e.2
    let x := v.engine j.engine
    let y := src.engine j.engine
    let k := max lo a.2 - a.2
    let n := min (a.2 + r.words) hi - (a.2 + k)
    let take := fun (m : Assoc Nat) (b : Nat) => (List.range n).map (fun i => agetD m (b + i) 0)
    let w :=
      if r.mem = 0 then v.setEngine j.engine { x with x := putWords x.x (j.xBase + r.start + k) (take y.x (j.xBase + r.start + k)) }
      else if r.mem = 1 then
        v.setEngine j.engine { x with y := putWords x.y (j.yBase + r.start + k) (take y.y (j.yBase + r.start + k)) }
      else
        let b := 25165824 * j.engine + j.lpBase + r.start + k
        { v with priv := putWords v.priv b (take src.priv b) }
    (w, a.2 + r.words)) (tgt, 0)).1

/-- The filter change of the source: its position and the filters that it crosses; staged contributions and the zero run are
windowed and stay the target's own (R174, R186). -/
def FilterState.head (src tgt : FilterState) : FilterState :=
  { tgt with taps := src.taps, old := src.old, slot := src.slot, start := src.start, len := src.len }

/-- The feed-chain head of the source: trims, factors, biquads and route positions (R174, R230). -/
def FeedState.head (src tgt : FeedState) : FeedState :=
  { tgt with
    trim := src.trim, factor := src.factor, bq := src.bq, bulk := src.bulk
    filt := src.filt.map (fun p => p.head (tgt.filt.getD { taps := [], old := [], slot := 255 })) }

/-- The feed-chain tail of the source: limiters and silence counters (R230). -/
def FeedState.tail (src tgt : FeedState) : FeedState :=
  { tgt with env := src.env, ms := src.ms, g := src.g, sil := src.sil }

/-- Every feed's state by a copy. -/
def copyFeeds (f : FeedState → FeedState → FeedState) (src tgt : Assoc FeedState) : Assoc FeedState :=
  (List.range 1024).foldl (fun m k => aputD m k (f (agetD src k {}) (agetD tgt k {})) {}) tgt

/-- The buses' mute factors and the positions of their sends' routes, of the feed-chain head; and their stepped gains, of the
tail (R230). -/
def BusState.head (src tgt : BusState) : BusState := { tgt with factor := src.factor, sends := src.sends }

/-- The stepped gains of a bus. -/
def BusState.tail (src tgt : BusState) : BusState := { tgt with gain := src.gain, sendGain := src.sendGain }

/-- Every bus's state by a copy. -/
def copyBuses (f : BusState → BusState → BusState) (src tgt : Assoc BusState) : Assoc BusState :=
  (List.range 256).foldl (fun m k => aputD m k (f (agetD src k {}) (agetD tgt k {})) {}) tgt

/-- Every egress channel's state by a copy. -/
def copyEg (f : EgState → EgState → EgState) (src tgt : Assoc EgState) : Assoc EgState :=
  (List.range 1280).foldl (fun m k => aputD m k (f (agetD src k {}) (agetD tgt k {})) {}) tgt

/-- An object's state by a copy: the zero run, the sticky status and the counters stay the target's own (R113, R174,
R230). -/
def ObjState.copied (src tgt : ObjState) : ObjState :=
  { src with
    zrun := tgt.zrun, status := (src.status - (src.status &&& 0x38)) ||| (tgt.status &&& 0x38), kfDrops := tgt.kfDrops
    clampCount := tgt.clampCount, slopeCount := tgt.slopeCount, clampBlk := tgt.clampBlk, slopeBlk := tgt.slopeBlk }

/-- Every object's state by a copy. -/
def copyObjs (src tgt : Assoc ObjState) : Assoc ObjState :=
  (List.range 1024).foldl (fun m k => aputD m k ((agetD src k {}).copied (agetD tgt k {})) {}) tgt

/-- What phases 1, 5 and 7 copy from the source to the target (R229, R230). -/
def copyPhase (img : Nat → List Byte) (p : Nat) (src tgt : RUnit) : RUnit :=
  match p with
  | 1 =>
    let v := (List.range 16).foldl (fun (v : NovilArray) e =>
      v.setEngine e { v.engine e with pmem := (src.nv.engine e).pmem, page := (src.nv.engine e).page })
      { tgt.nv with graph := src.nv.graph, since := src.nv.since, next := src.nv.next }
    { tgt with
      rd := { tgt.rd with
        cfg := src.rd.cfg, pend := src.rd.pend, kfPend := src.rd.kfPend, layout := src.rd.layout, tri := src.rd.tri
        geo := src.rd.geo, slots := src.rd.slots, upload := src.rd.upload, jrd := src.rd.jrd }
      nv := copyRegions img 0 0 (2 ^ 40) src.nv v }
  | 5 => { tgt with rd := { tgt.rd with
      feeds := copyFeeds FeedState.head src.rd.feeds tgt.rd.feeds
      buses := copyBuses BusState.head src.rd.buses tgt.rd.buses
      eg := copyEg (fun a b => { b with route := a.route }) src.rd.eg tgt.rd.eg } }
  | 7 => { tgt with rd := { tgt.rd with
      expo := src.rd.expo
      feeds := copyFeeds FeedState.tail src.rd.feeds tgt.rd.feeds
      buses := copyBuses BusState.tail src.rd.buses tgt.rd.buses
      eg := copyEg (fun a b => { b with gain := a.gain }) src.rd.eg tgt.rd.eg } }
  | _ => tgt

/-- Chunk `c` of phase 2: flow state and object preprocessing, the trajectories, and then pair memory in tile order, 8 tiles a
chunk at 96 kHz and 16 at 48 kHz (R229, R230). -/
def copyUpstream (hi : Bool) (c : Nat) (src tgt : RUnit) : RUnit :=
  if c = 0 then { tgt with
      rd := { tgt.rd with objs := copyObjs src.rd.objs tgt.rd.objs }
      sv := { tgt.sv with flowEnded := src.sv.flowEnded } }
  else if c = 1 then { tgt with rd := { tgt.rd with kf := src.rd.kf, laws := src.rd.laws } }
  else
    let w := if hi then 8 else 16
    let inChunk := fun (k : Nat) => w * (c - 2) ≤ k && k < w * (c - 1)
    let kept := tgt.rd.pairs.filter (fun e => !inChunk (e.1 / 16384))
    let new := src.rd.pairs.filter (fun e => inChunk (e.1 / 16384))
    { tgt with rd := { tgt.rd with
        pairs := kept.filter (fun e => decide (e.1 < 16384 * (w * (c - 2)))) ++ new ++
          kept.filter (fun e => decide (16384 * (w * (c - 1)) ≤ e.1))
        tiles := ((List.range 64).filter inChunk).foldl (fun m t => aput m t (src.rd.tile t)) tgt.rd.tiles } }

/-- The state that the source has forwarded in a block of phase 2 or 4, its chunk `c` (R229, R230). -/
def copyChunk (img : Nat → List Byte) (hi : Bool) (p c : Nat) (src tgt : RUnit) : RUnit :=
  if p = 2 then copyUpstream hi c src tgt
  else
    let w := if hi then 524288 else 1048576
    { tgt with nv := copyRegions img 1 (w * c) (w * (c + 1)) src.nv tgt.nv }

/-- Both units stand at the same place in their blocks. -/
def sameBlock (a b : RUnit) : Bool :=
  a.hl.blk == b.hl.blk && a.rd.commit == b.rd.commit && a.rd.chain == b.rd.chain && a.rd.lawBlk == b.rd.lawBlk

/-- The target takes up the source's place in the block sequence. -/
def joinUnit (src tgt : RUnit) : RUnit :=
  if sameBlock src tgt then tgt
  else
    { tgt with
      rd := { tgt.rd with
        commit := src.rd.commit, chain := src.rd.chain, lawBlk := src.rd.lawBlk, tiles := src.rd.tiles, inq := src.rd.inq
        acc := [], busAcc := [], staged := none, endBlk := src.rd.endBlk, beginBlk := src.rd.beginBlk }
      nv := { tgt.nv with ended := src.nv.ended, eng := tgt.nv.eng.map (fun e =>
        (e.1, { e.2 with blk := (src.nv.engine e.1).blk, job := none, loops := [], stack := [], xfers := [] })) }
      hl := { tgt.hl with blk := src.hl.blk, hbFrom := src.hl.blk + 2 } }

/-- The source is in step with health 12 or more (R228). -/
def State.sourceOk (s : State) (u : UnitId) : Bool :=
  let h := (s.unit u.other).hl
  s.unitRuns u.other && h.resync.phase == 0 && !h.need && decide (12 ≤ s.healthAt u.other h.blk)

/-- A committed image waits in the unit. -/
def Render.slotsWait (r : Render) : Bool := r.slots.any (fun e => e.2.next.isSome)

/-- The unit that the front end reads: the source at the last completed block (R553). -/
def State.srcUnit (s : State) : RUnit := s.unit s.arb.reads

/-- CS_STATE: fading while the changes of a switch last (R195). -/
def State.csState (s : State) (k : Nat) : Nat :=
  let v := s.feN 0x6200 4 k
  if v = 1 ∧ s.rendering ∧ s.tb.sidx / 32 ≤ agetD s.dam.csEnd k 0 then 3 else v

/-- A correction slot is pending or fading (R228). -/
def State.slotsBusy (s : State) : Bool := (List.range 8).any (fun k => 2 ≤ s.csState k)

/-- A rebuild of a double-buffered table is accepted and has not switched: a filter table, the ingress or egress map, the layout
or the Novil graph (R64, R228). -/
def State.mapRebuilds (s : State) : Bool :=
  s.dam.rebuilds.any (fun e => !e.2.isEmpty) || s.feN 0x8010 3 0 == 2 ||
    s.fePend.any (fun j => isLayoutKey j.key || j.key == dkey 0x8010 2 0) || s.fePend.any (fun j => decide (s.tb.sidx < j.apply) &&
    (match dictFind (keyIdx j.key) (keySub j.key) with
      | some e => e.tbl == .ingress || e.tbl == .egress
      | none => false))

/-- The conditions under which phase 1 begins (R225, R228, R232). -/
def State.phase1Ok (s : State) (u : UnitId) : Bool :=
  let src := s.unit u.other
  let h := (s.unit u).hl
  s.sourceOk u && !s.mapRebuilds && !(src.rd.pend.any (fun j => isLayoutKey j.key)) && src.nv.next.isNone && !src.rd.slotsWait && !s.slotsBusy &&
    decide (16 ≤ h.hbRun) && decide (16 ≤ src.hl.hbRun) && (!h.resync.aborted || decide (16 ≤ h.resync.okRun))

/-- A unit's resynchronisation replaced. -/
def State.setResync (s : State) (u : UnitId) (x : Resync) : State :=
  s.onUnit u (fun r => { r with hl := { r.hl with resync := x } })

/-- Phase 1 begins where its conditions hold (R228). -/
def State.tryPhase1 (s : State) (u : UnitId) : State :=
  let h := (s.unit u).hl
  if s.phase1Ok u then s.setResync u { h.resync with phase := 1, first := h.blk, chunks := 0, aborted := false, okRun := 0 }
  else s

/-- RESYNC_START: a resynchronisation that has been called for starts and waits for the conditions of phase 1 (R227,
R228). -/
def execResyncStart (u : UnitId) (s : State) : Host.Outcome State Fault Refusal :=
  let h := (s.unit u).hl
  if ¬ h.need ∨ ¬ s.unitRuns u ∨ h.resync.phase ≠ 0 then .next s
  else
    let s1 := if s.unitRuns u.other then s.onUnit u (fun r => joinUnit (s.unit u.other) r) else s
    let s2 := s1.onUnit u (fun r => { r with hl := { r.hl with
      need := false, returning := false, update := if r.hl.update = 3 then 0 else r.hl.update } })
    .next ((s2.setResync u { phase := 15, start := h.blk }).tryPhase1 u)

/-- The phase that follows phase `p`: phase 4 is left out where it is empty. -/
def State.nextPhase (s : State) (src : RUnit) (p : Nat) : Nat :=
  if p = 3 ∧ s.phaseLen src 4 = 0 then 5 else p + 1

/-- B_max of a resynchronisation as it stands: phase 8 ends 17 blocks after phase 6 (R230). -/
def State.resyncBulk (s : State) (u : UnitId) : Nat :=
  let x := (s.unit u).hl.resync
  bulkMax (s.unit u.other).rd (fun b =>
    if x.phase = 6 then x.first + s.waitLen b + 17 else if x.phase = 7 then x.first + 17 else x.first + 16) x.bMax

/-- The length of a unit's present phase in blocks (R230). -/
def State.resyncLen (s : State) (u : UnitId) : Nat :=
  let x := (s.unit u).hl.resync
  if x.phase = 6 then s.waitLen (s.resyncBulk u) else s.phaseLen (s.unit u.other) x.phase

/-- The blocks of a phase that are done once the unit has closed those before block `n`: phases 2 and 4 copy one chunk a
block. -/
def Resync.blocksDone (x : Resync) (n len : Nat) : Nat :=
  if x.phase = 2 ∨ x.phase = 4 then x.chunks + 1 else min len (n - x.first)

/-- B_max as it stands where phase 6 begins (R230). -/
def State.firstBulk (s : State) (u : UnitId) : Nat :=
  (s.setResync u { (s.unit u).hl.resync with phase := 6, first := (s.unit u).hl.blk, bMax := 0 }).resyncBulk u

/-- RESYNC_PHASE_ADVANCE: a waiting resynchronisation enters phase 1, the chunk of a block that both units have closed reaches
the target, a phase whose blocks have elapsed is followed by the next, and a raised B_max returns to phase 6 (R228 to
R230). -/
def execResyncPhaseAdvance (u : UnitId) (s : State) : Host.Outcome State Fault Refusal :=
  let h := (s.unit u).hl
  let x := h.resync
  let src := s.unit u.other
  let b := s.resyncBulk u
  if x.phase = 0 ∨ ¬ s.unitRuns u then .next s
  else if x.phase = 15 then .next (s.tryPhase1 u)
  else if (x.phase = 7 ∨ x.phase = 8) ∧ x.bMax < b then
    .next (s.setResync u { x with phase := 6, first := h.blk, chunks := 0, bMax := b, matchRun := 0 })
  else if x.phase = 8 ∨ sameBlock src (s.unit u) = false ∨ h.blk ≤ x.first + x.chunks then .next s
  else
    let len := s.resyncLen u
    let c := x.blocksDone h.blk len
    let bm := if x.phase = 6 then b else x.bMax
    let s1 :=
      if x.phase = 2 ∨ x.phase = 4 then s.onUnit u (fun r => copyChunk s.image (s.rate == 96000) x.phase x.chunks src r)
      else if c < len then s
      else if x.phase = 1 then (s.onUnit u (fun r => copyPhase s.image 1 src r)).paceEngines u src.nv.graph
      else s.onUnit u (fun r => copyPhase s.image x.phase src r)
    if c < len then .next (s1.setResync u { x with chunks := c, bMax := bm })
    else
      .next (s1.setResync u { x with
        phase := s.nextPhase src x.phase, first := h.blk, chunks := 0, matchRun := 0, judge := h.blk
        bMax := if x.phase = 5 then s1.firstBulk u else bm })

/-- A resynchronisation is complete: the unit is returning (R212, R231). -/
def State.resyncDone (s : State) (u : UnitId) (m : Nat) : State :=
  let s1 := s.onUnit u (fun r => { r with hl := { r.hl with
    resync := {}, returning := true, retSeq := s.sub.jseq, resyncDone := min 65535 (r.hl.resyncDone + 1)
    update := if r.hl.update = 2 then 3 else r.hl.update } })
  (s1.evqLog u.toNat 0x0021 (1 + u.toNat) 0 m (u.toNat + 2 * 256)).raiseCtrl

/-- An attempt has failed: phase 2 again, or after the third the unit is disabled (R231). -/
def State.resyncFailed (s : State) (u : UnitId) (m : Nat) : State :=
  let h := (s.unit u).hl
  let x := h.resync
  let s1 := s.onUnit u (fun r => { r with hl := { r.hl with resyncFails := min 65535 (r.hl.resyncFails + 1) } })
  if x.attempts < 2 then
    s1.setResync u { x with phase := 2, first := h.blk, chunks := 0, attempts := x.attempts + 1, matchRun := 0, bMax := 0 }
  else
    let s2 := s1.onUnit u (fun r => { r with hl := { r.hl with
      resync := {}, enabled := false, update := if r.hl.update = 2 then 4 else r.hl.update } })
    (s2.setStat (.unit u) 0x20090008 0x80).evqLog u.toNat 0x0021 (1 + u.toNat) 2 m (u.toNat + 3 * 256)

/-- The source's seal for the last decided block was eligible. -/
def State.sourceElig (s : State) (u : UnitId) : Bool :=
  match u with
  | .a => s.arb.eligB
  | .b => s.arb.eligA

/-- SEAL_MATCH: in phase 8 the last decided block counts where both seals are present with equal CRCs, and otherwise the
attempt has failed (R231); one for which the source's seal was not eligible counts neither way, since it aborts the
resynchronisation (R232). -/
def execSealMatch (u : UnitId) (s : State) : Host.Outcome State Fault Refusal :=
  let x := (s.unit u).hl.resync
  let m := s.arb.decided - s.arb.lat
  if x.phase ≠ 8 ∨ m < x.judge ∨ ¬ s.unitRuns u ∨ s.sourceElig u = false then .next s
  else
    let same := s.arb.sealOfA.isSome && (s.arb.sealOfA.map (·.crc)) == (s.arb.sealOfB.map (·.crc))
    if same = false then .next (s.resyncFailed u m)
    else if x.matchRun < 15 then .next (s.setResync u { x with matchRun := x.matchRun + 1, judge := m + 1 })
    else .next (s.resyncDone u m)

/-- RESYNC_ABORT: heartbeat loss, or a source whose seal for a block of the resynchronisation was not eligible, aborts it, also
while it waits for phase 1; no attempt is counted (R232). -/
def execResyncAbort (u : UnitId) (s : State) : Host.Outcome State Fault Refusal :=
  let x := (s.unit u).hl.resync
  let srcOk : Bool := s.sourceElig u || decide (s.arb.decided < x.start + s.arb.lat)
  if x.phase = 0 ∨ x.aborted ∨ (srcOk ∧ ¬ s.ua.hl.hbLost ∧ ¬ s.ub.hl.hbLost) then .next s
  else .next (s.setResync u { phase := 15, start := x.start, attempts := x.attempts, aborted := true })

/-! ### PROMOTE and UPDATE at their apply blocks (R212, R234) -/

/-- The record of a key with value 1 that a unit's next block reaches. -/
def dueOne (x : RUnit) (k : Nat) : Option JRec :=
  x.rd.pend.find? (fun j => j.key == k && j.wins && j.val == .num 1 && decide (j.apply ≤ 32 * x.hl.blk))

/-- A record is taken out of a unit's pending writes and its value kept. -/
def Render.consume (r : Render) (j : JRec) : Render :=
  { r with pend := r.pend.filter (fun q => q.jseq ≠ j.jseq), cfg := putVal r.cfg j.key j.val }

/-- PROMOTE_APPLY: from its apply block a returning unit claims without the row for health 14; a write accepted before the unit
last began to return has no effect (R212). -/
def execPromoteApply (u : UnitId) (s : State) : Host.Outcome State Fault Refusal :=
  match dueOne (s.unit u) (dkey 0x9000 5 u.toNat) with
  | none => .next s
  | some j =>
    let s1 := s.onRd u (fun r => r.consume j)
    if (s.unit u).hl.returning ∧ (s.unit u).hl.retSeq ≤ j.jseq then
      .next (s1.onUnit u (fun r => { r with hl := { r.hl with
        returning := false, update := if r.hl.update == 3 then 0 else r.hl.update } }))
    else .next s1

/-- UPDATE_APPLY: at its apply block the unit is disabled and the staged control image is loaded (R234). -/
def execUpdateApply (u : UnitId) (s : State) : Host.Outcome State Fault Refusal :=
  match dueOne (s.unit u) (dkey 0x9030 2 u.toNat) with
  | none => .next s
  | some j =>
    .next (s.onUnit u (fun r => { r with
      rd := r.rd.consume j
      hl := { r.hl with loaded := false, loading := true, returning := false, resync := {}, need := false, update := 1 } }))

end Sys2Proof.Machine
end

