-- ==== Sys2Proof/Machine/Journal.lean ====
section
/-!
DEFINITION. The journal (R20, R62, R63, R366, R373, R462): accepted writes get their numbers, writes that meet at one apply
index are resolved, and each unit reads the journal ring into its own pending table.
-/
namespace Sys2Proof.Machine
open Sys2Proof

/-! ### Accepting a record -/

/-- A journal record loses at its index: in the journal, in the front end and in the units (R373). -/
def JRec.lose (q : Nat) (j : JRec) : JRec := if j.jseq = q then { j with wins := false } else j

/-- Record `q` no longer stands. -/
def State.loseRec (s : State) (q : Nat) : State :=
  let s1 := { s with
    fePend := s.fePend.map (JRec.lose q)
    dam := { s.dam with kfPend := s.dam.kfPend.map (JRec.lose q) }
    sub := { s.sub with journal := s.sub.journal.map (JRec.lose q) } }
  let f := fun (r : Render) => { r with pend := r.pend.map (JRec.lose q), kfPend := r.kfPend.map (JRec.lose q) }
  (s1.onRd .a f).onRd .b f

/-- A survey emission (R289). -/
def JRec.emits (j : JRec) : Bool := j.kind == 5 && j.key == emissionKey

/-- RATE and LATENCY_L: their writes are journaled, and act at once on the grid itself by which apply indices are counted (R59,
R358, log entry 85). -/
def gridKey (k : Nat) : Bool := keyIdx k == 0x2001 || keyIdx k == 0x2002

/-- A record competes with other writes to its element: no domain block, no gap marker and no emission (R373). -/
def JRec.competes (j : JRec) : Bool := j.kind != 1 && j.kind != 3 && keyIdx j.key != 0x4100 && !j.emits

/-- A write of a session with a priority wins over a standing record of another session (R373). -/
def winsOver (session prio : Nat) (j : JRec) : Bool := j.prio < prio || (j.prio == prio && session < j.session)

/-- The standing record at a key and an apply index. -/
def State.standing (s : State) (key apply : Nat) : Option JRec :=
  s.fePend.find? (fun j => j.key == key && j.apply == apply && j.wins && j.competes)

/-- A write of a session at a key and an apply index would lose at once (R373). -/
def State.wouldLose (s : State) (key apply session prio : Nat) : Bool :=
  match s.standing key apply with
  | some j => j.session != session && !winsOver session prio j
  | none => false

/-- A lost write is counted for its session and logged (R373, R375). -/
def State.conflict (s : State) (loser jseq : Nat) : State :=
  let x := s.sess loser
  let s1 := if loser = 0 then s else s.setSess loser { x with conflicts := min 0xFFFFFFFF (x.conflicts + 1) }
  s1.logEvent 0x0030 0 1 jseq (loser + 2 * 256)

/-- A standing record is displaced: by its own session in silence (R63), by another with a WRITE_LOST note (R373). -/
def State.displace (s : State) (old : JRec) (session : Nat) : State :=
  let s1 := s.loseRec old.jseq
  if old.session = session then s1
  else
    (s1.conflict old.session old.jseq).noteTo old.session
      ⟨2, old.key, old.apply / 32, beBytes 8 old.jseq ++ [BitVec.ofNat 8 session]⟩

/-- The record with its number enters the journal, of which the last 16,384 are kept, and the pending writes; a new slot
of the journal ring raises source 0x042 at both control cores (R366, R516). -/
def State.pushRec (s : State) (j : JRec) : State :=
  let l := s.sub.journal ++ [j]
  let s1 := { s with
    sub := { s.sub with jseq := s.sub.jseq + 1, journal := l.drop (l.length - 16384) }
    dam := { s.dam with kfPend := if j.key = dkey 0x4000 9 (keyElem j.key) then s.dam.kfPend ++ [j] else s.dam.kfPend }
    fePend := if j.kind = 1 ∨ j.kind = 3 ∨ j.emits ∨ gridKey j.key then s.fePend else s.fePend ++ [j] }
  (s1.raiseEdge .ua 0x42).raiseEdge .ub 0x42

/-- An accepted write is journaled; a write that meets another at its element and index displaces it or loses (R20, R63,
R366, R373). The record's number, jseq and wins fields are set here. -/
def State.addRec (s : State) (j : JRec) : State :=
  let k := { j with jseq := s.sub.jseq }
  match (if k.competes then s.standing k.key k.apply else none) with
  | none => s.pushRec { k with wins := true }
  | some old =>
    if old.session = k.session ∨ winsOver k.session k.prio old then (s.displace old k.session).pushRec { k with wins := true }
    else (s.conflict k.session k.jseq).pushRec { k with wins := false }

/-- The next journal number's record stood at once: the last record pushed. -/
def State.lastLost (s : State) : Bool :=
  match s.sub.journal.getLast? with
  | some j => !j.wins
  | none => false

/-- Session 0 journals an internal write (R366, R373). -/
def State.addInternal (s : State) (kind apply key : Nat) (v : DVal) : State :=
  s.addRec { jseq := 0, apply := apply, session := 0, kind := kind, key := key, val := v, prio := 16 }

/-- Writes pending at sample `x` (R62, R83). -/
def State.pendingCount (s : State) : Nat := (s.fePend.filter (fun j => decide (s.tb.sidx < j.apply))).length

/-- The journal ring is full for an enabled unit (R462). -/
def State.ringFull (s : State) : Bool :=
  let full := fun (r : RUnit) => r.hl.enabled && r.hl.loaded && decide (r.rd.jrd + 16384 < s.sub.jseq)
  full s.ua || full s.ub

/-! ### Reading the journal ring (R20, R462) -/

/-- A graph commit is taken up: the new code enters the shadow P pages (R266). -/
def NovilArray.commit (img : Nat → List Byte) (v : NovilArray) (g : Nat) (js : List NvJob) : NovilArray :=
  { js.foldl (fun a j => a.writeShadow img j) v with next := some (g, js) }

/-- A correction slot of a unit changed by a function. -/
def Render.onSlot (r : Render) (k : Nat) (f : CorrSlot → CorrSlot) : Render :=
  { r with slots := aputD r.slots k (f (agetD r.slots k {})) {} }

/-- A journal record enters a unit's pending table, its keyframe list, its upload staging, a correction slot or its graph
(R84, R192, R193, R194, R266). -/
def takeRec (img : Nat → List Byte) (graph : List Byte) (j : JRec) (r : RUnit) : RUnit :=
  let k := j.key
  let e := keyElem k
  let pend := fun (q : Render) => { q with pend := q.pend ++ [j] }
  if j.kind = 1 then
    if k = dkey 0x6200 1 e then { r with rd := { r.rd with upload := r.rd.upload.take j.off ++ j.part } } else r
  else if gridKey k then r
  else if keyIdx k = 0x4100 then { r with rd := { r.rd with kfPend := r.rd.kfPend ++ [j] } }
  else if k = dkey 0x4000 9 e then { r with rd := { pend r.rd with kfPend := r.rd.kfPend ++ [j] } }
  else if k = dkey 0x6200 1 e then { r with rd := { r.rd with upload := j.val.toBytes } }
  else if k = dkey 0x6200 2 e then
    { r with rd := r.rd.onSlot e (fun c => { c with next := some (j.apply, r.rd.upload) }) }
  else if k = dkey 0x6200 3 e then { r with rd := r.rd.onSlot e (fun c => { c with image := [], next := none }) }
  else if k = dkey 0x8010 2 0 then { r with nv := r.nv.commit img (j.apply / 32) (graphJobs graph) }
  else { r with rd := pend r.rd }

/-- JOURNAL_SLOT_READ: a unit whose firmware runs, and whose SRAM is not in retention (R442, R474), reads the next journal record; a gap in the numbers sets its journal-gap
fault (R20, R462). -/
def execJournalSlotRead (u : UnitId) (s : State) : Host.Outcome State Fault Refusal :=
  let r := s.unit u
  if ¬ r.hl.loaded ∨ s.awakeNow u < 64 ∨ ¬ natBit (s.reg .shared 0x30050000) 0 then .next s
  else
    match s.sub.journal.find? (fun j => decide (r.rd.jrd < j.jseq)) with
    | none => .next s
    | some j =>
      let s1 := s.onUnit u (takeRec s.image (s.fe (dkey 0x8010 1 0)).toBytes j)
      let s2 := s1.onRd u (fun q => { q with jrd := j.jseq })
      let s3 := if keyIdx j.key = 0x6200 ∧ keySub j.key = 2 then s2.setReg (.unit u) 0x2002101C (keyElem j.key) else s2
      if j.jseq = r.rd.jrd + 1 then .next s3
      else if s.unitRuns u then .next (s3.blockFault u r.hl.blk 3)
      else .next (s3.setStat (.unit u) 0x20090008 8)

end Sys2Proof.Machine
end

