-- ==== Sys2Proof/Machine/IslandDsp.lean ====
section
/-!
DEFINITION. The signal path of the metrology island (R405, R406, R409 to R411): modulators, decimation, combiner, weightings and
detectors. The modulators are ideal within their full scales (log entry 175); filters whose coefficients the spec does not
give are those of Config.
-/
namespace Sys2Proof.Machine
open Sys2Proof

/-! ### Modulators and decimation (R405, R409) -/

/-- Samples of a modulator in one island sample: 6.144 MHz over 48 kHz (R405, R409). -/
def modPerSample : Nat := 128

/-- Full scale of the high-gain and of the low-gain modulator in nV (R405). -/
def fullScale (high : Bool) : Int := if high then 250000000 else 5000000000

/-- What a modulator gives for a differential input in nV: the input within its full scale, and beyond it a value beyond it
(R405, R411). -/
def modulate (high : Bool) (v : Int) : Int :=
  let f := fullScale high
  if v < -f then -(f + 1 + Config.overdrive high v) else if f < v then f + 1 + Config.overdrive high v else v

/-- Sum of products of two lists. -/
def dotI (a b : List Int) : Int := (List.zipWith (fun x y => x * y) a b).sum

/-- One stage of the CIC: running sums of 16. -/
def boxcar (l : List Int) : List Int :=
  (List.range (l.length + 15)).map (fun i => ((List.range 16).map (fun j => if j ≤ i then l.getD (i - j) 0 else 0)).sum)

/-- The impulse response of the fifth-order CIC with decimation 16, of 76 samples (R409). -/
def cicTaps : List Int := boxcar (boxcar (boxcar (boxcar (List.replicate 16 1))))

/-- Outputs of the CIC for groups of 16 modulator samples, and the last 76 samples. -/
def cicRun : Nat → List Int → List Int → List Int × List Int
  | 0, _, h => ([], h)
  | n + 1, v, h =>
    let h1 := ((v.take 16).reverse ++ h).take 76
    let r := cicRun n (v.drop 16) h1
    (dotI cicTaps h1 :: r.1, r.2)

/-- Distance of tap `i` of `2 m + 1` from the middle. -/
def midDist (m i : Nat) : Nat := (i - m) + (m - i)

/-- The 23 taps of a half-band filter: those at an even distance from the middle are zero (R409). -/
def hbTaps (stage : Nat) : List Int :=
  (List.range 23).map (fun i => let d := midDist 11 i; if d ≠ 0 ∧ d % 2 = 0 then 0 else Config.hbTap stage d)

/-- The 127 taps of the final FIR, of linear phase (R409). -/
def firTaps : List Int := (List.range 127).map (fun i => Config.firTap (midDist 63 i))

/-- A filter over its last inputs, newest first, with decimation by 2 (R409): the outputs and the last inputs. -/
def halve (taps : List Int) (n : Nat) : List Int → List Int → List Int × List Int
  | a :: b :: l, h =>
    let h1 := (b :: a :: h).take n
    let r := halve taps n l h1
    (dotI taps h1 / 2 ^ 30 :: r.1, r.2)
  | _, h => ([], h)

/-! ### The combiner (R406) -/

/-- One sample of the 384 kHz streams through the combiner: the path in use's sample, and the state after it. -/
def IslSig.combine (q : IslSig) (c mode : Nat) (hi lo : Int) : Int × IslSig :=
  let full := fullScale true * 2 ^ 20
  let hot := decide (full ≤ 2 * (hi.natAbs : Int))
  let back := q.lowGain && q.below == 4096
  let lowNow := hot || (q.lowGain && !back)
  let m := Config.matchLow (Config.matchGain c) (Config.matchPhase c) lo q.lowPath
  let useLow := mode == 2 || (mode != 1 && lowNow)
  (if useLow then m else hi,
    { q with
      lowPath := lo
      lowGain := if mode = 0 then hot || q.lowGain else false
      below := if hot then 0 else if back then 4096 else if 5 * (hi.natAbs : Int) < 2 * full then min 4096 (q.below + 1) else 0 })

/-- The combiner over samples of both streams, oldest first. -/
def IslSig.combineAll (q : IslSig) (c mode : Nat) : List (Int × Int) → List Int × IslSig
  | [] => ([], q)
  | p :: l =>
    let r := q.combine c mode p.1 p.2
    let t := r.2.combineAll c mode l
    (r.1 :: t.1, t.2)

/-- The low-gain path is in use (R406). -/
def IslSig.usesLow (q : IslSig) (mode : Nat) : Bool := mode == 2 || (mode != 1 && q.lowGain && q.below != 4096)

/-! ### Weightings and detectors (R410, R411) -/

/-- The share of its value that an exponential keeps in one island sample, in units of 2^-64: the F and S time weightings of
125 ms and 1 s, and the envelope's decay of 20 dB/s (R410, R411). -/
def keepF : Int := fxRound 64 (fxExp (-(2 ^ fxBits / 6000)))
def keepS : Int := fxRound 64 (fxExp (-(2 ^ fxBits / 48000)))
def keepEnv : Int := fxRound 64 (fxExp (-((fxLn10 : Int) / 48000)))

/-- An exponential mean square after one sample. -/
def expMean (keep y x : Int) : Int := (y * keep + x * x * (2 ^ 64 - keep)) / 2 ^ 64

/-- Taps of the Z weighting and the bound on each, by which their sum stays below 0.0114 in magnitude: a filter that adds them to
its input is flat within 0.1 dB at every frequency (R410). -/
def zTaps : Nat := 64
def zBound : Int := 191260

/-- A tap of the Z weighting within its bound. -/
def zTapOf (j : Nat) : Int := Config.zTap j % (2 * zBound + 1) - zBound

/-- The Z weighting: a sample and the last inputs, newest first (R410). -/
def zWeigh (h : List Int) (x : Int) : Int × List Int :=
  let h1 := (x :: h).take zTaps
  (x + rneDiv (dotI ((List.range zTaps).map zTapOf) h1) (2 ^ 30), h1)

/-- The unit of the words in which the A-weighted signal's energy is held exactly in 64 bits: 256 nV in units of 2^-20 nV
(R411). -/
def energyUnit : Nat := 2 ^ 28

/-- An energy with a sample's square added, in 64 bits (R411). -/
def addEnergy (e : Nat) (x : Int) : Nat :=
  let w := rneDiv x energyUnit
  min (2 ^ 64 - 1) (e + (w * w).toNat)

/-- A sample of a channel through the weightings and the detectors. -/
def IslSig.detect (q : IslSig) (mode : Nat) (x : Int) : IslSig :=
  let a := Config.weigh 0 (q.weights.getD 0 []) x
  let c := Config.weigh 1 (q.weights.getD 1 []) x
  let z := zWeigh (q.weights.getD 2 []) x
  let f := expMean keepF q.meanF a.1
  let s := expMean keepS q.meanS a.1
  let e := max (x.natAbs : Int) (q.env * keepEnv / 2 ^ 64)
  { q with
    weights := [a.2, c.2, z.2], raw := (Config.rawWord z.1).toInt, meanF := f, meanS := s, env := e
    sumA := addEnergy q.sumA a.1, peakC := max q.peakC c.1.natAbs, maxF := max q.maxF f.toNat, maxS := max q.maxS s.toNat
    clipped := q.clipped || decide (fullScale (!q.usesLow mode) * 2 ^ 20 < e) }

/-- One island sample of channel `c`: the differential input in nV at the modulators' 128 samples passes the chain (R405 to
R411). -/
def IslSig.sample (q : IslSig) (c mode : Nat) (v : List Int) : IslSig :=
  let u := (List.range modPerSample).map (fun i => v.getD i 0)
  let hi := cicRun 8 (u.map (modulate true)) q.high
  let lo := cicRun 8 (u.map (modulate false)) q.low
  let p := { q with high := hi.2, low := lo.2 }.combineAll c mode (hi.1.zip lo.1)
  let h1 := halve (hbTaps 1) 23 p.1 p.2.hb1
  let h2 := halve (hbTaps 2) 23 h1.1 p.2.hb2
  let h3 := halve firTaps 127 h2.1 p.2.fir
  { p.2 with hb1 := h1.2, hb2 := h2.2, fir := h3.2 }.detect mode (h3.1.headD 0)

/-! ### What an interval has measured (R411) -/

/-- Ten times the logarithm of the ratio of a square to p0^2 at a sensitivity in uV/Pa, in units of 2^-16 dB; `free` for 0,
for which the formula gives no value (R408, R411). -/
def levelOf (free : Int) (sens sq : Nat) : Int :=
  if sq = 0 then free
  else satS 32 (rneShift fxBits (655360 * fxLn (2500 * sq) (sens * sens * 2 ^ 40) * 2 ^ fxBits / fxLn10))

/-- The results of the detectors over the interval (R411). -/
def IslSig.meas (q : IslSig) (sens : Nat) (free : Nat → Int) : IslMeas :=
  { energy := q.sumA
    peak := levelOf (free 0) sens (q.peakC * q.peakC)
    laf := levelOf (free 1) sens q.maxF
    las := levelOf (free 2) sens q.maxS
    overload := q.clipped }

/-- The detectors at the start of an interval: sums and maxima begin anew, filters go on. -/
def IslSig.newInterval (q : IslSig) : IslSig := { q with sumA := 0, peakC := 0, maxF := 0, maxS := 0, clipped := false }

end Sys2Proof.Machine
end

