-- ==== Sys2Proof/Machine/Net.lean ====
section
/-!
DEFINITION. The Ethernet ports (chapter 10, R299 to R318 and R338 to R344): receive tests, address filter, steering,
descriptor rings, transmission, interrupt moderation, and the link (R276 to R281 for modules, negotiation and peer delay).
-/
namespace Sys2Proof.Machine
open Sys2Proof

/-! ### Ports and their registers -/

/-- A drop or error counter of R338, from 0 RUNT to 7 TX_DESC_ERR, and its dictionary entry count; CNT_HOLD holds both. -/
def State.portCount (s : State) (p i : Nat) : State :=
  if natBit (s.portReg p 0) 4 then s else (s.countReg .shared (portBase p + 0x28 + 4 * i) 1).countFe 0x3020 (i + 1) p 1

/-- A frame counter that wraps: RX_FRAMES at 0x20, TX_FRAMES at 0x24. -/
def State.frameCount (s : State) (p off : Nat) : State :=
  s.setReg .shared (portBase p + off) ((s.portReg p off + 1) % 2 ^ 32)

/-- The receive and transmit constants of R303 in tenths of a nanosecond, by resolved speed and FEC code (R340). -/
def stampConst (speed fec : Nat) : Nat × Nat :=
  match speed, fec with
  | 1, _ => (582, 410)
  | 2, 0 => (264, 180)
  | 2, 1 => (973, 317)
  | 2, _ => (2489, 771)
  | 3, _ => (240, 160)
  | 4, _ => (800, 400)
  | 5, _ => (8000, 4000)
  | _, _ => (0, 0)

/-- The port stamps at the medium boundary (PORT_CTRL.TS_MEDIUM, 0x2010:06). -/
def State.tsMedium (s : State) (p : Nat) : Bool := natBit (s.feN 0x2010 6 0) p

/-- A time in nanoseconds since the epoch as seconds and nanoseconds. -/
def splitNs (t : Int) : Nat × Nat := (t.toNat / 1000000000 % 2 ^ 48, t.toNat % 1000000000)

/-- The present time moved by tenths of a nanosecond, the fraction discarded (R48, R303). -/
def State.stampAt (s : State) (tenths : Int) : Nat × Nat :=
  splitNs ((((s.tb.sec * 1000000000 + s.tb.ns) * 2 ^ 32 + s.tb.frac : Nat) * 10 + tenths * 2 ^ 32) / (10 * 2 ^ 32))

/-- The receive stamp of a frame that arrives now (R303). -/
def State.rxStamp (s : State) (p : Nat) : Nat × Nat :=
  let q := s.port p
  let phy := if p = 4 then s.feN 0x3000 0xA p else 0
  s.stampAt (if s.tsMedium p then -(((stampConst q.speed q.fec).1 + 10 * phy : Nat) : Int) else 0)

/-- The transmit stamp of a frame that leaves now (R303). -/
def State.txStamp (s : State) (p : Nat) : Nat × Nat :=
  let q := s.port p
  let phy := if p = 4 then s.feN 0x3000 0xB p else 0
  s.stampAt (if s.tsMedium p then (((stampConst q.speed q.fec).2 + 10 * phy : Nat) : Int) else 0)

/-! ### Frames -/

/-- `n` bytes of a frame from an offset as a number, most significant first. -/
def fbe (f : List Byte) (off n : Nat) : Nat := beNat ((f.drop off).take n)

/-- The frame carries a tag after its source address (R301). -/
def frameTagged (f : List Byte) : Bool := fbe f 12 2 == 0x8100 || fbe f 12 2 == 0x88A8

/-- Offset of the EtherType. -/
def etherOff (f : List Byte) : Nat := if frameTagged f then 16 else 12

/-- The EtherType. -/
def etherType (f : List Byte) : Nat := fbe f (etherOff f) 2

/-- An IPv4 UDP datagram. -/
structure Udp where
  src : Nat
  dst : Nat
  sport : Nat
  dport : Nat
  data : List Byte

/-- The IPv4 protocol of a frame, 256 where it carries none. -/
def ipProto (f : List Byte) : Nat :=
  let o := etherOff f + 2
  if etherType f = 0x0800 ∧ fbe f o 1 / 16 = 4 ∧ o + 20 ≤ f.length then fbe f (o + 9) 1 else 256

/-- The UDP datagram of a frame; fragments carry none. -/
def udpOf (f : List Byte) : Option Udp :=
  let o := etherOff f + 2
  let u := o + fbe f o 1 % 16 * 4
  let len := fbe f (u + 4) 2
  if ipProto f = 17 ∧ fbe f (o + 6) 2 % 0x4000 = 0 ∧ 8 ≤ len ∧ u + len ≤ f.length then
    some ⟨fbe f (o + 12) 4, fbe f (o + 16) 4, fbe f u 2, fbe f (u + 2) 2, (f.drop (u + 8)).take (len - 8)⟩
  else none

/-! ### Receive tests (R301, R304 to R308) -/

/-- MAC_ADDR of a port, from its registers. -/
def State.macOf (s : State) (p : Nat) : Nat := s.portReg p 0x10 % 65536 * 2 ^ 32 + s.portReg p 0xC

/-- The built-in group addresses of R304. -/
def builtinGroups : List Nat :=
  [0x011B19000000, 0x0180C200000E, 0x01005E000181, 0x01005E00006B, 0x01005E000001, 0x01005E7FFFFF]

/-- The hash bin of a group address (R305). -/
def hashBin (mac : Nat) : Nat := crc32 (beBytes 6 mac) / 2 ^ 20

/-- The VLAN rules refuse a frame (R308). -/
def State.vlanDrop (s : State) (p : Nat) (f : List Byte) : Bool :=
  let c := s.feN 0x3000 5 p
  if frameTagged f then
    let vid := fbe f 14 2 % 4096
    natBit c 1 && vid != 0 && !(List.range 16).any (fun i => s.feN 0x3010 1 (16 * p + i) == vid)
  else natBit c 2

/-- The address filter: whether a destination passes outright, and whether its hash bin is set (R304). -/
def State.addrPass (s : State) (p dst : Nat) : Bool :=
  natBit (s.portReg p 0) 2 || dst == 2 ^ 48 - 1 || dst == s.macOf p || builtinGroups.contains dst ||
    (dst != 0 && (s.port p).exact.any (fun e => e.1 == dst))

/-- The hash bin of a group destination is set (R304, R305). -/
def Port.hashPass (q : Port) (dst : Nat) : Bool := natBit dst 40 && q.hash.contains (hashBin dst)

/-- The receive ring that the first two rows of R310 give. -/
def State.steerFixed (s : State) (f : List Byte) : Option Nat :=
  let u := udpOf f
  let toPort := fun (n : Nat) => (u.map (fun d => d.dport == n)).getD false
  if etherType f = 0x88F7 ∨ toPort 319 ∨ toPort 320 then some 1
  else if toPort (s.feN 0xC000 1 0) ∨ toPort 9875 ∨ etherType f = 0x0806 ∨ ipProto f = 2 ∨ ipProto f = 1 then some 0
  else none

/-- The receive ring of R310. -/
def State.steer (s : State) (p : Nat) (f : List Byte) : Nat :=
  match s.steerFixed f with
  | some r => r
  | none =>
    match (s.port p).exact.find? (fun e => e.1 == fbe f 0 6 && decide (e.2 ≤ 3)) with
    | some e => e.2
    | none => 2

/-- The counter of the first test of R301 that drops a frame, of the size, FCS and VLAN tests. -/
def State.lineDrop (s : State) (p : Nat) (f : List Byte) (bad : Bool) : Option Nat :=
  let len := f.length + 4
  if len ≤ 63 then some 0
  else if s.portReg p 8 + (if frameTagged f then 4 else 0) < len then some 1
  else if bad then some 2
  else if s.vlanDrop p f then some 3
  else none

/-! ### Descriptor rings (R310 to R317, R341 to R344) -/

/-- The base address of a ring's registers. -/
def ringBase (p : Nat) (tx : Bool) (r : Nat) : Nat := portBase p + (if tx then 0x200 else 0x100) + 0x40 * r

/-- A word of a ring's registers. -/
def State.ringReg (s : State) (p : Nat) (tx : Bool) (r off : Nat) : Nat := s.reg .shared (ringBase p tx r + off)

/-- A ring's live part. -/
def State.ring (s : State) (p : Nat) (tx : Bool) (r : Nat) : Ring :=
  (if tx then (s.port p).tx else (s.port p).rx).getD r {}

/-- The state with a ring's live part replaced. -/
def State.setRing (s : State) (p : Nat) (tx : Bool) (r : Nat) (g : Ring) : State :=
  let q := s.port p
  s.setPort p (if tx then { q with tx := lset q.tx r g } else { q with rx := lset q.rx r g })

/-- Descriptors of a ring (R342). -/
def State.ringSize (s : State) (p : Nat) (tx : Bool) (r : Nat) : Nat :=
  2 ^ (min 8 (natBits (s.ringReg p tx r 0) 1 4) + 4)

/-- MEM of a ring (R342). -/
def State.ringMem (s : State) (p : Nat) (tx : Bool) (r : Nat) : Nat := natBits (s.ringReg p tx r 0) 5 2

/-- A unit's core SRAM is available to ring DMA (R344), and its matrix does not hold master 10 in reset (R470). -/
def State.coreAvail (s : State) (u : UnitId) : Bool :=
  s.sub.coreUp && s.sub.power != .off && s.sub.power != .standby && s.sub.power != .idle &&
    decide (64 ≤ s.awakeNow u) && !(s.unit u).hl.loading && decide (10 ∉ (s.unit u).fab.draining)

/-- A ring memory is available (R342, R344); the rings of the management SRAM stop during a management restart (R454). -/
def State.memAvail (s : State) (m : Nat) : Bool :=
  match m with
  | 0 => !s.sub.restarting
  | 1 => s.coreAvail .a
  | 2 => s.coreAvail .b
  | _ => false

/-- The cells of a ring memory. -/
def State.memCells (s : State) (m : Nat) : List Host.Cell :=
  match m with
  | 0 => s.sub.mgmtMem
  | 1 => s.ua.fab.core
  | _ => s.ub.fab.core

/-- The state with bytes of a ring memory written; a unit's core SRAM is written by master 10 (R464, R469). -/
def State.memPut (s : State) (m off : Nat) (b : List Byte) : State :=
  let put := fun (r : RUnit) =>
    { r with fab := { r.fab with core := cellWrites r.fab.core off b }.clearResv 10 (0x08000000 + off) b.length }
  match m with
  | 0 => { s with sub := { s.sub with mgmtMem := cellWrites s.sub.mgmtMem off b } }
  | 1 => s.onUnit .a put
  | _ => s.onUnit .b put

/-- The level of a ring of `n` descriptors (R316). -/
def Ring.level (g : Ring) (tx : Bool) (n : Nat) : Nat :=
  let d := (g.tail + n - g.head % n) % n
  if tx then d else n - 1 - d

/-- A ring's level (R316). -/
def State.ringLevel (s : State) (p : Nat) (tx : Bool) (r : Nat) : Nat := (s.ring p tx r).level tx (s.ringSize p tx r)

/-- A ring's peak and its watermark follow the change of its level from an earlier state (R316). -/
def State.followLevel (s old : State) (p : Nat) (tx : Bool) (r : Nat) : State :=
  let before := old.ringLevel p tx r
  let now := s.ringLevel p tx r
  let wm := s.ringReg p tx r 0x18
  let g := s.ring p tx r
  let s1 := s.setRing p tx r { g with peak := max g.peak now }
  if wm ≠ 0 ∧ before < wm ∧ wm ≤ now then s1.setStat .shared (ringBase p tx r + 0x20) 1 else s1

/-- A ring moves (R316). -/
def State.moveRing (s : State) (p : Nat) (tx : Bool) (r : Nat) (g : Ring) : State := (s.setRing p tx r g).followLevel s p tx r

/-- A ring's interrupt at the core of IRQ_DST (R317, R342, R516). -/
def State.ringIrq (s : State) (p : Nat) (tx : Bool) (r : Nat) : State :=
  let n := 4 * p + r
  match natBits (s.ringReg p tx r 0) 7 2 with
  | 0 => s.raiseEdge .mgmt ((if tx then 0x48 else 0x30) + n)
  | 1 => s.raiseEdge .ua ((if tx then 0x78 else 0x60) + n)
  | 2 => s.raiseEdge .ub ((if tx then 0x78 else 0x60) + n)
  | _ => s

/-- Byte offset of a descriptor (R341; 32 bytes each). -/
def State.descOff (s : State) (p : Nat) (tx : Bool) (r i : Nat) : Nat :=
  s.ringReg p tx r 4 + 32 * (i % s.ringSize p tx r)

/-- A descriptor's word; words are stored least significant byte first. -/
def State.descWord (s : State) (p : Nat) (tx : Bool) (r i w : Nat) : Nat :=
  leNat (cellReads (s.memCells (s.ringMem p tx r)) (s.descOff p tx r i + 4 * w) 4)

/-- The state with a descriptor's words from `w` on written. -/
def State.putDesc (s : State) (p : Nat) (tx : Bool) (r i w : Nat) (ws : List Nat) : State :=
  s.memPut (s.ringMem p tx r) (s.descOff p tx r i + 4 * w) (ws.flatMap (leBytes 4))

/-- The software stamps of a ring's frames are taken, in the receive interrupt (R48, R311). -/
def State.softStamps (s : State) (p r : Nat) : List Nat → State
  | [] => s
  | i :: l =>
    let t := s.rxStamp p
    (s.putDesc p false r i 3 [t.2, t.1 % 2 ^ 32, t.1 / 2 ^ 32]).softStamps p r l

/-- The ring's unsignalled completions are signalled (R48, R317). -/
def State.ringSignal (s : State) (p : Nat) (tx : Bool) (r : Nat) : State :=
  let g := s.ring p tx r
  ((s.softStamps p r (if tx then [] else g.soft)).setRing p tx r { g with unsig := 0, soft := [] }).ringIrq p tx r

/-- A completion of a ring (R317). -/
def State.ringDone (s : State) (p : Nat) (tx : Bool) (r : Nat) : State :=
  let g := s.ring p tx r
  let c := s.ringReg p tx r 0
  let us := natBits c 24 8
  let g' := { g with unsig := g.unsig + 1, since := if g.unsig = 0 then s.tb.us else g.since, modUs := us }
  let s1 := s.setRing p tx r g'
  if us = 0 ∨ max 1 (natBits c 16 8) ≤ g'.unsig then s1.ringSignal p tx r else s1

/-- The receive buffer size of a ring in bytes (R341). -/
def State.rxBuf (s : State) (p r : Nat) : Nat := 64 * max 4 (s.ringReg p false r 8 % 256)

/-- A received frame as the rings take it. -/
structure RxFrame where
  data : List Byte
  stripped : Bool
  tci : Nat
  /-- The stamp is taken in the receive interrupt (R48). -/
  soft : Bool
  /-- The receive stamp of a frame on ring 1. -/
  stamp : Option (Nat × Nat)

/-- The written-back descriptor words 1 to 7 of buffer `k` of `n`, with `len` bytes (R311). -/
def RxFrame.descWords (x : RxFrame) (k n len : Nat) : List Nat :=
  let bit := fun (b : Bool) (i : Nat) => if b then 2 ^ i else 0
  let t := x.stamp.getD (0, 0)
  let eop := k + 1 == n
  [len + bit (k == 0) 16 + bit eop 17 + bit x.stripped 18 + bit x.stamp.isSome 19,
    x.tci + (if eop then x.data.length % 65536 * 65536 else 0), t.2, t.1 % 2 ^ 32, t.1 / 2 ^ 32, 0, 0]

/-- Buffers `k` and following of a frame are filled and their descriptors written back, the first of them last (R312). -/
def State.writeBack (s : State) (p r head n : Nat) (x : RxFrame) : Nat → State
  | 0 => s
  | m + 1 =>
    let k := m
    let sz := s.rxBuf p r
    let part := (x.data.drop (k * sz)).take sz
    let addr := s.descWord p false r (head + k) 0
    let s1 := s.memPut (s.ringMem p false r) addr part
    (s1.putDesc p false r (head + k) 1 (x.descWords k n part.length)).writeBack p r head n x m

/-- A frame lost for lack of buffers (R310, R312, R344). -/
def State.noBuf (s : State) (p r : Nat) : State :=
  (s.portCount p 5).setStat .shared (ringBase p false r + 0x20) 0x20

/-- A frame goes to a receive ring: whole, or not at all (R310, R312, R344). The first answer says that it was
delivered. -/
def State.toRing (s : State) (p r : Nat) (x : RxFrame) : Bool × State :=
  if ¬ natBit (s.ringReg p false r 0) 0 then (false, s.portCount p 5)
  else if ¬ s.memAvail (s.ringMem p false r) then (false, s.noBuf p r)
  else
    let g := s.ring p false r
    let size := s.ringSize p false r
    let owned := (g.tail + size - g.head % size) % size
    let n := max 1 ((x.data.length + s.rxBuf p r - 1) / s.rxBuf p r)
    if owned < n then (false, s.noBuf p r)
    else
      let s1 := s.writeBack p r g.head n x n
      let s2 := s1.moveRing p false r { g with head := (g.head + n) % size, soft := if x.soft then g.soft ++ [g.head] else g.soft }
      (true, (s2.ringDone p false r).frameCount p 0x20)

/-- Stages of a port's receive FIFO in use now: the ring DMA empties it as time goes on (R313; log entry 119). -/
def Port.level (q : Port) (now : Nat) : Nat := if q.fifoAt = now then q.fifo else 0

/-- The receive FIFO holds `stages` stages with a frame that arrives: its peak, and its watermark as the level rises through
48 (R313, R340). -/
def State.rxFifo (s : State) (p stages : Nat) : State :=
  let n := min 64 stages
  let q := s.port p
  let s0 := s.setPort p { q with fifo := n, fifoAt := s.tb.now }
  let s1 := if natBit (s.portReg p 0) 4 then s0
    else s0.setReg .shared (portBase p + 0x48) (max (s.portReg p 0x48) n)
  if q.level s.tb.now < 48 ∧ 48 ≤ n then s1.setStat .shared (portBase p + 4) 0x100 else s1

/-! ### What Subsoil sends and answers (R280, R307) -/

/-- A message of Subsoil leaves a port that sends, and counts as a frame (R338, R339). -/
def State.sendMsg (s : State) (p : Nat) (o : Out) : State := if s.txOn p then (s.emit o).frameCount p 0x24 else s

/-- The 16-bit words of bytes summed with end-around carry. -/
def onesSum : List Byte → Nat → Nat
  | a :: b :: l, acc =>
    let t := acc + a.toNat * 256 + b.toNat
    onesSum l (t % 65536 + t / 65536)
  | [a], acc => (acc + a.toNat * 256) % 65536 + (acc + a.toNat * 256) / 65536
  | [], acc => acc

/-- An IPv4 header with its checksum (RFC 791): type of service, total length, identification and fragment bits, TTL, protocol,
addresses, and options. -/
def ipHeader (tos len frag ttl proto src dst : Nat) (opts : List Byte) : List Byte :=
  let a := beBytes 1 (0x45 + opts.length / 4) ++ beBytes 1 tos ++ beBytes 2 len ++ beBytes 4 frag ++ beBytes 1 ttl ++ beBytes 1 proto
  let b := beBytes 4 src ++ beBytes 4 dst ++ opts
  a ++ beBytes 2 (65535 - onesSum (a ++ b) 0) ++ b

/-- The identification and the bit that forbids fragments, which the spec does not give, from a free number. -/
def fragWord (free : Nat) : Nat := free % 65536 * 65536 + free / 65536 % 2 * 0x4000

/-- A frame waits on transmit ring 0 of a port, behind at most as many as the ring holds (R307). -/
def State.queueFrame (s : State) (p : Nat) (f : List Byte) : State :=
  let q := s.port p
  if q.fwq.length + 1 < s.ringSize p true 0 then s.setPort p { q with fwq := q.fwq ++ [f] } else s

/-- An ARP message of a port: a request (1) or an answer (2) for the IPv4 address `tpa` (RFC 826). -/
def State.arpFrame (s : State) (p oper tha tpa : Nat) : List Byte :=
  beBytes 6 (if oper = 1 then 2 ^ 48 - 1 else tha) ++ beBytes 6 (s.macOf p) ++ beBytes 2 0x0806 ++ beBytes 2 1 ++ beBytes 2 0x0800 ++
    beBytes 2 0x0604 ++ beBytes 2 oper ++ beBytes 6 (s.macOf p) ++ beBytes 4 (s.feN 0x3000 6 p) ++ beBytes 6 tha ++ beBytes 4 tpa

/-- An IGMPv3 report of one group record: its type, group and sources (RFC 3376). -/
def State.igmpFrame (s : State) (p kind group : Nat) (srcs : List Nat) (free : Nat) : List Byte :=
  let rec_ := beBytes 1 kind ++ beBytes 1 0 ++ beBytes 2 srcs.length ++ beBytes 4 group ++ srcs.flatMap (beBytes 4)
  let ck := 65535 - onesSum (beBytes 4 0x22000000 ++ beBytes 4 1 ++ rec_) 0
  beBytes 6 0x01005E000016 ++ beBytes 6 (s.macOf p) ++ beBytes 2 0x0800 ++
    ipHeader 0xC0 (32 + rec_.length) (fragWord free) 1 2 (s.feN 0x3000 6 p) 0xE0000016 (beBytes 4 0x94040000) ++
    beBytes 2 0x2200 ++ beBytes 2 ck ++ beBytes 4 1 ++ rec_

/-- The source filter that a port's table gives a group: none where it does not hold it, otherwise the sources, and the empty
list for any source (R307). -/
def groupFilter (gs : List (Nat × Nat)) (g : Nat) : Option (List Nat) :=
  let l := (gs.filter (fun e => e.1 == g)).map (·.2)
  if l.isEmpty then none else if l.contains 0 then some [] else some l

/-- The record that reports a group as it stands: its type and sources (RFC 3376). -/
def groupRecord (l : List Nat) : Nat × List Nat := if l.isEmpty then (2, []) else (1, l)

/-- The records that report the change of a group's filter: a change of mode, or sources allowed and blocked (RFC 3376). -/
def changeRecords (old new : Option (List Nat)) : List (Nat × List Nat) :=
  let some? := fun (k : Nat) (l : List Nat) => if l.isEmpty then [] else [(k, l)]
  match old, new with
  | none, none => []
  | none, some l => if l.isEmpty then [(4, [])] else [(5, l)]
  | some l, none => if l.isEmpty then [(3, [])] else [(6, l)]
  | some l, some m =>
    if l.isEmpty then (if m.isEmpty then [] else [(3, m)])
    else if m.isEmpty then [(4, [])]
    else some? 5 (m.filter (fun x => !l.contains x)) ++ some? 6 (l.filter (fun x => !m.contains x))

/-- Reports of records of groups, each in a message of its own. -/
def State.reportGroups (s : State) (p : Nat) : List (Nat × Nat × List Nat) → State
  | [] => s
  | g :: l => (s.drawn.queueFrame p (s.igmpFrame p g.2.1 g.1 g.2.2 s.freeNat)).reportGroups p l

/-- ARP of the port's address is answered, and an ARP message's sender is recorded (R307). -/
def State.arpReceive (s : State) (p : Nat) (f : List Byte) : State :=
  let o := etherOff f + 2
  let sha := fbe f (o + 8) 6
  let spa := fbe f (o + 14) 4
  let s1 := s.setPort p { s.port p with arp := aput (s.port p).arp spa sha }
  let ip := s.feN 0x3000 6 p
  if fbe f (o + 6) 2 = 1 ∧ fbe f (o + 24) 4 = ip ∧ ip ≠ 0 then s1.queueFrame p (s1.arpFrame p 2 sha spa)
  else if fbe f (o + 6) 2 = 2 then s1 else s

/-- An IGMP query is answered: for every group, for one group, or for sources of one group (R307, RFC 3376). -/
def State.igmpQuery (s : State) (p : Nat) (m : List Byte) : State :=
  let group := fbe m 4 4
  let n := if 12 ≤ m.length then fbe m 10 2 else 0
  let asked := (List.range n).map (fun i => fbe m (12 + 4 * i) 4)
  let all := (s.port p).groups
  let now := fun (g : Nat) => (g, groupRecord ((groupFilter all g).getD []))
  if group = 0 then s.reportGroups p ((all.map (·.1)).eraseDups.map now)
  else
    match groupFilter all group with
    | none => s
    | some l =>
      if n = 0 then s.reportGroups p [now group]
      else
        let heard := if l.isEmpty then asked else asked.filter (fun a => l.contains a)
        if heard.isEmpty then s else s.reportGroups p [(group, 1, heard)]

/-- The PTP event message of a frame, over Ethernet or in UDP port 319. -/
def ptpEvent (f : List Byte) : Option (List Byte) :=
  if etherType f = 0x88F7 then some (f.drop (etherOff f + 2))
  else match udpOf f with
    | some d => if d.dport = 319 then some d.data else none
    | none => none

/-- Subsoil answers the frames that it receives through rings 0 and 1: Pdelay_Req, ARP and IGMP queries (R280, R307). -/
def State.answerFrame (s : State) (p : Nat) (f : List Byte) : State :=
  let o := etherOff f + 2
  match ptpEvent f with
  | some m => if fbe m 0 1 % 16 = 2 then s.sendMsg p (.pdelayResp p (fbe m 30 2)) else s
  | none =>
    let igmp := f.drop (o + fbe f o 1 % 16 * 4)
    if etherType f = 0x0806 then s.arpReceive p f
    else if ipProto f = 2 ∧ fbe igmp 0 1 = 0x11 then s.igmpQuery p igmp
    else s

/-- A frame that the stream engine has not claimed and that passes the address filter goes to its ring, or is lost to an
overflow of the receive FIFO (R310, R313). -/
def State.deliver (s : State) (p : Nat) (f : List Byte) (ovf : Bool) : State :=
  if ovf then s.portCount p 6
  else
    let r := s.steer p f
    let strip : Bool := frameTagged f && natBit (s.feN 0x3000 5 p) 0
    let x : RxFrame := {
      data := if strip then f.take 12 ++ f.drop 16 else f
      stripped := strip
      tci := if strip then fbe f 14 2 else 0
      soft := r == 1 && !s.tsMedium p
      stamp := if r = 1 then some (s.rxStamp p) else none }
    let a := s.toRing p r x
    if a.1 then a.2.answerFrame p f else a.2

/-- RXR_TAIL_WRITE: descriptors are given to the hardware, the index modulo the ring size (R312, R341). -/
def execRxrTailWrite (p r v : Nat) (s : State) : Host.Outcome State Fault Refusal :=
  if 5 ≤ p ∨ 4 ≤ r then .next s
  else .next (s.moveRing p false r { s.ring p false r with tail := v % s.ringSize p false r })

/-- TXR_TAIL_WRITE: descriptors are queued for sending (R315, R341). -/
def execTxrTailWrite (p r v : Nat) (s : State) : Host.Outcome State Fault Refusal :=
  if 5 ≤ p ∨ 4 ≤ r then .next s
  else .next (s.moveRing p true r { s.ring p true r with tail := v % s.ringSize p true r })

/-- xR_CTRL is written: SIZE and MEM are ignored, with CFG_ERR, while EN is 1, and a ring whose MEM is 3 does not start
(R341, R342); a change of SIZE changes the level (R316). -/
def State.ringCtrl (s : State) (p : Nat) (tx : Bool) (r v : Nat) : State :=
  let a := ringBase p tx r
  let old := s.reg .shared a
  let w := v &&& 0xFFFF01FF
  if natBit old 0 ∧ (old ^^^ w) &&& 0x7E ≠ 0 then
    (s.setReg .shared a ((w &&& 0xFFFFFF81) ||| (old &&& 0x7E))).setStat .shared (a + 0x20) 8
  else if natBit w 0 ∧ natBits w 5 2 = 3 then
    ((s.setReg .shared a (w &&& 0xFFFFFFFE)).setStat .shared (a + 0x20) 8).followLevel s p tx r
  else (s.setReg .shared a w).followLevel s p tx r

/-- RING_EN_WRITE: a ring is enabled or disabled (R342). A frame is received or sent in one step, so none is in progress. -/
def execRingEnWrite (p : Nat) (tx : Bool) (r : Nat) (en : Bool) (s : State) : Host.Outcome State Fault Refusal :=
  if 5 ≤ p ∨ 4 ≤ r then .next s
  else
    let old := s.ringReg p tx r 0
    .next (s.ringCtrl p tx r ((old &&& 0xFFFFFFFE) + if en then 1 else 0))

/-- RING_MODERATION_EXPIRY: MOD_US after the first unsignalled completion the ring raises its interrupt (R317). -/
def execRingModerationExpiry (p : Nat) (tx : Bool) (r : Nat) (s : State) : Host.Outcome State Fault Refusal :=
  let g := s.ring p tx r
  if 5 ≤ p ∨ 4 ≤ r ∨ g.unsig = 0 ∨ (s.tb.us + 2 ^ 48 - g.since) % 2 ^ 48 < g.modUs then .next s
  else .next (s.ringSignal p tx r)

/-! ### Transmission (R302, R309, R314, R315) -/

/-- The descriptors of the first frame of a transmit ring, up to the first EOP before the tail. -/
def State.txChain (s : State) (p r : Nat) : Nat → Nat → List Nat → Option (List Nat)
  | 0, _, _ => none
  | n + 1, i, acc =>
    if natBit (s.descWord p true r i 1) 17 then some (acc ++ [i]) else s.txChain p r n (i + 1) (acc ++ [i])

/-- A transmit ring has a whole frame to send (R315, R344). -/
def State.txReady (s : State) (p r : Nat) : Option (List Nat) :=
  let g := s.ring p true r
  let n := s.ringSize p true r
  if natBit (s.ringReg p true r 0) 0 ∧ s.memAvail (s.ringMem p true r) then
    s.txChain p r ((g.tail + n - g.head % n) % n) g.head []
  else none

/-- The bytes of a chain's buffers. -/
def State.txBytes (s : State) (p r : Nat) (l : List Nat) : List Byte :=
  l.flatMap (fun i => cellReads (s.memCells (s.ringMem p true r)) (s.descWord p true r i 0) (s.descWord p true r i 1 % 65536))

/-- The frame with a tag inserted after its source address (R309). -/
def insertTag (f : List Byte) (tci : Nat) : List Byte := f.take 12 ++ beBytes 2 0x8100 ++ beBytes 2 tci ++ f.drop 12

/-- The frame padded with zero bytes to 60 (R302). -/
def padFrame (f : List Byte) : List Byte := f ++ List.replicate (60 - f.length) 0

/-- The ERR code of a chain: 3 malformed, 1 too long, 2 a tag on a tagged frame, 0 to be sent (R302, R314, R315). -/
def State.txErr (s : State) (p r : Nat) (l : List Nat) : Nat :=
  let w := l.map (fun i => s.descWord p true r i 1)
  let first := w.headD 0
  if w.any (fun x => x % 65536 == 0) ∨ ¬ natBit first 16 ∨ (w.drop 1).any (fun x => natBit x 16) then 3
  else
    let f := s.txBytes p r l
    let tagged := frameTagged f
    if s.portReg p 8 + (if tagged then 4 else 0) < f.length + 4 then 1
    else if natBit first 18 ∧ tagged then 2 else 0

/-- DONE and ERR are written into every descriptor of a chain. -/
def State.txMark (s : State) (p r err : Nat) : List Nat → State
  | [] => s
  | i :: l =>
    (s.putDesc p true r i 1 [s.descWord p true r i 1 % 2 ^ 28 + err * 2 ^ 28 + 2 ^ 31]).txMark p r err l

/-- A transmit ring's next chain is sent, or skipped with its ERR (R315). -/
def State.txRing (s : State) (p r : Nat) (l : List Nat) : State :=
  let err := s.txErr p r l
  let sop := l.headD 0
  let w1 := s.descWord p true r sop 1
  let f := s.txBytes p r l
  let s1 :=
    if err = 0 then
      let t := s.txStamp p
      let sent := (s.emit (.frame p (padFrame (if natBit w1 18 then insertTag f (s.descWord p true r sop 2 % 65536) else f)))).frameCount p 0x24
      if natBit w1 19 then sent.putDesc p true r sop 3 [t.2, t.1 % 2 ^ 32, t.1 / 2 ^ 32] else sent
    else (s.portCount p 7).setStat .shared (ringBase p true r + 0x20) 0x10
  let s2 := s1.txMark p r err l
  let g := s2.ring p true r
  (s2.moveRing p true r { g with head := (g.head + l.length) % s.ringSize p true r }).ringDone p true r

/-- Ring 0 of a port sends what Subsoil has queued there (R307, R342). -/
def State.fwReady (s : State) (p : Nat) : Bool :=
  !(s.port p).fwq.isEmpty && natBit (s.ringReg p true 0 0) 0 && s.memAvail (s.ringMem p true 0)

/-- The first frame that Subsoil has queued leaves. -/
def State.sendFw (s : State) (p : Nat) : State :=
  let q := s.port p
  ((s.setPort p { q with fwq := q.fwq.drop 1 }).emit (.frame p (padFrame (q.fwq.headD [])))).frameCount p 0x24

/-- FRAME_TRANSMIT: at a frame boundary a port sends its next frame: stream packets first, then rings 1, 0, 2 and 3
(R315). -/
def execFrameTransmit (p : Nat) (s : State) : Host.Outcome State Fault Refusal :=
  if ¬ s.txOn p then .next s
  else
    match (s.port p).txq with
    | f :: l => .next (((s.setPort p { s.port p with txq := l }).emit (.frame p (padFrame f))).frameCount p 0x24)
    | [] =>
      match [1, 0, 2, 3].find? (fun r => (r == 0 && s.fwReady p) || (s.txReady p r).isSome) with
      | some r =>
        if r = 0 ∧ s.fwReady p then .next (s.sendFw p) else .next (s.txRing p r ((s.txReady p r).getD []))
      | none => .next s

/-! ### Filter tables (R306, R307) -/

/-- The group MAC address of an IPv4 group (R306). -/
def groupMac (ip : Nat) : Nat := 0x01005E000000 + ip % 2 ^ 23

/-- The multicast groups, with their source filters, of the enabled ingress legs on a port at sample `x` (R306, R307). -/
def State.groupsAt (s : State) (p x : Nat) : List (Nat × Nat) :=
  let n := fun (idx sub e : Nat) => (valueAt s.dict s.fePend (dkey idx sub e) x).toNat
  if 4 ≤ p then []
  else
    ((List.range 128).filterMap (fun i =>
      let l := 2 * i + p % 2
      if n 0x3200 1 i = 1 ∧ n 0x3200 2 i = p / 2 ∧ natBit (n 0x3200 3 i) (p % 2) ∧ isMulticast (n 0x3210 1 l) then
        some (n 0x3210 1 l, n 0x3210 3 l)
      else none)).eraseDups

/-- A port with its filter table rebuilt for sample `x` (R304 to R306). -/
def State.filterAt (s : State) (p x : Nat) : Port :=
  let n := fun (idx sub e : Nat) => (valueAt s.dict s.fePend (dkey idx sub e) x).toNat
  let gs := s.groupsAt p x
  let macs := ((List.range 64).map (fun i => n 0x3110 1 (64 * p + i))).filter (· ≠ 0) ++ gs.map (fun g => groupMac g.1)
  { s.port p with
    exact := ((List.range 32).map (fun i => (n 0x3100 1 (32 * p + i), n 0x3100 2 (32 * p + i)))).filter (fun e => e.1 ≠ 0)
    hash := (macs.map hashBin).eraseDups
    groups := gs }

/-- A port's table switches, with membership reports for the groups added and leave reports for those removed. -/
def State.switchFilter (s : State) (x p : Nat) : State :=
  let old := (s.port p).groups
  let q := s.filterAt p x
  (s.setPort p q).reportGroups p (((old ++ q.groups).map (·.1)).eraseDups.flatMap (fun g =>
    (changeRecords (groupFilter old g) (groupFilter q.groups g)).map (fun r => (g, r))))

/-- The blocks at which accepted rebuilds of a port's filter table switch (R64). -/
def State.rebuildsOf (s : State) (p : Nat) : List Nat := agetD s.dam.rebuilds p []

/-- The ports. -/
def allPorts : List Nat := [0, 1, 2, 3, 4]

/-- A port's table switches at block `b` where a rebuild for it is due. -/
def State.switchAt (s : State) (b p : Nat) : State :=
  if (s.rebuildsOf p).contains b then
    { s with dam := { s.dam with rebuilds := aputD s.dam.rebuilds p ((s.rebuildsOf p).filter (· ≠ b)) [] } }.switchFilter (32 * b) p
  else s

/-- FILTER_SWITCH: the ports' filter tables switch at the apply index of the rebuild that is due first (R306). -/
def execFilterSwitch (s : State) : Host.Outcome State Fault Refusal :=
  match ((allPorts.flatMap s.rebuildsOf).filter (fun b => decide (32 * b ≤ s.tb.sidx))).min? with
  | none => .next s
  | some b => .next ((allPorts.foldl (fun (t : State) p => t.switchAt b p) s).setFeN 0x3120 1 0 (32 * b : Nat))

/-! ### Links (R279, R299, R300, R340) -/

/-- The resolved speed and FEC codes of a port whose link comes up: by its configuration, and for auto-negotiated M0 by
what the PHY reports (R300, R340). -/
def State.resolved (s : State) (p phy : Nat) : Nat × Nat :=
  let c := s.feN 0x3000 1 p
  let fec := s.feN 0x3000 2 p
  if p = 4 then ((if c = 9 then 3 else if c = 10 then 4 else if c = 11 then 5 else phy), 0)
  else if c = 1 then (1, 0)
  else (2, if c = 2 then (if natBit fec 1 then 2 else fec % 2) else (s.port p).anFec)

/-- The port's link falls (R340). -/
def State.linkDown (s : State) (p : Nat) : State :=
  let q := s.port p
  if q.link then
    (s.setPort p { q with link := false, speed := 0, fec := 0 }).setStat .shared (portBase p + 4) 0x40
  else s

/-- LINK_CHANGE: a port's link comes up, with the speed that M0's PHY reports where M0 negotiates, or falls (R340). -/
def execLinkChange (p : Nat) (up : Bool) (phy : Nat) (s : State) : Host.Outcome State Fault Refusal :=
  let q := s.port p
  if 5 ≤ p then .next s
  else if up = false then .next (s.linkDown p)
  else if s.feN 0x3000 1 p = 0 ∨ (p < 4 ∧ s.sub.sdsFailed) ∨ (p = 4 ∧ s.feN 0x3000 1 p = 8 ∧ (phy < 3 ∨ 5 < phy)) then .next s
  else
    let a := s.resolved p phy
    .next (s.setPort p { q with link := true, speed := a.1, fec := a.2 })

/-- AN_STATE of a port after a change of SPEED or FEC_EN: 1 where it negotiates, 0 where it does not (R279). -/
def anStart (speed : Nat) : Nat := if speed = 3 ∨ speed = 4 then 1 else 0

/-- AUTO_NEGOTIATION_DONE: negotiation has found the partner's ability bits and the FEC resolved among the modes advertised:
training begins (`stage` 2) or is complete (3); or one of the two has failed (R279). -/
def execAutoNegotiationDone (p stage partner fec : Nat) (s : State) : Host.Outcome State Fault Refusal :=
  let q := s.port p
  if 4 ≤ p ∨ anStart (s.feN 0x3000 1 p) = 0 then .next s
  else
    let en := s.feN 0x3000 2 p
    let ok : Bool := stage == 2 || stage == 3
    let f := if ok ∧ ((fec = 1 ∧ natBit en 0) ∨ (fec = 2 ∧ natBit en 1)) then fec else 0
    .next (s.setPort p { q with anState := if ok then stage else 4, anPartner := partner % 2 ^ 64, anFec := f })

/-! ### SFP modules (R276 to R278) -/

/-- A byte of a page; an empty page holds zero bytes. -/
def pageByte (b : List Byte) (i : Nat) : Nat := (b.getD i 0).toNat

/-- SFP_FLAGS.ALARM and WARNING. -/
def Sfp.alarm (q : Sfp) : Bool := pageByte q.diag 112 != 0 || pageByte q.diag 113 != 0
/-- SFP_FLAGS.WARNING. -/
def Sfp.warning (q : Sfp) : Bool := pageByte q.diag 116 != 0 || pageByte q.diag 117 != 0

/-- The identity page lists a configured speed: by its 10 Gbit/s compliance bits, its extended compliance code, or its
nominal rate, as SFF-8472 gives them. -/
def Sfp.lists (q : Sfp) (speed : Nat) : Bool :=
  let rate := if pageByte q.idPage 12 = 255 then 250 * pageByte q.idPage 66 else 100 * pageByte q.idPage 12
  let ext := pageByte q.idPage 36
  if speed = 1 then decide (16 ≤ pageByte q.idPage 3) || (10000 ≤ rate && rate ≤ 10500)
  else if speed = 2 then ext == 2 || ext == 3 || ext == 4 || (25000 ≤ rate && rate ≤ 26500)
  else if speed = 3 then ext == 0x0B || ext == 0x0C || ext == 0x0D
  else if speed = 4 then ext == 0x0C || ext == 0x0D
  else true

/-- SFP_FLAGS of a port (R277, R278). -/
def State.sfpFlags (s : State) (p : Nat) : Nat :=
  let q := (s.port p).sfp
  let bit := fun (b : Bool) (i : Nat) => if b then 2 ^ i else 0
  bit q.alarm 0 + bit q.warning 1 + bit (natBit (pageByte q.idPage 92) 4) 2 +
    bit (q.present && !q.lists (s.feN 0x3000 1 p)) 3 + bit q.alarmSeen 4

/-- A page of a module; one that has not been read shows zeros (R276, R278). -/
def sfpPage (b : List Byte) : List Byte := if b.isEmpty then List.replicate 256 0 else b

/-- A cage changes: ALARM sets ALARM_SEEN, and a change of ALARM or WARNING is notified (R278). -/
def State.setSfp (s : State) (p : Nat) (q : Sfp) : State :=
  let old := (s.port p).sfp
  let changed := (if sfpPage q.idPage = sfpPage old.idPage then [] else [dkey 0x3C00 2 p]) ++
    if sfpPage q.diag = sfpPage old.diag then [] else [dkey 0x3C00 3 p]
  let s1 := (s.setPort p { s.port p with sfp := { q with alarmSeen := q.alarmSeen || q.alarm } }).bumpKeys changed
  if q.alarm = old.alarm ∧ q.warning = old.warning then s1
  else s1.notify 0x000A (dkey 0x3C00 4 p) (s.tb.sidx / 32) (beBytes 2 (s1.sfpFlags p))

/-- MOD_ABS_FALL: a module has been inserted (R276). -/
def execModAbsFall (p : Nat) (s : State) : Host.Outcome State Fault Refusal :=
  if 4 ≤ p then .next s
  else .next (s.setSfp p { (s.port p).sfp with inserted := true, since := s.tb.us, present := false })

/-- MOD_ABS_RISE: the module has been removed; both pages read as zero (R276). -/
def execModAbsRise (p : Nat) (s : State) : Host.Outcome State Fault Refusal :=
  let q := (s.port p).sfp
  if 4 ≤ p then .next s
  else .next (s.setSfp p { q with inserted := false, present := false, idPage := [], diag := [] })

/-- A page as read, or SFP_I2C_ERR counts and the page keeps its contents (R276). -/
def Sfp.took (q : Sfp) (diag : Bool) (page : Option (List Byte)) : Sfp :=
  match page with
  | some b => if diag then { q with diag := b.take 256 } else { q with idPage := b.take 256 }
  | none => { q with i2cErr := min 65535 (q.i2cErr + 1) }

/-- SFP_ID_READ: 300 ms after insertion the identity page is read, and the diagnostics page where byte 92 bit 6 says that
there is one (R276); none stands for three transfers without acknowledge. -/
def execSfpIdRead (p : Nat) (idPage diag : Option (List Byte)) (s : State) : Host.Outcome State Fault Refusal :=
  let q := (s.port p).sfp
  if 4 ≤ p ∨ ¬ q.inserted ∨ q.present ∨ (s.tb.us + 2 ^ 48 - q.since) % 2 ^ 48 < 300000 then .next s
  else
    let q1 := { q.took false idPage with present := true }
    .next (s.setSfp p (if natBit (pageByte q1.idPage 92) 6 then q1.took true diag else q1))

/-- SFP_DIAG_POLL: every second the diagnostics page of a module that has one is read (R276). -/
def execSfpDiagPoll (p : Nat) (diag : Option (List Byte)) (s : State) : Host.Outcome State Fault Refusal :=
  let q := (s.port p).sfp
  if 4 ≤ p ∨ ¬ q.present ∨ ¬ natBit (pageByte q.idPage 92) 6 then .next s
  else .next (s.setSfp p (q.took true diag))

/-- PTP_SYNC_SEND: as leader, a two-step Sync message on the selected port, where that sends, with its transmit stamp for the
follow-up (R45, R46, R48, R303, R339). -/
def execPtpSyncSend (s : State) : Host.Outcome State Fault Refusal :=
  let p := s.feN 0x2010 4 0
  if s.feN 0x2010 1 0 ≠ 1 ∨ ¬ s.tbRuns ∨ ¬ s.txOn p then .next s
  else
    .next ({ s with ptp := { s.ptp with syncSeq := (s.ptp.syncSeq + 1) % 65536 } }.sendMsg p
      (.ptpSync p s.ptp.syncSeq (s.txStamp p).1 (s.txStamp p).2))

/-! ### Peer delay (R280, R281) -/

/-- PDELAY_REQ_SEND: once per second a port sends a Pdelay_Req (R280). -/
def execPdelayReqSend (p : Nat) (s : State) : Host.Outcome State Fault Refusal :=
  let q := s.port p
  if ¬ s.txOn p then .next s
  else
    let n := (q.pd.seq + 1) % 65536
    .next ((s.setPort p { q with pd := { q.pd with seq := n, req := some (n, s.tb.us) } }).sendMsg p (.pdelayReq p n))

/-- PDELAY_EXCHANGE: a port that receives takes a response within 1 s of its request, with the link delay in ps that the
exchange gives (R280, R339). -/
def execPdelayExchange (p seq : Nat) (delay : Int) (s : State) : Host.Outcome State Fault Refusal :=
  let q := s.port p
  match q.pd.req with
  | none => .next s
  | some (n, us) =>
    if ¬ s.rxOn p ∨ n ≠ seq ∨ 1000000 < (s.tb.us + 2 ^ 48 - us) % 2 ^ 48 then .next s
    else .next (s.setPort p { q with pd := { q.pd with
        last := (delay :: q.pd.last).take 16, valid := true, validUs := s.tb.us, req := none } })

/-- PDELAY_TIMEOUT: no valid exchange for 3 s clears PD_VALID (R280). -/
def execPdelayTimeout (p : Nat) (s : State) : Host.Outcome State Fault Refusal :=
  let q := s.port p
  if 5 ≤ p ∨ ¬ q.pd.valid ∨ (s.tb.us + 2 ^ 48 - q.pd.validUs) % 2 ^ 48 < 3000000 then .next s
  else .next (s.setPort p { q with pd := { q.pd with valid := false } })

/-- PD_DELAY: the mean of the last 16 valid exchanges in ps, saturating (R281). -/
def Pdelay.delay (d : Pdelay) : Nat :=
  (clampI 0 0xFFFFFFFF (if d.last.isEmpty then 0 else rneDiv d.last.sum d.last.length)).toNat

/-- PD_LENGTH: the estimated length in mm (R280). -/
def State.pdLength (s : State) (p : Nat) : Nat :=
  let d := (s.port p).pd
  let n := d.last.length
  if n = 0 then 0
  else
    let x : Int := (d.last.sum - (n * s.feN 0x3C20 4 p * 1000 : Nat)) * (299792458 * s.feN 0x3C20 3 p : Nat)
    (clampI 0 0xFFFFFFFF (rneDiv x (n * 1000 * 1000000 * 65536))).toNat

end Sys2Proof.Machine
end

