-- ==== Sys2Proof/Machine/Streams.lean ====
section
/-!
DEFINITION. The stream engine and the TDM ports (chapter 10, R319 to R337 and R345, R346): received frames and stream
packets, the closing of input blocks, egress packets, TDM frames and ranging, and SAP.
-/
namespace Sys2Proof.Machine
open Sys2Proof

/-! ### Ingress packets (R320 to R322) -/

/-- A leg of an ingress stream. -/
def State.isLeg (s : State) (l : Nat) : IsLeg := agetD s.st.legs l {}

/-- The state with a leg replaced. -/
def State.setLeg (s : State) (l : Nat) (q : IsLeg) : State := { s with st := { s.st with legs := aputD s.st.legs l q {} } }

/-- Leg `l` of an ingress stream is enabled at sample `x`. -/
def State.legOn (s : State) (x l : Nat) : Bool := s.feAt x 0x3200 1 (l / 2) == 1 && natBit (s.feAt x 0x3200 3 (l / 2)) (l % 2)

/-- The leg whose stream claims a datagram on a port (R320). -/
def State.claimOf (s : State) (p : Nat) (f : List Byte) : Option Nat :=
  match udpOf f with
  | none => none
  | some d =>
    let x := s.tb.sidx
    (List.range 256).find? (fun l => s.legOn x l && decide (2 * s.feAt x 0x3200 2 (l / 2) + l % 2 = p) &&
      s.feAt x 0x3210 1 l == d.dst && s.feAt x 0x3210 2 l == d.dport &&
      (s.feAt x 0x3210 3 l == 0 || s.feAt x 0x3210 3 l == d.src))

/-- An RTP packet. -/
structure Rtp where
  pt : Nat
  seq : Nat
  ts : Nat
  data : List Byte

/-- The RTP packet of a payload: version 2, no extension and no contributing sources, padding removed (R320). -/
def rtpOf (b : List Byte) : Option Rtp :=
  let h := fbe b 0 1
  let pad := if natBit h 5 then (b.getLastD 0).toNat else 0
  if b.length < 12 ∨ h / 64 ≠ 2 ∨ natBit h 4 ∨ h % 16 ≠ 0 ∨ (natBit h 5 ∧ (pad = 0 ∨ b.length < 12 + pad)) then none
  else some ⟨fbe b 1 1 % 128, fbe b 2 2, fbe b 4 4, (b.drop 12).take (b.length - 12 - pad)⟩

/-- An AUD32 sample of a wire word: L24 in three bytes, or L16 in two (R5, R319). -/
def wireSample (enc : Nat) (b : List Byte) : Int :=
  if enc = 0 then 2 * toSigned 24 (beNat b) else 512 * toSigned 16 (beNat b)

/-- Bytes of a sample on the wire. -/
def wireBytes (enc : Nat) : Nat := if enc = 0 then 3 else 2

/-- The channel values of the `n` samples of a payload. -/
def wireFrames (enc ch : Nat) : Nat → List Byte → List (List Int)
  | 0, _ => []
  | n + 1, b =>
    (List.range ch).map (fun c => wireSample enc ((b.drop (c * wireBytes enc)).take (wireBytes enc))) ::
      wireFrames enc ch n (b.drop (ch * wireBytes enc))

/-- The index of a packet's first sample: congruent to `r` modulo 2^32 and nearest to `x` (R321). -/
def rtpIndex (x r : Nat) : Int :=
  let d := (r + 2 ^ 32 - x % 2 ^ 32) % 2 ^ 32
  if d ≤ 2 ^ 31 then (x : Int) + (d : Nat) else (x : Int) + (d : Nat) - 2 ^ 32

/-- The sequence tracking of a leg (R320): the packets lost and the tracked number. -/
def seqTrack (t : Option Nat) (seq : Nat) : Nat × Nat :=
  match t with
  | none => (0, seq)
  | some q =>
    let d := (seq + 2 ^ 17 - q - 1) % 65536
    if d < 32768 then (d, seq) else (0, q)

/-- One sample of a packet: 0 late, 1 early, 2 stored (R322). -/
def sampleFate (x l : Nat) (i : Int) : Nat :=
  let n := i / 32
  let q : Int := (x / 32 : Nat)
  if n < q - l + 2 then 0 else if q - l + 33 < n then 1 else 2

/-- The samples that are stored enter a leg's buffer of 32 blocks. -/
def storeSamples (x l : Nat) (buf : Assoc (Nat × List Int)) : List (Int × List Int) → Assoc (Nat × List Int)
  | [] => buf
  | (i, v) :: r => storeSamples x l (if sampleFate x l i = 2 then aput buf (i.toNat % 1024) (i.toNat, v) else buf) r

/-- A packet overlaps one that the leg has heard (R320). -/
def heardBefore (h : List (Nat × Nat)) (i : Int) (n : Nat) : Bool :=
  h.any (fun e => decide (i < ((e.1 + e.2 : Nat) : Int)) && decide (((e.1 : Nat) : Int) < i + (n : Nat)))

/-- A claimed packet of a leg is checked, its samples placed or discarded, and its counters kept (R320 to R322). -/
def State.streamPacket (s : State) (l : Nat) (b : List Byte) : State :=
  let i := l / 2
  let x := s.tb.sidx
  let s0 := s.setFeN 0x3210 6 l ((s.feN 0x3210 6 l + 1) % 2 ^ 32 : Nat)
  let enc := s.feN 0x3200 4 i
  let ch := s.feN 0x3200 5 i
  let per := ch * wireBytes enc
  match rtpOf b with
  | none => s0.countFe 0x3200 0x15 i 1
  | some r =>
    let n := r.data.length / per
    if r.pt ≠ s.feN 0x3200 7 i ∨ r.data.length % per ≠ 0 ∨ n < 1 ∨ 384 < n then s0.countFe 0x3200 0x15 i 1
    else
      let q := s0.isLeg l
      let t := seqTrack q.track r.seq
      let s1 := s0.countFe 0x3210 4 l t.1
      let a := rtpIndex x ((r.ts + 2 ^ 32 - s.feN 0x3200 8 i) % 2 ^ 32)
      let q1 := { q with track := some t.2, lastUs := some s.tb.us }
      if heardBefore q.heard a n then (s1.setLeg l q1).countFe 0x3210 5 l 1
      else
        let smp := (List.range n).zip (wireFrames enc ch n r.data) |>.map (fun e => (a + (e.1 : Nat), e.2))
        let fates := smp.map (fun e => sampleFate x s.latency e.1)
        let s2 := s1.setLeg l { q1 with
          heard := (a.toNat, (a + (n : Nat)).toNat - a.toNat) :: q.heard
          buf := storeSamples x s.latency q.buf smp }
        (s2.countFe 0x3200 0x12 i (fates.filter (· = 0)).length).countFe 0x3200 0x13 i (fates.filter (· = 1)).length

/-- SE_STAT (R345). -/
def seStat : Nat := 0x30020004

/-- The packet counts at a time: the 1 s windows follow each other, and the last whole one is kept (R345). -/
def Streams.rolled (st : Streams) (us : Nat) : Streams :=
  let k := (us + 2 ^ 48 - st.ppsUs) % 2 ^ 48 / 1000000
  if k = 0 then st
  else { st with
    ppsUs := (st.ppsUs + 1000000 * k) % 2 ^ 48, ppsX := 0, ppsY := 0
    lastX := if k = 1 then st.ppsX else 0, lastY := if k = 1 then st.ppsY else 0 }

/-- A packet enters the count and the input FIFO of its half, which then holds `n` stages. -/
def Streams.arrived (st : Streams) (y : Bool) (n now : Nat) : Streams :=
  if y then { st with ppsY := st.ppsY + 1, lvlY := n, lvlYAt := now, maxY := max st.maxY n }
  else { st with ppsX := st.ppsX + 1, lvlX := n, lvlXAt := now, maxX := max st.maxX n }

/-- Stages of a half's input FIFO in use now: the stream engine empties it as time goes on (R328, R345; log entry 119). -/
def Streams.level (st : Streams) (y : Bool) (now : Nat) : Nat :=
  if y then (if st.lvlYAt = now then st.lvlY else 0) else if st.lvlXAt = now then st.lvlX else 0

/-- A stream packet arrives at the input FIFO of its half, with the stages in use there: it enters the window count, the
peak and the watermark, and is lost where the FIFO overflows (R328, R345). -/
def State.streamArrive (s : State) (l : Nat) (b : List Byte) (stages : Nat) (ovf : Bool) : State :=
  let y := s.feN 0x3200 2 (l / 2) == 1
  let n := min 64 stages
  let before := s.st.level y s.tb.now
  let s1 := { s with st := (s.st.rolled s.tb.us).arrived y n s.tb.now }
  let s2 := if before < 48 ∧ 48 ≤ n then s1.setStat .shared seStat (if y then 2 else 1) else s1
  if ovf then
    if natBit (s.reg .shared 0x30020000) 0 then s2 else s2.countReg .shared (if y then 0x30020020 else 0x3002001C) 1
  else s2.streamPacket l b

/-- A frame's tests and its claim: the counter of R301 that drops it, or the leg that claims it, where one does. -/
def State.frameTest (s : State) (p : Nat) (f : List Byte) (bad : Bool) : Except Nat (Option Nat) :=
  match s.lineDrop p f bad with
  | some i => .error i
  | none =>
    let dst := fbe f 0 6
    let c := s.claimOf p f
    if s.addrPass p dst || ((s.port p).hashPass dst && (c.isSome || (s.steerFixed f).isSome)) then .ok c else .error 4

/-- FRAME_RECEIVE: a frame without its FCS, whether its FCS or a line code is bad, the stages of the FIFO it passes and
whether that overflows: it is dropped by the first test that refuses it, claimed by the stream engine, or steered to a
ring (R301, R304, R308, R310, R320). -/
def execFrameReceive (p : Nat) (f : List Byte) (bad : Bool) (stages : Nat) (ovf : Bool) (s : State) :
    Host.Outcome State Fault Refusal :=
  if ¬ s.rxOn p then .next s
  else
    match s.frameTest p f bad with
    | .error i => .next ((s.rxFifo p stages).portCount p i)
    | .ok none => .next ((s.rxFifo p stages).deliver p f ovf)
    | .ok (some l) =>
      .next ((s.frameCount p 0x20).streamArrive l ((udpOf f).map (·.data) |>.getD []) stages ovf)

/-- STREAM_PACKET_RECEIVE: a frame that the stream engine claims (R320 to R322); a frame that it does not claim is no
stream packet. -/
def execStreamPacketReceive (p : Nat) (f : List Byte) (stages : Nat) (ovf : Bool) (s : State) :
    Host.Outcome State Fault Refusal :=
  if ¬ s.rxOn p then .next s
  else
    match s.frameTest p f false with
    | .ok (some l) =>
      .next ((s.frameCount p 0x20).streamArrive l ((udpOf f).map (·.data) |>.getD []) stages ovf)
    | _ => .next s

/-- IS_STATE (R326). -/
def State.isState (s : State) (i : Nat) : Nat :=
  if s.feN 0x3200 1 i = 0 then 0
  else 1 + ([2 * i, 2 * i + 1].filter (fun l => (s.isLeg l).lastUs.isSome)).length

/-- INGRESS_STREAM_TIMEOUT: a leg of a stream without packets for 1 s receives no more (R326). -/
def execIngressStreamTimeout (i : Nat) (s : State) : Host.Outcome State Fault Refusal :=
  let quiet := fun (t : State) (l : Nat) =>
    match (t.isLeg l).lastUs with
    | some u => if 1000000 ≤ (t.tb.us + 2 ^ 48 - u) % 2 ^ 48 then t.setLeg l { t.isLeg l with lastUs := none } else t
    | none => t
  if 128 ≤ i then .next s else .next (quiet (quiet s (2 * i)) (2 * i + 1))

/-- Legs that are not enabled start anew when they are enabled again; the progress of egress streams is held from their enabling
to the last output that it governs (R60, R320, R327). -/
def State.settleStreams (s0 : State) : State :=
  let s := (List.range 128).foldl State.esTrack s0
  let x := s.tb.sidx
  { s with st := { s.st with
      legs := s.st.legs.map (fun e => if s.legOn x e.1 then e else (e.1, { e.2 with track := none, heard := [], lastUs := none }))
      es := s.st.es.filter (fun e => s.feAt x 0x3400 1 e.1 == 1 || (s.esRise e.1).isSome ||
        s.feAt (max (e.2.next - 32 * s.latency) (min e.2.next e.2.since)) 0x3400 1 e.1 == 1) } }

/-! ### TDM inputs and the capture buffer (R57, R286, R325) -/

/-- A TDM port. -/
def State.tdmPort (s : State) (t : Nat) : Tdm := s.tdm.getD t {}

/-- The state with a TDM port replaced. -/
def State.setTdm (s : State) (t : Nat) (q : Tdm) : State := { s with tdm := lset s.tdm t q }

/-- The input word of a TDM slot at input index `x`, none where no frame carried it (R333). -/
def State.tdmWord (s : State) (t slot x : Nat) : Option Int :=
  match aget? (s.tdmPort t).input (32 * (x % 1024) + slot) with
  | some e => if e.1 = x then some e.2 else none
  | none => none

/-- The input word of a TDM slot at input index `x`, 0 where no frame carried it. -/
def State.tdmIn (s : State) (t slot x : Nat) : Int := (s.tdmWord t slot x).getD 0

/-- The survey function owns the capture buffer (R285). -/
def State.capOn (s : State) : Bool := (s.own .cap).owner == 0x30

/-- A capture channel's value at index `x`; input slot 0 of TDM7 is a source only under the survey function (R37, R286). -/
def State.capVal (s : State) (c x : Nat) : Int :=
  let src := s.feN 0xA000 2 c
  if src < 4 then
    let q := s.surv.cap.getD c {}
    match q.last with
    | some l => if l < x then q.val else agetD q.vals (x % 1024) 0
    | none => 0
  else if src = 0x10E0 ∧ (s.own .tdm7).owner ≠ 0x30 then 0
  else if 0x1000 ≤ src ∧ src < 0x1100 then s.tdmIn ((src - 0x1000) / 32) (src % 32) x
  else 0

/-- A survey step that captures notes the capture channels whose island channel is reported open or short (R284). -/
def State.micFaults (s : State) : State :=
  let bad := (List.range 4).filter (fun c =>
    let m := s.feN 0xA000 2 c
    m < 4 && (s.feN 0xB000 7 m == 1 || s.feN 0xB000 7 m == 2))
  let x := s.tb.sidx
  let runs : List SurvRun := s.surv.runs.map (fun q =>
    if q.at_ + 32 * s.latency ≤ x ∧ x < q.stop then { q with micFault := bad.foldl setAdd q.micFault } else q)
  { s with surv := { s.surv with runs := runs } }

/-! ### Closing a block (R322 to R325, R208) -/

/-- The value of an ingress stream at an index, from the first leg that delivered it, and whether the legs differ (R323,
R326). -/
def State.mergeAt (s : State) (i ch x : Nat) : Option (List Int) × Bool :=
  let got := fun (l : Nat) =>
    if s.legOn (x / 32 * 32) l then
      match aget? (s.isLeg l).buf (x % 1024) with
      | some (y, v) => if y = x ∧ ch ≤ v.length then some (v.take ch) else none
      | none => none
    else none
  match got (2 * i), got (2 * i + 1) with
  | some v, some w => (some v, v != w)
  | some v, none => (some v, false)
  | none, w => (w, false)

/-- What an enabled stream gives a block: its first ingress channel, its channels, and the values by sample, none where
concealed. -/
structure StreamBlk where
  id : Nat
  first : Nat
  ch : Nat
  vals : List (Option (List Int))
  mismatch : Nat

/-- The values of a stream for block `n`; samples of `ue` come from uncorrectable words (R324). -/
def State.streamBlk (s : State) (n : Nat) (ue : List (Nat × Nat)) (i : Nat) : StreamBlk :=
  let x := 32 * n
  let ch := s.feAt x 0x3200 5 i
  let m := (List.range 32).map (fun j => s.mergeAt i ch (x + j))
  { id := i, first := s.feAt x 0x3200 6 i, ch := ch
    vals := ((List.range 32).zip m).map (fun e => if ue.contains (i, e.1) then none else e.2.1)
    mismatch := (m.filter (·.2)).length }

/-- The enabled streams of block `n`. -/
def State.streamBlks (s : State) (n : Nat) (ue : List (Nat × Nat)) : List StreamBlk :=
  ((List.range 128).filter (fun i => s.feAt (32 * n) 0x3200 1 i == 1)).map (s.streamBlk n ue)

/-- The value of a stream channel at a sample of the block. -/
def StreamBlk.value (b : StreamBlk) (k j : Nat) : Int :=
  match b.vals.getD j none with
  | some v => v.getD k 0
  | none => 0

/-- MASK word of a stream: its concealed samples (R208). -/
def StreamBlk.mask (b : StreamBlk) : Nat :=
  ((List.range 32).map (fun j => if (b.vals.getD j none).isNone then 2 ^ j else 0)).sum

/-- The value of an ingress channel at a sample of block `n` (R325). -/
def State.ingressAt (s : State) (n : Nat) (bs : List StreamBlk) (c j : Nat) : Int :=
  match bs.find? (fun b => decide (b.first ≤ c) && decide (c < b.first + b.ch)) with
  | some b => b.value (c - b.first) j
  | none =>
    let at_ := fun (t : Nat) => s.feAt (32 * n) 0x3710 4 t
    ((List.range 8).findSome? (fun t =>
      if at_ t ≠ 0xFFFF ∧ at_ t ≤ c ∧ c < at_ t + 32 then s.tdmWord t (c - at_ t) (32 * n + j) else none)).getD 0

/-- The admitted value of a slot (object o, or 1,024 + aux a) at a sample of block `n` (R285, R325). -/
def State.slotAt (s : State) (n : Nat) (bs : List StreamBlk) (k j : Nat) : Int :=
  if 1276 ≤ k ∧ s.capOn then s.capVal (k - 1276) (32 * n + j)
  else
    let c := if k < 1024 then s.feAt (32 * n) 0x3300 1 k else s.feAt (32 * n) 0x3300 2 (k - 1024)
    if c < 1280 then s.ingressAt n bs c j else 0

/-- The admitted values of a block, in the keys of an input block. -/
def State.admitted (s : State) (n : Nat) (bs : List StreamBlk) : Assoc Int :=
  (List.range 40960).filterMap (fun k =>
    let v := s.slotAt n bs (k / 32) (k % 32)
    if v = 0 then none else some (k, v))

/-- DIGEST of the admitted-input record (R208). -/
def inputDigest (vals : Assoc Int) : Nat :=
  crc64 ((List.range 40960).flatMap (fun k => beBytes 4 (toUnsigned 32 (agetD vals (32 * (k % 1280) + k / 1280) 0))))

/-- The sample indices of block `n` that the units receive disagree: a fault of the block, where the unit computes it, and
HL_FAULT.SIDX_MISMATCH (R19, R210, R242). -/
def State.sidxMismatch (s : State) (n : Nat) (u : UnitId) : State :=
  if s.unitRuns u then s.blockFault u n 4 else s.setStat (.unit u) 0x20090008 0x10

/-- A block's admitted values go to a unit that computes it; a record word that proves uncorrectable there is a fault of
the unit's block (R209, R322). -/
def State.giveValues (s : State) (b : InBlock) (checks : List BlockCheck) (u : UnitId) : State :=
  let r := (s.unit u).rd
  let wanted : Bool := match r.endBlk with
    | none => true
    | some e => decide (b.block < e) || (match r.beginBlk with
      | some g => decide (g ≤ b.block)
      | none => false)
  if s.unitRuns u ∧ r.commit ≤ b.block ∧ wanted then
    let s1 := s.onRd u (fun q => { q with inq := q.inq ++ [b] })
    if checks.contains (.record u) then s1.blockFault u b.block 1 else s1
  else s

/-- A block is delivered to a unit, with what the checks find (R19, R209, R322). -/
def State.giveBlock (s : State) (b : InBlock) (checks : List BlockCheck) (u : UnitId) : State :=
  let s1 := s.giveValues b checks u
  if checks.contains .index then s1.sidxMismatch b.block u else s1

/-- The counters of the streams of a closed block (R323, R324, R326). -/
def State.countStreams (s : State) : List StreamBlk → State
  | [] => s
  | b :: l =>
    ((s.countFe 0x3200 0x11 b.id (b.vals.filter Option.isNone).length).countFe 0x3200 0x14 b.id b.mismatch).countStreams l

/-- The input records held; IR_RECORD counts a change where the record that it shows comes or goes (R208, R362). -/
def State.setIr (s : State) (l : List IrRec) : State :=
  let k := s.feN 0x9020 1 0
  let shown := fun (m : List IrRec) => m.find? (fun r => r.block == k)
  let s1 := { s with st := { s.st with ir := l } }
  if shown s.st.ir = shown l then s1 else s1.bumpKey (dkey 0x9020 2 0)

/-- Block `n` is closed: its record is written and its values delivered (R208, R322 to R325). -/
def State.closeInput (s : State) (n : Nat) (ue : List (Nat × Nat)) (checks : List BlockCheck) : State :=
  let bs := s.streamBlks n ue
  let vals := s.admitted n bs
  let rec_ : IrRec := { block := n, digest := inputDigest vals
                        mask := (bs.map (fun b => (b.id, b.mask))).filter (fun e => e.2 ≠ 0) }
  let s1 := ({ s with st := { s.st with closed := some n } }).setIr ((rec_ :: s.st.ir).take 4096)
  let s2 := s1.countStreams bs
  let s3 := if ue.isEmpty then s2 else s2.setStat .shared seStat 0x10
  (s3.giveBlock ⟨n, vals⟩ checks .a).giveBlock ⟨n, vals⟩ checks .b

/-- The block whose ingress deadline has passed and which is closed next (R55, R322); none where none is due. Blocks that a
jump of the index leaves out are not closed. -/
def State.closeDue (s : State) : Option Nat :=
  let q := s.tb.sidx / 32
  let l := s.latency - 1
  if q < l then none
  else
    match s.st.closed with
    | none => some (q - l)
    | some c => if c = q - l then none else if c < q - l ∧ q - l ≤ c + 32 then some (c + 1) else some (q - l)

/-- BLOCK_CLOSE: the stream engine closes the next block whose ingress deadline has passed, with the buffer words (stream
and sample) that prove uncorrectable, the corrected errors, and what the units' checks find (R19,
R208, R209, R322 to R325; log entry 179). -/
def execBlockClose (ue : List (Nat × Nat)) (ce : Nat) (checks : List BlockCheck) (s : State) :
    Host.Outcome State Fault Refusal :=
  match s.closeDue with
  | none => .next s
  | some n =>
    let s1 := if ce = 0 then s else
      let t := s.setStat .shared seStat 0x20
      if natBit (s.reg .shared 0x30020000) 0 then t else t.countReg .shared 0x30020024 ce
    .next (s1.micFaults.closeInput n ue checks)

/-! ### Egress packets (R327 to R329) -/

/-- The released value of an egress channel at output index `x`; exact zero where none has been released (R206, R327). -/
def State.releasedAt (s : State) (x e : Nat) : Int :=
  if x < s.arb.nextOut ∧ s.arb.nextOut ≤ x + 512 ∧ e < 1280 then agetD s.arb.released (1280 * (x % 512) + e) 0 else 0

/-- AUD32 as an L24 word (R5). -/
def audToL24 (v : Int) : Nat := toUnsigned 24 (satS 24 (rneShift 1 v))

/-- AUD32 as an L16 word (R319). -/
def audToL16 (v : Int) : Nat := toUnsigned 16 (satS 16 (rneShift 9 v))

/-- Samples of a packet (R327). -/
def packetSamples (ptime rate : Nat) : Nat := [6, 12, 16, 48, 192].getD ptime 48 * (rate / 48000)

/-- The input index whose configuration governs output index `x` of an egress stream: 32 L before it, but not before the
stream was enabled (R60, R327; log entry 45). -/
def State.esCfg (s : State) (i x : Nat) : Nat := max (x - 32 * s.latency) (min x (s.esAt i).since)

/-- The payload of an egress packet. -/
def State.esPayload (s : State) (i s0 p : Nat) : List Byte :=
  let c := s.esCfg i s0
  let enc := s.feAt c 0x3400 4 i
  (List.range p).flatMap (fun j => (List.range (s.feAt c 0x3400 5 i)).flatMap (fun k =>
    let v := s.releasedAt (s0 + j) (s.feAt (s.esCfg i (s0 + j)) 0x3600 1 (64 * i + k))
    if enc = 0 then beBytes 3 (audToL24 v) else beBytes 2 (audToL16 v)))

/-- The RTP packet of an egress stream (R327). -/
def State.esRtp (s : State) (i s0 p seq : Nat) : List Byte :=
  let c := s.esCfg i s0
  beBytes 1 0x80 ++ beBytes 1 (s.feAt c 0x3400 7 i) ++ beBytes 2 seq ++
    beBytes 4 ((s0 + s.feAt c 0x3400 8 i) % 2 ^ 32) ++ beBytes 4 (s.feAt c 0x3400 9 i) ++ s.esPayload i s0 p

/-- The IPv4 address whose MAC address a destination on a port needs: its own on the port's subnet, otherwise the
gateway's. -/
def State.nextHop (s : State) (p ip : Nat) : Nat :=
  let m := s.feN 0x3000 7 p
  if (ip &&& m) = (s.feN 0x3000 6 p &&& m) ∨ s.feN 0x3000 8 p = 0 then ip else s.feN 0x3000 8 p

/-- The destination MAC address of an IPv4 destination on a port, none where ARP has not resolved it (R306, R307). -/
def State.dstMac (s : State) (p ip : Nat) : Option Nat :=
  if isMulticast ip then some (groupMac ip)
  else if ip = 2 ^ 32 - 1 then some (2 ^ 48 - 1)
  else aget? (s.port p).arp (s.nextHop p ip)

/-- The Ethernet frame of a leg's packet, with the configuration of index `c` (R309, R327, R329); the identification, fragment
flag and UDP checksum, which the spec does not give, are the bits of a free number. -/
def State.esFrame (s : State) (i leg c mac free : Nat) (rtp : List Byte) : List Byte :=
  let n := fun (sub : Nat) => s.feAt c 0x3400 sub i
  let l := 2 * i + leg
  let p := 2 * n 2 + leg
  let tag := if n 0xA = 0 then [] else beBytes 2 0x8100 ++ beBytes 2 (n 0xB * 8192 + n 0xA)
  beBytes 6 mac ++ beBytes 6 (s.macOf p) ++ tag ++ beBytes 2 0x0800 ++
    ipHeader (n 0xC * 4) (28 + rtp.length) (fragWord free) (n 0xD) 17 (s.feN 0x3000 6 p) (s.feAt c 0x3410 1 l) [] ++
    beBytes 2 (s.feAt c 0x3410 3 l) ++ beBytes 2 (s.feAt c 0x3410 2 l) ++ beBytes 2 (8 + rtp.length) ++
    beBytes 2 (free / 131072 % 65536) ++ rtp

/-- A leg sends its packet; a destination that is not resolved is asked for by ARP and nothing is sent (R307, R327). -/
def State.esLeg (s : State) (i c : Nat) (rtp : List Byte) (leg : Nat) : State :=
  let p := 2 * s.feAt c 0x3400 2 i + leg
  let ip := s.feAt c 0x3410 1 (2 * i + leg)
  if ¬ natBit (s.feAt c 0x3400 3 i) leg then s
  else
    match s.dstMac p ip with
    | none => s.queueFrame p (s.arpFrame p 1 0 (s.nextHop p ip))
    | some mac =>
      let s1 := s.drawn
      if s.txOn p then s1.setPort p { s.port p with txq := (s.port p).txq ++ [s.esFrame i leg c mac s.freeNat rtp] } else s1

/-- A leg of a stream is enabled and resolved. -/
def State.esResolved (s : State) (x i leg : Nat) : Bool :=
  natBit (s.feAt x 0x3400 3 i) leg && (s.dstMac (2 * s.feAt x 0x3400 2 i + leg) (s.feAt x 0x3410 1 (2 * i + leg))).isSome

/-- The smallest multiple of `p` at or above `a`. -/
def roundUp (a p : Nat) : Nat := (a + p - 1) / p * p

/-- The first index of an egress stream's next packet, its samples, and its sequence number (R327). -/
def State.esNext (s : State) (i : Nat) : Nat × Nat × Nat :=
  let q := s.esAt i
  let p0 := packetSamples (s.feAt (s.esCfg i q.next) 0x3400 6 i) s.rate
  let s0 := roundUp q.next p0
  let p := packetSamples (s.feAt (s.esCfg i s0) 0x3400 6 i) s.rate
  (roundUp s0 p, p, q.seq)

/-- EGRESS_PACKET_SEND: an enabled egress stream's next packet leaves once its last sample has been released; the stream ends
with the output index that its disabling governs (R60, R327). -/
def execEgressPacketSend (i : Nat) (s : State) : Host.Outcome State Fault Refusal :=
  let x := s.tb.sidx
  let q := s.esNext i
  let c := s.esCfg i q.1
  if 128 ≤ i then .next s
  else if s.feAt c 0x3400 1 i ≠ 1 ∨ x + 1 < q.1 + q.2.1 + s.relC then .next (s.esTrack i)
  else
    let rtp := s.esRtp i q.1 q.2.1 q.2.2
    let s1 := { s with st := { s.st with es := aput s.st.es i ⟨q.1 + q.2.1, (q.2.2 + 1) % 65536, (s.esAt i).since⟩ } }
    let s2 := if s.esResolved c i 0 || s.esResolved c i 1 then
        s1.setFeN 0x3400 0x11 i ((s1.feN 0x3400 0x11 i + 1) % 2 ^ 32 : Nat) else s1
    .next ((s2.esLeg i c rtp 0).esLeg i c rtp 1)

/-- ES_STATE (R327, R329). -/
def State.esState (s : State) (i : Nat) : Nat :=
  let x := s.tb.sidx
  let bad := fun (leg : Nat) => natBit (s.feN 0x3400 3 i) leg && !s.esResolved x i leg
  if s.feN 0x3400 1 i = 0 then 0 else if bad 0 || bad 1 then 2 else 1

/-! ### TDM ports (R57, R282, R287, R332 to R337) -/

/-- The status register of a TDM port (R346). -/
def tdmStat (t : Nat) : Nat := 0x30040000 + 0x100 * t

/-- A TDM port starts with the frame at tick `a` (R333). -/
def State.startTdm (s : State) (t a : Nat) : State :=
  (s.setTdm t { s.tdmPort t with run := true, start := a, next := a, frames := 0 }).setStat .shared (tdmStat t) 2

/-- The due TDM_EN write of a port with a value. -/
def State.tdmDue (s : State) (t : Nat) (v : Int) : Option JRec :=
  s.fePend.find? (fun j => j.key == dkey 0x3710 1 t && j.wins && decide (j.apply ≤ s.tb.sidx) && j.val == .num v)

/-- A pending record leaves the front end's list, and its value is in force. -/
def State.consumeFe (s : State) (j : JRec) : State :=
  { s with
    fePend := s.fePend.filter (fun q => q.jseq ≠ j.jseq)
    dict := if j.wins then putVal s.dict j.key j.val else s.dict }

/-- TDM_START: a TDM_EN write of 1 has come due; a port that already runs goes on (R333). -/
def execTdmStart (t : Nat) (s : State) : Host.Outcome State Fault Refusal :=
  match s.tdmDue t 1 with
  | none => .next s
  | some j =>
    let s1 := s.consumeFe j
    if (s.tdmPort t).run then .next s1 else .next (s1.startTdm t j.apply)

/-- TDM_STOP: a TDM_EN write of 0 has come due: the port stops after the frame before its index (R333). -/
def execTdmStop (t : Nat) (s : State) : Host.Outcome State Fault Refusal :=
  match s.tdmDue t 0 with
  | none => .next s
  | some j =>
    let s1 := s.consumeFe j
    let q := s.tdmPort t
    if q.run then
      .next ((s1.setTdm t { q with run := false, rng := { q.rng with state := if q.rng.state = 1 then 3 else q.rng.state } }).setStat
        .shared (tdmStat t) 4)
    else .next s1

/-- Of a list of steps, the one with the latest emission index up to `x`. -/
def lastBegun (x : Nat) : List SurvRun → Option SurvRun
  | [] => none
  | q :: l =>
    match lastBegun x l with
    | some p => if q.at_ ≤ x ∧ p.at_ < q.at_ then some q else some p
    | none => if q.at_ ≤ x then some q else none

/-- The survey signal as emitted at emission index `x`, for its output index: that of the emission of this RENDER which has
begun last; nothing is emitted outside RENDER (R287, R289, R333). -/
def State.surveyCopy (s : State) (x : Nat) : Int :=
  let y := x + 32 * s.latency
  if ¬ s.arb.run ∨ s.arb.zeroAt y ∨ (y < s.arb.startAt ∧ s.arb.endAt.isNone) then 0
  else
    match lastBegun x s.surv.runs with
    | some q =>
      if y < s.arb.startAt ∨ s.arb.startAt ≤ q.at_ + 32 * s.latency then
        (emissionAt (some (emissionFrom q.at_ q.sig)) s.rate q.feed x).getD 0
      else 0
    | none => 0

/-- The marker of link ranging (R282). -/
def marker : Nat := 0x5AC3A5

/-- The bit offset, from `a` on among `n` of them, at which the marker begins in two words that follow each other. -/
def markerAt (hi lo a n : Nat) : Option Nat :=
  ((List.range n).map (a + ·)).find? (fun o => (hi * 2 ^ 32 + lo) / 2 ^ (40 - o) % 2 ^ 24 == marker)

/-- A frame of `n` slots that arrives during ranging: a marker that begins in the slot is detected with the bit periods since the
first bit of the one sent as its counterpart; one that begins at the end of the last slot ends in the next frame (R282). -/
def Ranging.hear (q : Ranging) (n : Nat) (din : List Nat) : Ranging :=
  let w := fun (j : Nat) => din.getD j 0 % 2 ^ 32
  let last := decide (q.slot + 1 = n)
  let late := if last then (q.held.bind (fun h => markerAt h (w 0) 9 23)).map (fun o => 32 * n * (q.frames - 1) + o) else none
  let here := (if last then markerAt (w q.slot) 0 0 9 else markerAt (w q.slot) (w (q.slot + 1)) 0 32).map (fun o => 32 * n * q.frames + o)
  let take := fun (r : Ranging) (o : Option Nat) => match o with
    | some b => if r.seen < 8 then { r with seen := r.seen + 1, bits := r.bits + (b - 32 * n * r.seen) } else r
    | none => r
  { take (take q late) here with frames := q.frames + 1, held := if last then some (w q.slot) else none }

/-- The mean round trip in ns of the eight detections of a port of `n` slots at rate `fs`, and one bit period (R282). -/
def Ranging.mean (q : Ranging) (n fs : Nat) : Nat × Nat :=
  let d := 32 * max 1 n * max 1 fs
  ((rneDiv (q.bits * 1000000000 : Nat) (8 * d)).toNat, (1000000000 + d - 1) / d)

/-- The word of output slot `j` of a TDM frame with output index `x` (R282, R287, R332, R334). -/
def State.tdmOut (s : State) (t x j : Nat) : Nat :=
  let q := s.tdmPort t
  if q.rng.state = 1 ∧ q.rng.frames < 8 ∧ j = q.rng.slot then marker * 256
  else if t = 7 ∧ j = 0 ∧ (s.own .tdm7).owner = 0x30 then
    audToL24 (s.surveyCopy (x - 32 * s.latency)) * 256
  else audToL24 (s.releasedAt x (s.feAt (x - 32 * s.latency) 0x3720 1 (32 * t + j))) * 256

/-- The frame-sync level in each bit period of a frame of `n` slots: asserted for one bit period or 32, from the first of slot 0
or from the last of the frame before, and inverted where TDM_FORMAT says so (R332). -/
def tdmSync (fmt n : Nat) : List Bool :=
  let len := if natBit fmt 1 then 32 else 1
  (List.range (32 * n)).map (fun k =>
    let on : Bool := if natBit fmt 0 then decide (k + 1 < len) || k + 1 == 32 * n else decide (k < len)
    on != natBit fmt 2)

/-- TDM_FRAME: a running port begins the frame of its next tick: data received carry input index t - C, and output index
t - C leaves, with the frame sync and the bit-clock edge of TDM_FORMAT (R57, R332, R333). -/
def execTdmFrame (t : Nat) (din : List Nat) (s : State) : Host.Outcome State Fault Refusal :=
  let q := s.tdmPort t
  let stop : Bool := match s.tdmDue t 0 with
    | some j => decide (j.apply ≤ q.next)
    | none => false
  if 8 ≤ t ∨ ¬ q.run ∨ s.tb.sidx < q.next ∨ stop then .next s
  else
    let n := s.feN 0x3710 2 t
    let x := q.next - s.relC
    let inp := (List.range n).foldl (fun m j =>
      aput m (32 * (x % 1024) + j) (x, 2 * toSigned 24 (din.getD j 0 / 256))) q.input
    let r := if q.rng.state = 1 then q.rng.hear n din else q.rng
    .next ((s.setTdm t { q with next := q.next + 1, frames := (q.frames + 1) % 2 ^ 32, input := inp, rng := r }).emit
      (.tdm t x ((List.range n).map (s.tdmOut t x)) (tdmSync (s.feN 0x3710 3 t) n) (natBit (s.feN 0x3710 3 t) 3)))

/-- RANGING_DONE: the marker has been detected 8 times. The result is the mean round trip in ns, `ns` where that lies within one
bit-clock period of the mean of the frames (R282; log entry 191). -/
def execRangingDone (t ns : Nat) (s : State) : Host.Outcome State Fault Refusal :=
  let q := s.tdmPort t
  if 8 ≤ t ∨ q.rng.state ≠ 1 ∨ q.rng.seen < 8 then .next s
  else
    let m := q.rng.mean (s.feN 0x3710 2 t) s.rate
    let v := if m.1 ≤ ns + m.2 ∧ ns ≤ m.1 + m.2 then ns else m.1
    .next (s.setTdm t { q with rng := { q.rng with state := 2, ns := min 0xFFFFFFFF v } })

/-- RANGING_NO_ECHO: the marker has not been seen within 64 frames (R282). -/
def execRangingNoEcho (t : Nat) (s : State) : Host.Outcome State Fault Refusal :=
  let q := s.tdmPort t
  if 8 ≤ t ∨ q.rng.state ≠ 1 ∨ q.rng.frames < 64 ∨ 8 ≤ q.rng.seen then .next s
  else .next (s.setTdm t { q with rng := { q.rng with state := 3 } })

/-! ### SAP (R331) -/

/-- A SAP message: whether it deletes, its hash, its origin and its description (RFC 2974). -/
def sapOf (b : List Byte) : Option (Bool × Nat × Nat × List Byte) :=
  let h := fbe b 0 1
  let body := b.drop (8 + 4 * fbe b 1 1)
  if b.length < 8 ∨ h / 32 ≠ 1 ∨ natBit h 4 ∨ h % 4 ≠ 0 then none
  else
    let text := if body.head? = some 0x76 then body else (body.dropWhile (· ≠ 0)).drop 1
    some (natBit h 2, fbe b 2 2, fbe b 4 4, text)

/-- The sessions heard by SAP; each SDP_TEXT that differs counts a change (R331, R362). -/
def State.setSap (s : State) (l : List SapEntry) : State :=
  let text := fun (m : List SapEntry) (i : Nat) => ((m[i]?).map (·.text)).getD []
  let s1 := { s with st := { s.st with sap := l } }
  s1.bumpKeys (((List.range 128).filter (fun i => text s.st.sap i != text l i)).map (dkey 0x3900 1))

/-- SAP_RECEIVE: an announcement adds or refreshes a session, a deletion removes it; the 128 most recently refreshed are
kept (R331). It comes through receive ring 0 of a port that receives (R310, R339). -/
def execSapReceive (p : Nat) (b : List Byte) (s : State) : Host.Outcome State Fault Refusal :=
  if ¬ s.rxOn p ∨ s.feN 0x3000 6 p = 0 ∨ ¬ natBit (s.ringReg p false 0 0) 0 ∨ ¬ s.memAvail (s.ringMem p false 0) then .next s
  else
    match sapOf b with
    | none => .next s
    | some (del, hash, origin, text) =>
      let rest := s.st.sap.filter (fun e => !(e.hash == hash && e.origin == origin))
      .next (s.setSap (if del then rest else (⟨hash, origin, p, text.take 1024, s.tb.us⟩ :: rest).take 128))

/-- SAP_SESSION_EXPIRY: sessions not refreshed for 3,600 s are removed (R331). -/
def execSapSessionExpiry (s : State) : Host.Outcome State Fault Refusal :=
  .next (s.setSap (s.st.sap.filter (fun e => decide ((s.tb.us + 2 ^ 48 - e.us) % 2 ^ 48 < 3600000000))))

/-- SAP_ANNOUNCE: each announced egress stream is announced on each of its legs whose port sends (R331, R339). -/
def execSapAnnounce (s : State) : Host.Outcome State Fault Refusal :=
  let on := (List.range 256).filter (fun l =>
    s.feN 0x3400 1 (l / 2) == 1 && s.feN 0x3400 0xE (l / 2) == 1 && natBit (s.feN 0x3400 3 (l / 2)) (l % 2))
  .next (on.foldl (fun (t : State) l => t.sendMsg (2 * t.feN 0x3400 2 (l / 2) + l % 2) (.sap (l / 2) (l % 2) (t.sdpText (l / 2)))) s)

end Sys2Proof.Machine
end

