-- ==== Sys2Proof/Machine/Kaolin.lean ====
section
/-!
DEFINITION. The metrology island (chapter 13, R400 to R428): its start, microphone states, interval results, island time,
minute records, images and console, and the raw samples that the survey capture buffer takes (R286).
-/
namespace Sys2Proof.Machine
open Sys2Proof

/-- The island changed by a function. -/
def State.onIsl (s : State) (f : Island → Island) : State := { s with isl := f s.isl }

/-- A channel of the island. -/
def Island.chan (i : Island) (c : Nat) : IslChan := i.chans.getD c {}

/-- The island with a channel replaced. -/
def Island.setChan (i : Island) (c : Nat) (q : IslChan) : Island := { i with chans := lset i.chans c q }

/-- A channel's configuration. -/
def Island.conf (i : Island) (c : Nat) : IslCfg := i.cfg.getD c {}

/-- The island sends an outbound frame, which is lost while the rest of the die is down (R402). -/
def State.islSend (s : State) (f : KaoOut) : State :=
  if s.dieUp then { s with kao := { s.kao with outbound := s.kao.outbound ++ [f] } } else s

/-! ### Starts (R403, R413) -/

/-- Every family of a channel's results is suppressed from an island sample on (R413, R414). -/
def IslChan.suppress (q : IslChan) (sample : Nat) : IslChan := { q with supp := sample, famOn := 7, dirty := 7 }

/-- A field of a configuration image within its range; a value outside it is replaced by an open one within it (R408). -/
def islValue (img : List Byte) (c k lo hi : Nat) : Nat :=
  let v := Config.islField img c k
  if lo ≤ v ∧ v ≤ hi then v else lo + Config.islOther img c k % (hi - lo + 1)

/-- The configuration that an image gives (R408, R424). -/
def islConfig (img : List Byte) : List IslCfg :=
  [0, 1, 2, 3].map (fun c =>
    let iOpen := islValue img c 3 50 5000
    ⟨islValue img c 0 0 1 == 1, islValue img c 1 100 1000000, islValue img c 2 0 2, iOpen, islValue img c 4 (iOpen + 1) 20000⟩)

/-- The configuration in force: that of the active slot, or the defaults where it holds none. -/
def Island.loadCfg (i : Island) : List IslCfg :=
  let img := i.cfgSlots.getD i.cfgActive []
  if img.isEmpty then [{}, {}, {}, {}] else islConfig img

/-- The bit of KAO_UNSEAL in a minute record's flags. -/
def Island.sealBit (i : Island) : Nat := if i.unsealed then 8 else 0

/-- An island start: flash, OTP, the pin and the watchdog count stay (R403, R413, R420, R426). -/
def Island.start (i : Island) (flags : Nat) : Island :=
  { on := true, unsealed := i.unsealed, cfg := i.loadCfg
    chans := List.replicate 4 (({} : IslChan).suppress 0)
    wdRestarts := i.wdRestarts, flags := flags ||| i.sealBit
    inst := i.inst, seq := i.seq, log := i.log, slot := i.slot, prevHash := i.prevHash, fwSlots := i.fwSlots
    fwActive := i.fwActive, cfgSlots := i.cfgSlots, cfgActive := i.cfgActive, audit := i.audit, staging := i.staging
    tag := i.tag }

/-- KAOLIN_START: the island rails arrive, or KAO_RESET_N is released (R400, R413). -/
def execKaolinStart (powerOn : Bool) (s : State) : Host.Outcome State Fault Refusal :=
  if powerOn then .next (s.onIsl (fun i => { i with wdRestarts := 0, staging := 0 }.start 1))
  else if s.isl.on then .next (s.onIsl (fun i => { i with staging := 0 }.start 1))
  else .next s

/-- The timeout of the island watchdog in KAO_XTAL ticks (R403). -/
def islWdTimeout : Nat := 24576000

/-- The watchdog acts where its counter has reached the timeout: the island starts again, and the restart is counted (R403). -/
def Island.watchdog (i : Island) : Island :=
  if i.wd < islWdTimeout then i
  else { i with wdRestarts := min 65535 (i.wdRestarts + 1), staging := 0 }.start 1

/-- KAOLIN_WATCHDOG_EXPIRY: while the island runs, the ticks that the watchdog's counter lacks to its timeout pass without a
completed result, and it acts (R403, log entry 195). -/
def execKaolinWatchdogExpiry (s : State) : Host.Outcome State Fault Refusal :=
  if s.isl.on then .next (s.onIsl (fun i => { i with wd := i.wd + (islWdTimeout - i.wd) }.watchdog))
  else .next s

/-- KAO_SUPPLY_LOSS: the island stops; only flash, OTP and the seal's position outlive it, and what was under way to it is lost
(R400, R401, R420). -/
def execKaoSupplyLoss (s : State) : Host.Outcome State Fault Refusal :=
  .next ({ s with kao := { s.kao with inbound := [] } }.onIsl (fun i =>
    { i.start 0 with on := false, wdRestarts := 0, staging := 0, tag := 0, flags := 0 }))

/-! ### Island time (R415) -/

/-- The length of an interval in units of 2^-32 ns, and in KAO_XTAL ticks. -/
def intervalLen : Nat := 125000000 * nsUnit
def intervalTicks : Nat := 1536000

/-- The slew that island time makes in a number of ticks: at most 100 ppm (R416). -/
def Island.slewIn (i : Island) (d : Nat) : Int :=
  let m : Int := (12500 * nsUnit * d / intervalTicks : Nat)
  clampI (-m) m i.slew

/-- Island time at a tick of the interval in progress: from where it stands, with the rate and the slew in force (R415). -/
def Island.timeAt (i : Island) (ticks : Nat) : Nat :=
  let d : Int := (ticks : Int) - i.pos
  ((i.time : Int) + (intervalLen + i.rate) * d / intervalTicks + i.slewIn d.toNat).toNat

/-- The island runs to a tick of the interval in progress, where it has not passed it (R403, R415). -/
def Island.run (i : Island) (ticks : Nat) : Island :=
  if ticks ≤ i.pos then i
  else { i with
    time := i.timeAt ticks, slew := i.slew - i.slewIn (ticks - i.pos), wd := i.wd + (ticks - i.pos), pos := ticks }

/-! ### Channels (R406, R407, R412 to R414) -/

/-- The microphone state that a reading in steps of 0.05 mA gives (R407). -/
def senseState (q : IslCfg) (steps : Nat) : Nat :=
  if 50 * steps < q.iOpen then 1 else if q.iShort < 50 * steps then 2 else 0

/-- A reading of a microphone's supply current; the state changes when 50 readings agree (R407, R413). -/
def IslChan.sensed (q : IslChan) (cfg : IslCfg) (steps sample : Nat) : IslChan :=
  let st := senseState cfg steps
  let n := if st = q.cand then q.run + 1 else 1
  let q1 := { q with sense := steps, cand := st, run := min 50 n }
  if n < 50 ∨ st = q.mic then q1
  else if st = 0 then { q1 with mic := 0 }.suppress sample
  else { q1 with mic := st, left_ := true, micEvt := q1.micEvt ||| st }

/-- SENSE_READING: a reading of channel `c`, `off` samples into the interval in progress (R407). -/
def execSenseReading (c steps off : Nat) (s : State) : Host.Outcome State Fault Refusal :=
  if s.isl.on = false ∨ 4 ≤ c ∨ (s.isl.conf c).enable = false then .next s
  else .next (s.onIsl (fun i => (i.run (256 * min off 5999)).setChan c ((i.chan c).sensed (i.conf c) (min 400 steps) (i.sample + min off 5999))))

/-- The combiner's automatic selection is the high-gain path again. -/
def IslChan.highPath (q : IslChan) : IslChan :=
  if q.sig.lowGain ∧ q.sig.below = 4096 then { q with sig := { q.sig with lowGain := false, below := 0 } } else q

/-- COMBINER_RETURN: after 4,096 samples below 0.4 of its full scale the automatic combiner returns to the high-gain path
(R406). -/
def execCombinerReturn (c : Nat) (s : State) : Host.Outcome State Fault Refusal :=
  if s.isl.on = false ∨ 4 ≤ c ∨ (s.isl.conf c).rangeMode ≠ 0 then .next s
  else .next (s.onIsl (fun i => i.setChan c (i.chan c).highPath))

/-- Samples of suppression of a family: LAeq and LCpeak, F, S (R414). -/
def suppLen (fam : Nat) : Nat := match fam with
  | 0 => 4800
  | 1 => 34800
  | _ => 244800

/-- A family's suppression ends where its samples have passed by an island sample. -/
def IslChan.endSupp (q : IslChan) (until_ fam : Nat) : IslChan :=
  if q.supp + suppLen fam ≤ until_ then { q with famOn := q.famOn &&& (7 ^^^ 2 ^ fam) } else q

/-- SUPPRESSION_END: a family's suppression ends within the interval in progress (R414). -/
def execSuppressionEnd (c fam : Nat) (s : State) : Host.Outcome State Fault Refusal :=
  if s.isl.on = false ∨ 4 ≤ c ∨ 3 ≤ fam then .next s
  else .next (s.onIsl (fun i => i.setChan c ((i.chan c).endSupp (i.sample + 6000) fam)))

/-- The energies of a list summed for each SENS that scales them. -/
def energyBySens (l : List (Nat × Nat)) : Assoc Nat := l.foldl (fun m e => aput m e.2 (agetD m e.2 0 + e.1)) []

/-- The sum of energies over the squares of their SENS, as a fraction. -/
def energySum (l : List (Nat × Nat)) : Nat × Nat :=
  (energyBySens l).foldl (fun r e => (r.1 * (e.1 * e.1) + e.2 * r.2, r.2 * (e.1 * e.1))) (0, 1)

/-- LAeq over the last `n` intervals in units of 2^-16 dB, where enough of them are valid (R412); `free` where the energy
is zero, for which the formula gives no value. A word of 256 nV at 1 uV/Pa is 0.256 Pa, which is 12,800 p0. -/
def laeqOf (free : Int) (l : List (Option (Nat × Nat))) (n : Nat) : Option Int :=
  let v := (l.take n).filterMap id
  if 4 * v.length < 3 * n then none
  else
    let e := energySum v
    some (if e.1 = 0 then free
      else satS 32 (rneShift fxBits (655360 * fxLn (12800 * 12800 * e.1) (6000 * v.length * e.2) * 2 ^ fxBits / fxLn10)))

/-- The greater of a maximum so far and a value. -/
def optMax (m : Option Int) (v : Int) : Option Int := some (match m with
  | none => v
  | some w => max w v)

/-- A channel at the end of an interval (R411, R412, R414); `free` gives the values that levels of no energy take. -/
def IslChan.interval (q : IslChan) (cfg : IslCfg) (endAt : Nat) (free : Nat → Int) : IslChan :=
  let m := q.sig.meas cfg.sens (fun k => free (4 + k))
  let q0 := ((q.endSupp endAt 0).endSupp endAt 1).endSupp endAt 2
  let base := cfg.enable && q0.mic == 0 && !q0.left_ && !m.overload
  let ok := fun (fam : Nat) => base && !natBit q0.dirty fam
  let es := ((if ok 0 then some (m.energy, cfg.sens) else none) :: q0.energies).take 28800
  let laeq := fun (k n : Nat) => if cfg.enable then laeqOf (free k) es n else none
  { q0 with
    sig := q0.sig.newInterval
    energies := es
    res := [laeq 0 8, laeq 1 480, laeq 2 7200, laeq 3 28800, if ok 0 then some (satS 32 m.peak) else none]
    peakMax := if ok 0 then optMax q0.peakMax (satS 32 m.peak) else q0.peakMax
    lafMax := if ok 1 then optMax q0.lafMax (satS 32 m.laf) else q0.lafMax
    lasMax := if ok 2 then optMax q0.lasMax (satS 32 m.las) else q0.lasMax
    cover := if ok 0 then q0.cover + 1 else q0.cover
    micEvt := if cfg.enable && m.overload then q0.micEvt ||| 4 else q0.micEvt
    left_ := false
    dirty := q0.famOn }

/-- The microphone state that a channel reports (R407). -/
def Island.micState (i : Island) (c : Nat) : Nat := if (i.conf c).enable then (i.chan c).mic else 3

/-! ### TIME_QUAL and time words (R416) -/

/-- TIME_QUAL (R416). -/
def Island.qual (i : Island) : Nat :=
  if i.timeSet = false then 2
  else
    match i.lastWord with
    | some (t, locked, off) =>
      if i.time ≤ t + 2000000000 * nsUnit ∧ locked = true ∧ off.natAbs < 1000 * nsUnit then 0 else 1
    | none => 1

/-- The mean of a list of integers. -/
def meanI (l : List Int) : Int := if l.isEmpty then 0 else l.sum / l.length

/-- The drift per interval that a time word shows against the rate in force: what its offset adds to the slew still to be made,
over the time since the word before it. -/
def Island.driftOf (i : Island) (announced : Nat) (off : Int) : Option Int :=
  match i.lastWord with
  | none => none
  | some (t, _, _) => if announced ≤ t then none else some (i.rate + (off - i.slew) * intervalLen / (announced - t : Nat))

/-- An accepted time word acts at the strobe, up to which the island has run (R416): a step, or a slew, and the rate corrected by
the mean drift that the last eight words show. -/
def Island.strobe (i : Island) (announced : Nat) (locked : Bool) : Island :=
  let off : Int := (announced : Int) - i.time
  let words := (i.time :: i.words).take 2
  if 1000000 * nsUnit < off.natAbs then
    { i with
      timeSet := true, lastWord := some (announced, locked, 0), time := announced, slew := 0, flags := i.flags ||| 16
      drifts := [], words := words.map (fun (w : Nat) => ((w : Int) + off).toNat) }
  else
    let ds := ((i.driftOf announced off).toList ++ i.drifts).take 8
    { i with
      timeSet := true, lastWord := some (announced, locked, off), words := words, slew := off, drifts := ds
      rate := if ds.isEmpty then i.rate else meanI ds }

/-- Two time words have been accepted within the second before a time. -/
def Island.wordsFull (i : Island) (now : Nat) : Bool :=
  2 ≤ i.words.length && i.words.all (fun w => decide (now < w + 1000000000 * nsUnit))

/-- An inbound frame is discarded and counted (R404). -/
def Island.discard (i : Island) : Island :=
  { i with discarded := min 0xFFFFFFFF (i.discarded + 1), flags := i.flags ||| 32 }

/-- The first message of a list that a test admits, and the list without it. -/
def takeFirst {α : Type} (f : α → Bool) : List α → Option (α × List α)
  | [] => none
  | a :: l => if f a then some (a, l) else (takeFirst f l).map (fun r => (r.1, a :: r.2))

/-- The state without an inbound message. -/
def State.setInbound (s : State) (l : List KaoIn) : State := { s with kao := { s.kao with inbound := l } }

/-- TIME_STROBE: the time strobe marks the edge that the waiting time word announces, a number of KAO_XTAL ticks into the
interval in progress; a word with a bad CRC, or the third within a second, is discarded (R404, R416, R419). -/
def execTimeStrobe (ticks : Nat) (bad : Bool) (s : State) : Host.Outcome State Fault Refusal :=
  let isTime := fun (m : KaoIn) => match m with
    | .time _ _ _ => true
    | _ => false
  match takeFirst isTime s.kao.inbound with
  | some (.time sec ns locked, l) =>
    let s1 := s.setInbound l
    if s.isl.on = false then .next s1
    else
      let i := s.isl.run (min ticks intervalTicks)
      .next (s1.onIsl (fun _ => if bad = true ∨ i.wordsFull i.time = true then i.discard
        else i.strobe ((sec * 1000000000 + ns) * nsUnit) locked))
  | _ => .next s

/-! ### Results (R412, R417) -/

/-- A PTP80 field: seconds and nanoseconds (R6). -/
def ptp80Bytes (t : Nat) : List Byte := beBytes 6 (t / secUnit) ++ beBytes 4 (t / nsUnit % 1000000000)

/-- An I32 field, 0x8000_0000 where invalid. -/
def i32Bytes (v : Option Int) : List Byte := beBytes 4 (toUnsigned 32 (v.getD (-(2 ^ 31))))

/-- The channel part of a minute record (R421). -/
def Island.chanRecord (i : Island) (c : Nat) : List Byte :=
  let q := i.chan c
  i32Bytes (q.res.getD 1 none) ++ i32Bytes q.peakMax ++ i32Bytes q.lafMax ++ i32Bytes q.lasMax ++ beBytes 2 q.cover ++
    beBytes 1 (i.micState c) ++ beBytes 1 q.micEvt ++ [0, 0, 0, 0]

/-- The running firmware image. -/
def Island.fw (i : Island) : List Byte := i.fwSlots.getD i.fwActive []

/-- Bytes 4 to 127 of the record of the minute that ends (R421). -/
def Island.minuteBody (i : Island) : List Byte :=
  ptp80Bytes i.minStart ++ beBytes 1 i.qual ++ beBytes 1 (i.flags ||| i.inst) ++ (sha256 i.fw).take 4 ++ beBytes 1 i.audit ++ [0, 0, 0] ++
    ([0, 1, 2, 3].flatMap i.chanRecord) ++ [0, 0, 0, 0, 0, 0, 0, 0]

/-- A channel at the start of a minute. -/
def IslChan.newMinute (q : IslChan) : IslChan :=
  { q with peakMax := none, lafMax := none, lasMax := none, cover := 0, micEvt := q.mic % 4 }

/-- The end of a minute: its record waits to be written, and a new minute begins (R416, R420). -/
def Island.endMinute (i : Island) : Island :=
  if i.minute < 480 then i
  else { i with
    done := some i.minuteBody, minute := 0, minStart := i.time, flags := i.sealBit, chans := i.chans.map IslChan.newMinute }

/-- The island at the end of an interval, whose result restarts the watchdog (R403). -/
def Island.interval (i : Island) (free : Nat → Int) : Island :=
  let one := fun (c : Nat) =>
    (i.chan c).interval (i.conf c) (i.sample + 6000) (fun k => free (8 * c + k))
  ({ i.run intervalTicks with
    chans := [one 0, one 1, one 2, one 3], sample := i.sample + 6000
    pos := 0, wd := 0, minute := i.minute + 1 }).endMinute

/-- The result frame of the interval that has ended (R417). -/
def Island.resultFrame (i : Island) : KaoOut :=
  .result ([0, 1, 2, 3].map (fun c => ((i.chan c).res, i.micState c))) (i.time / secUnit) (i.time / nsUnit % 1000000000)

/-- The island forms a sample of every channel from the inputs in nV (R405 to R411). -/
def Island.sampled (i : Island) (volts : List (List Int)) : Island :=
  { i with chans := (List.range 4).map (fun c =>
      { i.chan c with sig := (i.chan c).sig.sample c (i.conf c).rangeMode (volts.getD c []) }) }

/-- INTERVAL_RESULT: an interval of 6,000 samples ends. `rest` gives the inputs of its samples after those that RAW_SAMPLE has
given; each channel's results are formed from what it measured in the interval, and a result frame is sent (R405 to R417). -/
def execIntervalResult (rest : List (List (List Int))) (s : State) : Host.Outcome State Fault Refusal :=
  if s.isl.on = false then .next s
  else
    let free := fun (k : Nat) => toSigned 32 (Config.freeNat (s.draws + k))
    let s1 := { s with isl := (rest.foldl Island.sampled s.isl).interval free, draws := s.draws + 32 }
    .next (s1.islSend s1.isl.resultFrame)

/-! ### Minute records (R420 to R423) -/

/-- Slots of the log ring, and the records of a sector of 4 KiB (R423). -/
def logSlots : Nat := 49152
def logSector : Nat := 16

/-- The write point moves on; the sector ahead is erased before the write point enters it, so that at least 49,136 records stay
(R423). -/
def Island.nextSlot (i : Island) : Island :=
  let n := (i.slot + 1) % logSlots
  { i with
    slot := n
    log := if n % logSector = 0 then i.log.filter (fun e => decide (e.slot / logSector ≠ n / logSector)) else i.log }

/-- Writes that fail take a slot each, and SEQ does not change (R423). -/
def Island.failSlots (i : Island) : Nat → Island
  | 0 => i
  | n + 1 => i.nextSlot.failSlots n

/-- A record is written: signed, chained to its predecessor, numbered on, after a number of writes that failed (R420 to
R423). -/
def Island.writeRecord (i : Island) (body : List Byte) (nonce failed : Nat) : Island × List Byte :=
  let prev := if i.prevHash.isEmpty then List.replicate 32 0 else i.prevHash
  let front := beBytes 4 i.seq ++ body ++ prev
  let rec_ := front ++ ecdsaSign Config.islPrivate nonce front ++ List.replicate 32 0
  let j := i.failSlots failed
  ({ j with
    seq := (i.seq + 1) % 2 ^ 32, prevHash := sha256 front, log := ⟨j.slot, i.seq, rec_⟩ :: j.log, done := none
    inst := i.inst &&& (6 ^^^ ((body.getD 11 0).toNat &&& 6)) }.nextSlot, rec_)

/-- A frame with a bad CRC is counted at the outbound port (R417, R429, R430). -/
def State.frameErr (s : State) : State :=
  let s1 := if natBit (s.reg .shared 0x30060000) 2 then s else s.countReg .shared 0x3006000C 1
  s1.setStat .shared 0x30060004 4

/-- MINUTE_RECORD: the record of the minute that has ended is signed, written to the log and sent (R417, R420 to R423). -/
def execMinuteRecord (fate : RecordFate) (s : State) : Host.Outcome State Fault Refusal :=
  match s.isl.done with
  | none => .next s
  | some body =>
    if s.isl.on = false then .next s
    else
      let r := s.isl.writeRecord body s.freeNat (fate.failed % logSlots)
      let s1 := { s.drawn with isl := r.1 }
      if s.dieUp = false then .next s1
      else if fate.bad = true then .next s1.frameErr
      else .next (s1.emit (.kaoRecord r.2))

/-- The record of a number, where the log holds it (R423). -/
def Island.record (i : Island) (n : Nat) : Option (List Byte) := (i.log.find? (fun e => e.number == n)).map (·.bytes)

/-- LOG_REQUEST_RECEIVE: the island takes a log request and answers it with the record or "not held"; a frame with a bad
CRC is discarded (R404, R419, R423). -/
def execLogRequestReceive (bad : Bool) (s : State) : Host.Outcome State Fault Refusal :=
  let isReq := fun (m : KaoIn) => match m with
    | .logReq _ => true
    | _ => false
  match takeFirst isReq s.kao.inbound with
  | some (.logReq n, l) =>
    let s1 := s.setInbound l
    if s.isl.on = false then .next s1
    else if bad = true then .next (s1.onIsl Island.discard)
    else .next (s1.islSend (.logPage (s.isl.record n)))
  | _ => .next s

/-! ### Status, images and the seal (R417, R419, R424 to R427) -/

/-- An upper-case hexadecimal digit. -/
def hexDigit (n : Nat) : Byte := BitVec.ofNat 8 (if n < 10 then 48 + n else 55 + n)

/-- Bytes as hexadecimal digits. -/
def hexText (b : List Byte) : List Byte := b.flatMap (fun x => [hexDigit (x.toNat / 16), hexDigit (x.toNat % 16)])

/-- An image's version as major.minor.patch (R427). -/
def islVersion (img : List Byte) : List Byte :=
  let part := fun (k : Nat) => decText (Config.islVersionPart img k % 65536)
  part 0 ++ txt "." ++ part 1 ++ txt "." ++ part 2

/-- The software identifier (R427). -/
def Island.swid (i : Island) : List Byte :=
  txt "KAO " ++ islVersion i.fw ++ txt " " ++ hexText ((sha256 i.fw).take 4)

/-- The chain delay in ns (R409). -/
def chainNs : Nat := 748291

/-- STATUS_FRAME: the island's status frame (R417). -/
def execStatusFrame (s : State) : Host.Outcome State Fault Refusal :=
  let i := s.isl
  if i.on = false then .next s
  else .next (s.islSend (.status i.swid i.audit i.unsealed chainNs i.staging i.tag i.qual i.discarded i.wdRestarts))

/-- A received image passes the island's checks (R424, R426). -/
def islImageOk (img : List Byte) : Bool :=
  let max_ := if Config.islKind img = 0 then 1048576 else 65536
  decide (64 ≤ img.length) && decide (img.length ≤ max_) && decide (Config.islKind img ≤ 1) &&
    sha256 (Config.islKey img) == Config.islKeyDigest &&
    ecdsaVerify (Config.islKey img) (img.drop (img.length - 64)) (img.take (img.length - 64))

/-- Channels whose configuration changes restart, from the next sample on (R413, R414). -/
def Island.recfg (i : Island) : Island :=
  let new := i.loadCfg
  let ch := [0, 1, 2, 3].map (fun c => if new.getD c {} = i.conf c then i.chan c else (i.chan c).suppress (i.sample + (i.pos + 255) / 256))
  { i with cfg := new, chans := ch, inst := i.inst ||| 4 }

/-- Step 2 of an install: the image stands in the inactive slot of its kind, as far as the slot holds it (R423, R426). -/
def Island.storeImg (i : Island) (img : List Byte) : Island :=
  if Config.islKind img = 0 then { i with fwSlots := lset i.fwSlots (1 - i.fwActive) (img.take 1048576) }
  else if Config.islKind img = 1 then { i with cfgSlots := lset i.cfgSlots (1 - i.cfgActive) (img.take 65536) }
  else i

/-- Steps 2 to 6 of an install (R426). -/
def Island.install (i : Island) (img : List Byte) : Island :=
  let i0 := { i with rxImg := none }.storeImg img
  if islImageOk img = false ∨ 255 ≤ i.audit then { i0 with staging := 5 }
  else if Config.islKind img = 0 then
    { i0 with audit := i.audit + 1, fwActive := 1 - i.fwActive, staging := 4, inst := i.inst ||| 2 }.start 1
  else { i0 with audit := i.audit + 1, cfgActive := 1 - i.cfgActive, staging := 4 }.recfg

/-- An inbound image message. -/
def isImage (m : KaoIn) : Bool :=
  match m with
  | .imgStart _ => true
  | .imgBlock _ => true
  | .imgEnd _ => true
  | _ => false

/-- An image message that the island accepts; an end without a start is an image that fails. -/
def Island.takeImage (i : Island) (m : KaoIn) : Island :=
  match m with
  | .imgStart n => { i with rxImg := some [], staging := 3, tag := n }
  | .imgBlock b => match i.rxImg with
    | some l => { i with rxImg := some (l ++ b) }
    | none => i
  | .imgEnd n => match i.rxImg with
    | some l => { i with tag := n }.install l
    | none => { i with staging := 5, tag := n }
  | _ => i

/-- An install in progress ends as rejected (R426). -/
def Island.reject (i : Island) : Island :=
  if i.staging = 3 then { i with rxImg := none, staging := 5 } else i

/-- IMAGE_BLOCK_RECEIVE: the island accepts an image message only while it senses KAO_UNSEAL asserted, and at the end of the
image verifies and installs it (R404, R419, R426). -/
def execImageBlockReceive (bad : Bool) (s : State) : Host.Outcome State Fault Refusal :=
  match takeFirst isImage s.kao.inbound with
  | none => .next s
  | some (m, l) =>
    let s1 := s.setInbound l
    if s.isl.on = false then .next s1
    else if bad = true ∨ s.isl.unsealed = false then .next (s1.onIsl (fun i => i.discard.reject))
    else .next (s1.onIsl (fun i => i.takeImage m))

/-- KAO_UNSEAL_CHANGE: the pin's level changes; an assertion marks the minute's record, and a fall before an image has been
verified ends its install as rejected (R420, R421, R426). -/
def execKaoUnsealChange (level : Bool) (s : State) : Host.Outcome State Fault Refusal :=
  .next (s.onIsl (fun i =>
    let i1 := { i with unsealed := level, flags := if level && i.on then i.flags ||| 8 else i.flags }
    if level = false then i1.reject else i1))

/-! ### Raw samples (R286, R417, R418) -/

/-- Island time at which the final FIR forms sample `k` of the interval in progress. -/
def Island.stamp (i : Island) (k : Nat) : Nat := i.timeAt (256 * min k 5999)

/-- Values kept of a capture channel from index `s` on, `n` of them equal to `v`. -/
def capFill (m : Assoc Int) (v : Int) (s : Nat) : Nat → Assoc Int
  | 0 => m
  | n + 1 => capFill (aputD m (s % 1024) v 0) v (s + 1) n

/-- A sample lands on index `x` and, at 96 kHz, on the next: the channel and the slips (R286). -/
def CapChan.take (q : CapChan) (x n : Nat) (v : Int) : CapChan × Nat :=
  let first := match q.last with
    | some l => l + 1
    | none => x
  if x < first then (q, 1)
  else
    let gap := x - first
    let m := capFill q.vals q.val (x - min gap 1024) (min gap 1024)
    ({ last := some (x + n - 1), val := v, vals := capFill m v x n }, gap)

/-- A raw sample of island channel `m` goes to the capture channels that name it; one that took it before starts anew when it
does again (R286). -/
def State.capTake (s : State) (x n m : Nat) (v : Int) : State :=
  (List.range 4).foldl (fun (t : State) c =>
    let q := t.surv.cap.getD c {}
    let put := fun (t : State) (y : CapChan) => { t with surv := { t.surv with cap := lset t.surv.cap c y } }
    if t.feN 0xA000 2 c = m then
      let r := (if q.src = m then q else {}).take x n v
      (put t { r.1 with src := m }).countFe 0xA000 7 0 r.2
    else if q.src = m then put t {}
    else t) s

/-- Subsoil's side of a raw sample that stands at system index `x`; the capture channels start anew when the survey function
takes the buffer again (R285, R286, R418, R429, R430). -/
def State.rawTake (s : State) (x : Nat) (bad full : Bool) : State :=
  if s.dieUp = false then s
  else if bad = true then s.frameErr
  else if natBit (s.reg .shared 0x30060000) 0 = false then s
  else if full = true then (s.countReg .shared 0x3006001C 1).setStat .shared 0x30060004 0x80
  else if s.capOn = false then { s with surv := { s.surv with cap := s.surv.cap.map (fun _ => {}) } }
  else
    let n := if s.rate = 96000 then 2 else 1
    (List.range 4).foldl (fun (t : State) m =>
      if (s.isl.conf m).enable then t.capTake x n m (2 * (s.isl.chan m).sig.raw) else t) s

/-- RAW_SAMPLE: sample `k` of the interval in progress: each channel's differential inputs in nV at the 128 samples of its
modulators pass the measurement chain, and the island sends each configured channel's Z-weighted sample; Subsoil discards it
with RAW_EN at 0, on a bad CRC, or for lack of buffer space, and otherwise the survey's capture buffer takes it (R286, R405 to
R411, R417, R418, R429, R430). -/
def execRawSample (k : Nat) (volts : List (List Int)) (bad full : Bool) (s : State) : Host.Outcome State Fault Refusal :=
  if s.isl.on = false then .next s
  else .next ((s.onIsl (fun i => (i.run (256 * min k 5999)).sampled volts)).rawTake (s.isl.stamp k * s.rate / secUnit) bad full)

/-! ### Console (R428) -/

/-- An integer in decimal. -/
def intText (v : Int) : List Byte := if v < 0 then txt "-" ++ decText v.natAbs else decText v.natAbs

/-- Words separated by spaces. -/
def spaced : List (List Byte) → List Byte
  | [] => []
  | [a] => a
  | a :: l => a ++ txt " " ++ spaced l

/-- A line on the console while the island runs. -/
def State.say (s : State) (b : List Byte) : State := if s.isl.on then s.emit (.console b) else s

/-- CONSOLE_ID: identity, configuration version, audit counter and serial number. -/
def execConsoleId (s : State) : Host.Outcome State Fault Refusal :=
  .next (s.say (spaced [s.isl.swid, islVersion (s.isl.cfgSlots.getD s.isl.cfgActive []), decText s.isl.audit,
    Config.islSerial]))

/-- CONSOLE_KEY: the island public key, 64 bytes in hexadecimal. -/
def execConsoleKey (s : State) : Host.Outcome State Fault Refusal := .next (s.say (hexText (p256Public Config.islPrivate)))

/-- CONSOLE_TIME: island time and TIME_QUAL. -/
def execConsoleTime (s : State) : Host.Outcome State Fault Refusal :=
  .next (s.say (spaced [decText (s.isl.time / secUnit), decText (s.isl.time / nsUnit % 1000000000), decText s.isl.qual]))

/-- A channel's line of the status output: microphone state, sense current in steps of 0.05 mA, RANGE_MODE, and each result
with its validity. -/
def Island.statusLine (i : Island) (c : Nat) : List Byte :=
  let q := i.chan c
  spaced ([decText c, decText (i.micState c), decText q.sense, decText (i.conf c).rangeMode] ++
    q.res.map (fun v => match v with
      | some x => intText x
      | none => txt "invalid"))

/-- CONSOLE_STATUS: one line per channel. -/
def execConsoleStatus (s : State) : Host.Outcome State Fault Refusal :=
  .next ([0, 1, 2, 3].foldl (fun (t : State) c => t.say (s.isl.statusLine c)) s)

/-- CONSOLE_LOG: a minute record in hexadecimal, or "not held". -/
def execConsoleLog (n : Nat) (s : State) : Host.Outcome State Fault Refusal :=
  .next (s.say (match s.isl.record n with
    | some r => hexText r
    | none => txt "not held"))

/-- CONSOLE_UNKNOWN: any other input is answered "?". -/
def execConsoleUnknown (s : State) : Host.Outcome State Fault Refusal := .next (s.say (txt "?"))

end Sys2Proof.Machine
end

