-- ==== Sys2Proof/Machine/Mirror.lean ====
section
/-!
DEFINITION. The management subsystem's side of the island link: the mirror at 0xB000, the exposure groups, log requests,
image transfers and time words (R157 to R160, R284, R394, R395, R416 to R419, R425, R426, R429, R430).
-/
namespace Sys2Proof.Machine
open Sys2Proof

/-- The mirror changed by a function. -/
def State.onKao (s : State) (f : Mirror → Mirror) : State := { s with kao := f s.kao }

/-- KO_STAT (R430). -/
def koStat : Nat := 0x30060004

/-! ### Exposure groups (R157 to R160) -/

/-- The group has a member feed. -/
def State.expoMembers (s : State) (g : Nat) : Bool := (List.range 1024).any (fun f => s.feN 0x6400 0xC f == g)

/-- The offset of R158 for a level, all in units of 1/256 dB. -/
def expoOffset (leq lim win a : Int) : Int :=
  let e := max 0 (leq - (lim - win))
  if win ≤ e then -a else -(rneDiv (a * e) win.toNat)

/-- An offset is journaled for a group (R157). -/
def State.expoJournal (s : State) (g : Nat) (o : Int) : State :=
  s.addInternal 5 (32 * (s.tb.sidx / 32 + 2)) (dkey 0x6500 6 g) (.num o)

/-- A group's state stands with the front end and in both units (R159, R174, R553). -/
def State.setExpo (s : State) (g st : Nat) : State :=
  (s.setFeN 0x6500 7 g st).onUnits (fun r => { r with rd := { r.rd with expo := aputD r.rd.expo g st 0 } })

/-- A group enters a state; entry into 2 or 3 is logged and notified (R159). -/
def State.expoEnter (s : State) (g st : Nat) : State :=
  let old := s.feN 0x6500 7 g
  let s1 := s.setExpo g st
  if st = old ∨ st < 2 then s1
  else
    let b := s.tb.sidx / 32
    (s1.logEvent 0x0040 0 1 b (g + 256 * st)).notify 0x000C (dkey 0x6500 7 g) b (beBytes 1 st)

/-- The intervals a group has missed. -/
def State.setMisses (s : State) (g n : Nat) : State := s.onKao (fun k => { k with misses := lset k.misses g n })

/-- A group's interval has no valid result: stale, and after eight in a row failsafe, which falls due at the first interval
after a management restart (R159, R454). -/
def State.expoMiss (s : State) (g : Nat) : State :=
  let n := s.kao.misses.getD g 0 + 1
  let s1 := s.setMisses g n
  if n < 8 ∨ (s.sub.restarting ∧ s.feN 0x6500 7 g ≠ 3) then s1.expoEnter g 2
  else if s.feN 0x6500 7 g = 3 then s1
  else
    let s2 := s1.expoEnter g 3
    if s.feN 0x6500 5 g = 1 then s2.expoJournal g (-(s.feI 0x6500 4 g)) else s2

/-- A group takes a result frame: the selected LAeq where it is valid (R157 to R159). -/
def State.expoTake (s : State) (chans : List (List (Option Int) × Nat)) (g : Nat) : State :=
  if s.expoMembers g = false then (s.setMisses g 0).setExpo g 0
  else
    let src := s.feN 0x6500 1 g
    match (chans.getD (src % 4) ([], 3)).1.getD (src / 4 % 4) none with
    | none => s.expoMiss g
    | some v =>
      let o := expoOffset (satS 16 (rneDiv v 256)) (s.feI 0x6500 2 g) (s.feI 0x6500 3 g) (s.feI 0x6500 4 g)
      ((s.setMisses g 0).expoEnter g 1).expoJournal g o

/-- Groups 0 to 7. -/
def expoGroups : List Nat := [0, 1, 2, 3, 4, 5, 6, 7]

/-- EXPO_INTERVAL_MISSED: a result interval of 125 ms has brought no result (R159). -/
def execExpoIntervalMissed (s : State) : Host.Outcome State Fault Refusal :=
  if s.sub.porN = false ∨ s.usSince s.kao.expoUs < 125000 then .next s
  else
    let s1 := s.onKao (fun k => { k with expoUs := (k.expoUs + 125000) % 2 ^ 48 })
    .next (expoGroups.foldl (fun (t : State) g => if t.expoMembers g then t.expoMiss g else t.setExpo g 0) s1)

/-! ### Result frames (R284, R395) -/

/-- One channel's mirror entries (R394). -/
def State.mirrorChan (s : State) (c : Nat) (r : List (Option Int) × Nat) : State :=
  let v := fun (k : Nat) => (r.1.getD k none).getD (-(2 ^ 31))
  let s1 := [0, 1, 2, 3, 4].foldl (fun (t : State) k => t.setFeN 0xB000 (k + 1) c (v k)) s
  let bits := [0, 1, 2, 3, 4].foldl (fun (m : Nat) k => if (r.1.getD k none).isSome then m + 2 ^ k else m) 0
  (s1.setFeN 0xB000 6 c bits).setFeN 0xB000 7 c r.2

/-- LINK rises with a result frame; a frame that the management core takes begins a new result interval (R159, R430, R456). -/
def State.linkUp (s : State) : State :=
  let s1 := (s.onKao (fun k => { k with
    link := true, lost := false, resultUs := s.tb.us
    expoUs := if s.sub.restarting then k.expoUs else s.tb.us })).setReg .shared 0x30060008
    ((s.reg .shared 0x30060008 + 1) % 2 ^ 32)
  if s.kao.lost then s1.logEvent 0x0060 0 0 0 2 else s1

/-- A result frame from the head of the link: it replaces the mirror entries together, and the exposure groups take it. Nothing
but the link follows it during a management restart (R157, R395, R417, R430, R454). -/
def State.takeResult (s : State) (bad : Bool) : State :=
  let isRes := fun (f : KaoOut) => match f with
    | .result _ _ _ => true
    | _ => false
  match takeFirst isRes s.kao.outbound with
  | some (.result chans sec ns, l) =>
    let s1 := s.onKao (fun k => { k with outbound := l })
    if bad = true then s1.frameErr
    else
      let s2 := s1.linkUp
      if s.sub.restarting then s2
      else
        let s3 := [0, 1, 2, 3].foldl (fun (t : State) c => t.mirrorChan c (chans.getD c ([], 3))) s2
        let s4 := (s3.setFeN 0xB000 8 0 ((s.feN 0xB000 8 0 + 1) % 2 ^ 32 : Nat)).setFeN 0xB000 9 0 (sec * 2 ^ 32 + ns : Nat)
        expoGroups.foldl (fun (t : State) g => t.expoTake chans g) s4.micFaults
  | _ => s

/-- KO_LINK_LOST: no result frame for 250 ms (R430, R456). -/
def execKoLinkLost (s : State) : Host.Outcome State Fault Refusal :=
  if s.kao.link = false ∨ s.usSince s.kao.resultUs < 250000 then .next s
  else
    let s1 := s.onKao (fun k => { k with link := false, lost := true })
    .next ((s1.setStat .shared koStat 2).logEvent 0x0060 0 1 0 1)

/-! ### Inbound messages (R401, R416, R419) -/

/-- Subsoil sends an inbound message, which is lost while the island is off. -/
def State.kaoSend (s : State) (m : KaoIn) : State :=
  if s.isl.on then s.setInbound (s.kao.inbound ++ [m]) else s

/-- TIME_WORD_SEND: with TIME_EN a time word with the PTP time of the next PPS_OUT edge and the lock state (R416). -/
def execTimeWordSend (s : State) : Host.Outcome State Fault Refusal :=
  if natBit (s.reg .shared 0x30060000) 1 = false ∨ s.tbRuns = false then .next s
  else .next (s.kaoSend (.time ((s.tb.sec + 1) % 2 ^ 48) 0 (s.ptp.lock == .locked)))

/-- A log-page request is sent (R395, R419). -/
def State.sendLogReq (s : State) (n : Nat) : State :=
  ((s.kaoSend (.logReq n)).onKao (fun k => { k with logReq := some s.tb.us })).setFeN 0xB010 3 0 1

/-- KO_LOG_REQ written: one request at a time (R429, R430). -/
def State.koLogReq (s : State) (n : Nat) : State :=
  if s.kao.logReq.isSome then s.setStat .shared koStat 0x40
  else
    let s1 := s.setReg .shared 0x30060010 n
    if n = 0 then s1 else s1.sendLogReq n

/-- LOG_REQUEST_TIMEOUT: no answer within 2 s (R395). -/
def execLogRequestTimeout (s : State) : Host.Outcome State Fault Refusal :=
  match s.kao.logReq with
  | none => .next s
  | some t =>
    if s.usSince t < 2000000 then .next s
    else .next ((s.onKao (fun k => { k with logReq := none })).setFeN 0xB010 3 0 4)

/-- LOG_PAGE_RECEIVE: the record asked for, or "not held", arrives (R395, R417, R423, R430). -/
def execLogPageReceive (bad : Bool) (s : State) : Host.Outcome State Fault Refusal :=
  let isLog := fun (f : KaoOut) => match f with
    | .logPage _ => true
    | _ => false
  match takeFirst isLog s.kao.outbound with
  | some (.logPage rec_, l) =>
    let s1 := s.onKao (fun k => { k with outbound := l })
    if bad = true then .next s1.frameErr
    else
      let s2 := (s1.onKao (fun k => { k with logReq := none })).setStat .shared koStat 0x20
      match rec_ with
      | some b => .next ((s2.setFe 0xB010 2 0 (.bytes b)).setFeN 0xB010 3 0 2)
      | none => .next (s2.setFeN 0xB010 3 0 3)
  | _ => .next s

/-! ### Status frames and installs (R394, R395, R417, R425, R426) -/

/-- The staging state that a status frame reports ends an install in progress: the state reached by its own transfer, or a pin
that is not asserted before the island has accepted that transfer (R394, R426, log entry 197). -/
def State.stageReport (s : State) (unsealed : Bool) (st tag : Nat) : State :=
  if s.feN 0xB030 3 0 ≠ 3 then s
  else if tag = s.kao.tag then (if 4 ≤ st then (s.setFeN 0xB030 3 0 st).logEvent 0x0060 0 0 0 4 else s)
  else if unsealed = false then (s.setFeN 0xB030 3 0 5).logEvent 0x0060 0 0 0 4
  else s

/-- A status frame. -/
def KaoOut.isStatus (f : KaoOut) : Bool :=
  match f with
  | .status _ _ _ _ _ _ _ _ _ => true
  | _ => false

/-- STATUS_FRAME_RECEIVE: a status frame is mirrored (R394, R417). -/
def execStatusFrameReceive (bad : Bool) (s : State) : Host.Outcome State Fault Refusal :=
  match takeFirst KaoOut.isStatus s.kao.outbound with
  | some (.status swid audit unsealed chain staging tag _ _ _, l) =>
    let s1 := s.onKao (fun k => { k with outbound := l })
    if bad = true then .next s1.frameErr
    else
      let s2 := s1.onKao (fun k => { k with unsealed := unsealed, statusUs := some s.tb.us })
      let s3 := ((s2.setFe 0xB020 1 0 (.bytes swid)).setFeN 0xB020 2 0 audit).setFeN 0xB020 3 0 chain
      .next (s3.stageReport unsealed staging tag)
  | _ => .next s

/-- KAO_UNSEAL as the front end takes it: mirrored as asserted within the last 2 s (R425). -/
def State.unsealSeen (s : State) : Bool :=
  s.kao.unsealed && (match s.kao.statusUs with
    | some t => decide (s.usSince t ≤ 2000000)
    | none => false)

/-- An image transfer begins, under a number of its own. -/
def State.imgBegin (s : State) : State :=
  let n := s.kao.tag + 1
  (s.onKao (fun k => { k with tag := n })).kaoSend (.imgStart n)

/-- Step 1 of an install: the staged image is sent as image messages, KAO_STAGE shows 3, and the island's status frames report
its progress from here on (R426). -/
def State.startInstall (s : State) : State :=
  let s1 := s.imgBegin
  let s2 := (s1.kaoSend (.imgBlock s.sub.islandStage)).kaoSend (.imgEnd s1.kao.tag)
  (({ s2 with sub := { s2.sub with islandStage := [] } }).setFeN 0xB030 3 0 3).logEvent 0x0060 0 0 0 3

/-! ### Register-driven image transfers (R429) -/

/-- KO_IMG_START: an image transfer begins. -/
def execKoImgStart (c : Core) (s : State) : Host.Outcome State Fault Refusal :=
  if c ≠ .mgmt then .next (s.regFail c .shared 0x30060018 5 true)
  else .next (s.imgBegin.onKao (fun k => { k with imgOpen := true }))

/-- KO_IMG_DATA: the next word of an image block, sent whatever the pin level. -/
def execKoImgData (c : Core) (v : Nat) (s : State) : Host.Outcome State Fault Refusal :=
  if c ≠ .mgmt then .next (s.regFail c .shared 0x30060014 5 true)
  else if s.kao.imgOpen then .next (s.kaoSend (.imgBlock (beBytes 4 v)))
  else .next s

/-- KO_IMG_END: the image transfer ends. -/
def execKoImgEnd (c : Core) (s : State) : Host.Outcome State Fault Refusal :=
  if c ≠ .mgmt then .next (s.regFail c .shared 0x30060018 5 true)
  else if s.kao.imgOpen then .next ((s.kaoSend (.imgEnd s.kao.tag)).onKao (fun k => { k with imgOpen := false }))
  else .next s

end Sys2Proof.Machine
end

