-- ==== Sys2Proof/Machine/Interrupts.lean ====
section
/-!
DEFINITION. The interrupt controllers (chapter 16, R515 to R524) and the owner words' register writes (R31 to R35).
-/
namespace Sys2Proof.Machine
open Sys2Proof

/-- The status registers whose sticky bits assert a level source of a control core (R516). -/
def unitStatRegs (u : UnitId) (src : Nat) : List (Space × Nat) :=
  let r := fun a : Nat => [(Space.unit u, a)]
  if src = 0x10 then r 0x20000004
  else if src = 0x12 then r 0x20020004
  else if src = 0x13 then r 0x20021004
  else if src = 0x14 then r 0x20090008
  else if src = 0x15 then r 0x20060004
  else if src = 0x16 then r 0x20070004
  else if src = 0x17 then r 0x20080004
  else if src = 0x18 then r 0x20040004
  else if 0x20 ≤ src ∧ src < 0x30 then r (0x20030004 + 0x1000 * (src - 0x20))
  else if 0x30 ≤ src ∧ src < 0x40 then r (0x2008010C + 0x20 * (src - 0x30))
  else if src = 0x40 then r 0x200A0000
  else []

/-- The eight ring status registers of a port. -/
def ringStatRegs (p : Nat) : List (Space × Nat) :=
  (List.range 8).map (fun r => (Space.shared, 0x30010000 + 0x1000 * p + 0x120 + 0x40 * r))

/-- The shared status registers of a level source, numbered from a base: rings 0 to 4 and ports 8 to 12 from `ring`, the
blocks from `blk` (R516). -/
def sharedStatRegs (ring blk src : Nat) : List (Space × Nat) :=
  if ring ≤ src ∧ src < ring + 5 then ringStatRegs (src - ring)
  else if ring + 8 ≤ src ∧ src < ring + 13 then [(.shared, 0x30010004 + 0x1000 * (src - ring - 8))]
  else if src = blk then [(.shared, 0x30020004)]
  else if src = blk + 1 then [(.shared, 0x30030004)]
  else if src = blk + 2 then (List.range 8).map (fun t => (Space.shared, 0x30040000 + 0x100 * t))
  else if src = blk + 3 then [(.shared, 0x30000004)]
  else []

/-- The status registers behind a level source of a core. -/
def statRegs (c : Core) (src : Nat) : List (Space × Nat) :=
  match c with
  | .mgmt =>
    if src = 0x10 then [(.shared, 0x30050004)]
    else if src = 0x11 then [(.shared, 0x30060004)]
    else if src = 0x78 then [(.unit .a, 0x20090008)]
    else if src = 0x79 then [(.unit .b, 0x20090008)]
    else sharedStatRegs 0x60 0x70 src
  | .ua => unitStatRegs .a src ++ sharedStatRegs 0x90 0xA0 src
  | .ub => unitStatRegs .b src ++ sharedStatRegs 0x90 0xA0 src

/-- Whether a source is a level source (IC_SRCCFG.LEVEL, R515, R516). -/
def isLevel (c : Core) (src : Nat) : Bool :=
  src == 0x19 || !(statRegs c src).isEmpty || (c != .mgmt && src == 0x11) ||
    (c == .mgmt && 0x74 ≤ src && src ≤ 0x76)

/-- Whether a level source's condition holds. -/
def State.asserted (s : State) (c : Core) (src : Nat) : Bool :=
  if src = 0x19 then decide ((s.ic c).timecmp ≤ s.tb.us)
  else (statRegs c src).any (fun p => s.reg p.1 p.2 &&& stickyMask p.2 != 0)

/-- Whether a source is deliverable (R517). -/
def IntCtl.deliverable (i : IntCtl) (src : Nat) : Bool :=
  let cfg := agetD i.srccfg src 0
  let en := natBit (agetD i.enable (src / 32) 0) (src % 32)
  let held := match i.modGroup src with
    | some g => !(agetD i.groups g {}).released
    | none => false
  decide (src ∈ i.pend) && en && decide (i.threshold < cfg % 16) && !decide (src ∈ i.insvc) && !held

/-- The deliverable source of highest priority of a list, the lowest-numbered of several (R517). -/
def IntCtl.best (i : IntCtl) : List Nat → Nat
  | [] => 0
  | p :: ps =>
    let b := i.best ps
    if i.deliverable p then
      if b = 0 then p
      else
        let pp := agetD i.srccfg p 0 % 16
        let pb := agetD i.srccfg b 0 % 16
        if pb < pp ∨ (pb = pp ∧ p < b) then p else b
    else b

/-- The source that IC_CLAIM would return, 0 for none. -/
def IntCtl.claimed (i : IntCtl) : Nat := i.best i.pend

/-- IC_STAT.REQ: the request line. -/
def IntCtl.req (i : IntCtl) : Bool := i.claimed != 0

/-- A source's moderation group is held again when none of its members is pending (R522). -/
def IntCtl.rehold (i : IntCtl) (src : Nat) : IntCtl :=
  match i.modGroup src with
  | some g => if (i.members g).isEmpty then { i with groups := aputD i.groups g {} {} } else i
  | none => i

/-- The claim: the source's pending bit clears and it enters service; nothing changes for 0 (R517). -/
def IntCtl.claim (i : IntCtl) : IntCtl :=
  let src := i.claimed
  if src = 0 then i
  else { i with pend := setDel i.pend src, insvc := setAdd i.insvc src }.rehold src

/-- The moderation groups after a source has changed its group or its MOD: a group without a pending member is held again, and one
that finds its first pending member so starts its wait (R522). -/
def IntCtl.regroup (i : IntCtl) (us : Nat) : IntCtl :=
  (List.range 16).foldl (fun i g =>
    let mg := agetD i.groups g {}
    let cfg := agetD i.modCfg g 0
    if (i.members g).isEmpty then { i with groups := aputD i.groups g {} {} }
    else if mg.since.isSome then i
    else
      let now := natBits cfg 0 8 == 0 || decide (max 1 (natBits cfg 8 8) ≤ (i.members g).length)
      { i with groups := aput i.groups g { released := now, since := some us, cfg := cfg } }) i

/-- The base of a core's interrupt controller: the management core's lies in its own register space (R524). -/
def icBase (c : Core) : Nat := if c = .mgmt then 0x02000000 else 0x20050000

/-- IC_CLAIM: the read returns and claims the highest deliverable source (R517, R519). -/
def execIcClaim (c : Core) (s : State) : Host.Outcome State Fault Refusal :=
  .next ((s.setIc c (s.ic c).claim).emit (.regValue c (icBase c + 0x444) (s.ic c).claimed))

/-- The register space in which a core's interrupt controller stands: of its unit, or the management subsystem's own. -/
def icSpace (c : Core) : Space :=
  match c.unit with
  | some u => .unit u
  | none => .shared

/-- A write of a core's interrupt controller by another master receives an error response (R518); the management core's stands where
no target decodes for the others (R465). -/
def State.icRefuse (s : State) (by_ c : Core) (o : Nat) : State :=
  s.regFail by_ (icSpace c) (icBase c + o) (if c = .mgmt then 1 else 5) true

/-- IC_COMPLETE: a source's service ends; a level source whose condition still holds becomes pending again (R517, R520).
Only the core that owns the controller may write it (R518). -/
def execIcComplete (by_ c : Core) (src : Nat) (s : State) : Host.Outcome State Fault Refusal :=
  if by_ ≠ c then .next (s.icRefuse by_ c 0x448)
  else
    let i := s.ic c
    let n := src % 256
    if n ∈ i.insvc then
      let s1 := s.setIc c { i with insvc := setDel i.insvc n }
      .next (if isLevel c n ∧ s1.asserted c n then s1.raiseLevel c n else s1)
    else .next (s.setIc c { i with badComplete := true })

/-- Software sources 1 to 15 whose bits of a written word are 1. -/
def softBits (v : Nat) : List Nat := ((List.range 16).drop 1).filter (fun i => natBit v i)

/-- Several edge sources fire. -/
def State.raiseEdges (s : State) (c : Core) : List Nat → State
  | [] => s
  | p :: ps => (s.raiseEdge c p).raiseEdges c ps

/-- IC_PEND_WRITE: a 1 sets a software source pending; every other bit is ignored (R518). -/
def execIcPendWrite (by_ c : Core) (w v : Nat) (s : State) : Host.Outcome State Fault Refusal :=
  if by_ ≠ c then .next (s.icRefuse by_ c (0x400 + 4 * w))
  else if w = 0 then .next (s.raiseEdges c (softBits v)) else .next s

/-- IC_TIMECMP_HI_WRITE: the staged low word and this high half form the compare value, and source 0x019 asserts where
the count has reached it (R504, R524). -/
def execIcTimecmpHiWrite (by_ c : Core) (v : Nat) (s : State) : Host.Outcome State Fault Refusal :=
  if by_ ≠ c then .next (s.icRefuse by_ c 0x4C4)
  else
    let i := s.ic c
    let s1 := s.setIc c { i with timecmp := v % 65536 * 2 ^ 32 + i.timecmpLo }
    .next (if s1.asserted c 0x19 then s1.raiseLevel c 0x19 else s1)

/-- MODERATION_RELEASE: a held group is released MOD_US after its first member became pending, or when MOD_COUNT members
are pending (R522); not due, nothing happens. -/
def execModerationRelease (c : Core) (g : Nat) (s : State) : Host.Outcome State Fault Refusal :=
  let i := s.ic c
  let mg := agetD i.groups g {}
  match mg.since with
  | none => .next s
  | some t =>
    let us := (s.tb.us + 2 ^ 48 - t) % 2 ^ 48
    if natBits mg.cfg 0 8 ≤ us ∨ max 1 (natBits mg.cfg 8 8) ≤ (i.members g).length then
      .next (s.setIc c { i with groups := aput i.groups g { mg with released := true } })
    else .next s

/-- WFI_WAKE: a core asleep in WFI resumes when its request line is high (R523). -/
def execWfiWake (c : Core) (s : State) : Host.Outcome State Fault Refusal :=
  if (s.ic c).req then .next (s.emit (.coreWake c)) else .next s

/-- The control core's CSRs beyond the standard set, and `time`: UNIT, BLKIDX, the last input block whose compute window has opened
(0 before the first, log entry 212), and TB_US (R504). -/
def State.csr (s : State) (u : UnitId) (a : Nat) : Option Nat :=
  match a with
  | 0x7C0 => some u.toNat
  | 0x7C1 => some (s.tb.sidx / 32 + 1 - s.latency)
  | 0xC01 => some s.tb.us
  | _ => none

/-- OWNER_CLAIM: a master writes a CLAIM_ID, with or without RELEASE, to an owner word (R32, R33, R35). -/
def execOwnerClaim (c : Core) (r : Res) (id : Nat) (rel : Bool) (s : State) : Host.Outcome State Fault Refusal :=
  if resValid r then .next (s.ownerWrite c r (id % 256) rel).2 else .next (s.regFail c .shared 0 1 true)

/-- OWNER_RELEASE: a master writes RELEASE to an owner word (R33, R37). -/
def execOwnerRelease (c : Core) (r : Res) (s : State) : Host.Outcome State Fault Refusal :=
  if resValid r then .next (s.ownerWrite c r 0 true).2 else .next (s.regFail c .shared 0 1 true)

end Sys2Proof.Machine
end

