-- ==== Sys2Proof/Machine/Power.lean ====
section
/-!
DEFINITION. Start-up, power states, monitors, watchdogs and the event log (chapter 14, R438 to R457; R531 and R538 to
R542 for the pins and rails).
-/
namespace Sys2Proof.Machine
open Sys2Proof

/-- The POWER_STATE code of a power state (R384, R442). -/
def PowerState.code : PowerState → Nat
  | .idle => 2
  | .ready => 3
  | .render => 4
  | _ => 0

/-- Whether an entry is kept in the configuration store, or in the tag area (R381, R461). -/
def keptKey (tag : Bool) (k : Nat) : Bool :=
  match dictFind (keyIdx k) (keySub k) with
  | some e => e.kept && (e.cls == .user) == tag
  | none => false

/-- The configuration store with the training results, and the tag area, are saved: of each the older copy is written (R381, R434,
R441, R461). -/
def State.saveStore (s : State) : State :=
  { s with sub := { s.sub with
      stores := saveCopy s.sub.stores (s.dict.filter (fun e => keptKey false e.1)) s.sub.trained
      tags := saveCopy s.sub.tags (s.dict.filter (fun e => keptKey true e.1)) [[], []]
      storeDirty := false
      storeIgnored := false
      lastSaveUs := some s.tb.us } }

/-- What outlives power-on reset: the flash, the OTP, the always-on register file, the island, and the queue and
records that are the model's own. -/
def State.cold (s : State) : State :=
  let p := s.sub
  { State.reset with
    pending := s.pending
    out := s.out
    draws := s.draws
    isl := s.isl
    sub := { State.reset.sub with
      storeResetNext := p.storeResetNext, stores := p.stores, tags := p.tags, aonReq := p.aonReq, aonWake := p.aonWake, slotStarts := p.slotStarts, dirs := p.dirs,
      mgmtSlots := p.mgmtSlots, ctrlRegions := p.ctrlRegions, islandStage := p.islandStage,
      otpKeyDigest := p.otpKeyDigest, otpMgmt := p.otpMgmt, otpCtrl := p.otpCtrl,
      logFlash := p.logFlash, logNext := (p.logFlash.getLast?.map (fun r => if r.number = 0xFFFFFFFF then 1 else r.number + 1)).getD 1,
      snapshots := p.snapshots, wakeReason := p.wakeReason } }

/-- The slot that the boot ROM starts with, the slot it loads, and whether one passed R436 (R438). -/
def Subsoil.bootSlot (p : Subsoil) : Nat × Bool :=
  let d := p.dir
  let first := if d.trial ∧ 3 ≤ p.slotStarts.getD d.slot 0 then 1 - d.slot else d.slot
  if p.mgmtOk first then (first, true) else if p.mgmtOk (1 - first) then (1 - first, true) else (first, false)

/-- Recovery mode (R439): only M0 runs, at the stored address with session 1's stored credential, or at 192.168.100.10/24
with 32 zero bytes. -/
def State.enterRecovery (s : State) (pin : Bool) : State :=
  let s1 := { s with sub := { s.sub with recovery := true } }
  if pin then
    (s1.setFeN 0x3000 6 4 0xC0A8640A).setFeN 0x3000 7 4 0xFFFFFF00
  else
    let get := fun (t : State) (i b e : Nat) => t.setFe i b e (baseVal (copyVals s.sub.stores) (dkey i b e))
    (get (get s1 0x3000 6 4) 0x3000 7 4).setFe 0xC100 1 1 (baseVal (copyVals s.sub.stores) (dkey 0xC100 1 1))

/-- Step 3 of R440: a STORE_RESET is carried out, and the store and the tag area are loaded, each from its valid copy of the higher
generation; one of which neither copy is valid is ignored, and that is logged (R381, R434, R461). -/
def State.loadStore (s : State) : State :=
  let p := s.sub
  let stores := if p.storeResetNext then [{}, {}] else p.stores
  let ignored := ignoredCopies stores || ignoredCopies p.tags
  let s1 := { s with
    sub := { p with
      stores := stores, storeIgnored := ignored, storeResetNext := false
      trained := ((newestCopy stores).map (·.trained)).getD [[], []]
      snapshots := if p.storeResetNext then [] else p.snapshots }
    dict := (copyVals p.tags).foldl (fun m e => putVal m e.1 e.2) (copyVals stores) }
  let s2 := if p.storeResetNext then s1.logEvent 0x0051 0 0 0 3 else s1
  if ignored then s2.logEvent 0x0051 0 1 0 2 else s2

/-- A unit that fails at its start or at a load of its image is disabled, and that is logged (R441). -/
def State.unitFails (s : State) (u : UnitId) : State :=
  (s.onUnit u (fun r => { r with hl := { r.hl with loaded := false } })).logEvent 0x0021 0 2 0 (u.toNat + 5 * 256)

/-- Steps 4 to 6 of R440 for one unit: training, SRAM fill and control image; a unit that fails any is disabled (R441). -/
def State.startUnit (s : State) (u : UnitId) (train sram : Bool) : State :=
  let region := match u with
    | .a => s.sub.dir.regionA
    | .b => s.sub.dir.regionB
  let ok := train && sram && s.sub.ctrlOk region
  let had := s.sub.trained.getD u.toNat []
  let s0 := if train then
      let s1 := s.onLp u (fun l => { l.retrained with trained := setAdd had 0 })
      if 0 ∈ had then s1 else s1.keepTraining u
    else s
  if ok then
    let s1 := s0.onUnit u (fun r => { r with hl := { r.hl with loaded := true } })
    let s2 := { s1 with sub := { s1.sub with loadedRegion := lset s1.sub.loadedRegion u.toNat (some region) } }
    s2.identCtrl u (s.sub.ctrlRegions.getD region [])
  else s0.unitFails u

/-- The set point of VDD_CORE is put out as VOUT_COMMAND, in the regulator's output format; its readback follows (R449, R450). -/
def State.putVout (s : State) (mv : Nat) : State :=
  { s with sub := { s.sub with vset := mv, vPend := true, vTries := 0 } }.emit (.voutCommand (Config.voutWord Config.voutMode mv % 65536))

/-- Steps 3 to 7 of R440: the store, VDD_CORE and the other rails, both units, and the ports. -/
def State.bootUnits (s : State) (slot : Nat) (env : BootEnv) : State :=
  let s3 := (s.loadStore.identMgmt slot).putVout 750
  let s4 := { s3 with sub := { s3.sub with penSds := true, penLp := true } }
  (s4.startUnit .a env.trainA env.sramA).startUnit .b env.trainB env.sramB

/-- A port's registers take the values of its dictionary entries, and the port is enabled (R300, R339, R440). -/
def State.startPort (s : State) (p : Nat) : State :=
  let mac := s.feN 0x3000 3 p
  let b := portBase p
  let s1 := (((s.setReg .shared b 0xB).setReg .shared (b + 8) (s.feN 0x3000 4 p)).setReg .shared (b + 0xC) (mac % 2 ^ 32)).setReg
    .shared (b + 0x10) (mac / 2 ^ 32)
  s1.setPort p { s1.port p with anState := if p < 4 then anStart (s.feN 0x3000 1 p) else 0 }

/-- What the management firmware sets up at a start: ports, of which recovery mode runs M0 alone, M0_PHY_RST_N high, and the journal
ring and event queues of the mailbox (R439, R440, R531). -/
def State.startFirmware (s : State) : State :=
  let s1 := (if s.sub.recovery then [4] else [0, 1, 2, 3, 4] : List Nat).foldl State.startPort s
  { s1 with sub := { s1.sub with phyRst := true } }.setReg .shared 0x30050000 3

/-- The level of SFP_TX_DIS_p, high with the module's transmitter off: while POR_N is low, while the core is not up in a start, while
SPEED is 0, and in STANDBY but for P0 with WAKE_EN at 1 (R531). -/
def State.sfpTxDis (s : State) (p : Nat) : Bool :=
  !s.sub.porN || s.feN 0x3000 1 p == 0 ||
    (if s.sub.power = .standby then !(p == 0 && s.feN 0x3000 0xC 0 == 1) else !s.sub.coreUp)

/-- The device reaches READY with at least one unit (R440, R441). -/
def State.reachReady (s : State) : State :=
  if s.ua.hl.loaded || s.ub.hl.loaded then
    { s with sub := { s.sub with power := .ready } }.logEvent 0x0003 0 0 s.tb.sidx 3
  else s

/-- A device start is logged, with the reason of a wake (R456). -/
def State.logStart (s : State) : State :=
  s.logEvent 0x0001 0 0 0 (if s.sub.wakeReason = 0 then 0 else 1 + 256 * s.sub.wakeReason)

/-- A start that falls back from a trial slot is logged as a rollback (R438, R458). -/
def State.logRollback (s : State) (slot : Nat) : State :=
  let d := s.sub.dir
  if d.trial && slot != d.slot then
    s.logEvent 0x0050 0 1 (imgVersion (s.sub.mgmtSlots.getD d.slot [])) (1 + 5 * 256)
  else s

/-- The steps of R440 after VDD_CORE and VDD_MEM are in range, to READY, to POWER_STATE 0 with both units failed, or to
recovery mode. -/
def State.bootOn (s : State) (env : BootEnv) : State :=
  let b := s.sub.bootSlot
  let p := s.sub
  let s1 := { s with sub := { p with
      coreUp := true
      runSlot := b.1
      stores := spoilCopies p.stores 0 env.storeBad
      tags := spoilCopies p.tags 2 env.storeBad
      slotStarts := lset p.slotStarts b.1 (p.slotStarts.getD b.1 0 + 1) } }
  match b.2 with
  | false => (s1.enterRecovery env.recoveryPin).startFirmware.logStart
  | true => ((s1.logRollback b.1).bootUnits b.1 env).startFirmware.logStart.reachReady

/-- From reset: PEN_CORE rises, and the start goes on once the core rails are in range (R540). -/
def State.startUp (s : State) (env : BootEnv) : State :=
  let s0 := { s.cold with sub := { s.cold.sub with
      porN := true, penCore := true, penCoreFails := s.sub.penCoreFails, power := .starting } }
  if env.coreRails then s0.bootOn env else s0

/-- POR_N_RELEASE: the device starts from power-on reset (R440, R540). -/
def execPorNRelease (env : BootEnv) (s : State) : Host.Outcome State Fault Refusal :=
  if s.sub.porN then .next s
  else .next ({ s with sub := { s.sub with penCoreFails := 0, wakeReason := 0 } }.startUp env)

/-- POR_N_ASSERT: the main die is held in reset (R531); the island is not touched (R400). -/
def execPorNAssert (s : State) : Host.Outcome State Fault Refusal := .next s.cold

/-- SUPPLY_LOSS: any state to OFF; only flash and OTP contents outlive it (R442, R443). -/
def execSupplyLoss (s : State) : Host.Outcome State Fault Refusal :=
  .next { s.cold with sub := { s.cold.sub with power := .off, aonReq := 3, aonWake := [], slotStarts := [0, 0], wakeReason := 0 } }

/-- PEN_CORE_TIMEOUT: VDD_CORE or VDD_MEM not in range 8 ms after PEN_CORE rose: the sequencer drops PEN_CORE and tries
again after 100 ms; after the third failure it keeps PEN_CORE low and drives TRIP_N low (R541). -/
def execPenCoreTimeout (env : BootEnv) (s : State) : Host.Outcome State Fault Refusal :=
  if ¬ s.sub.porN ∨ ¬ s.sub.penCore ∨ s.sub.coreUp then .next s
  else
    let n := s.sub.penCoreFails + 1
    if 3 ≤ n then .next { s with sub := { s.sub with penCore := false, penCoreFails := n, tripN := true } }
    else .next ({ s with sub := { s.sub with penCoreFails := n } }.startUp env)

/-- PEN_LP_TIMEOUT: a unit's LP5 rail group not in range in time: the unit is disabled at start (R441, R541). -/
def execPenLpTimeout (u : UnitId) (s : State) : Host.Outcome State Fault Refusal :=
  if ¬ s.sub.penLp ∨ s.sub.power ≠ .ready then .next s
  else
    let s1 := s.unitFails u
    .next (if s1.ua.hl.loaded ∨ s1.ub.hl.loaded then s1 else { s1 with sub := { s1.sub with power := .starting } })

/-- PEN_SDS_TIMEOUT: the SerDes rails not in range in time: P0 to P3 stay down and the event is logged (R541). -/
def execPenSdsTimeout (s : State) : Host.Outcome State Fault Refusal :=
  if ¬ s.sub.penSds then .next s
  else .next ({ s with sub := { s.sub with sdsFailed := true } }.logEvent 0x0012 0 2 0 (2 ^ 31))

/-! ### Power-state transitions (R442 to R444) -/

/-- The bank groups of a unit enter retention (R474). -/
def RUnit.retain (r : RUnit) : RUnit := { r with fab := { r.fab with awakeTo := 0, waking := false } }

/-- Entry into IDLE of one unit: SRAM in retention, LP5 memory in self-refresh at 1,600 MT/s (R443, R474, R493). -/
def State.sleepUnit (s : State) (u : UnitId) : State :=
  (((s.onUnit u RUnit.retain).lpPoint u 1).lpCtrlBit u 1 1).onLp u Lp5.enterSr

/-- Exit from IDLE of one unit: the bank groups wake from group 0 on and LP5 memory leaves self-refresh at 6,400 MT/s
(R443, R474, R493). -/
def State.wakeUnit (s : State) (u : UnitId) : State :=
  let s1 := s.onUnit u (fun r => { r with fab := { r.fab with waking := true, wakeUs := s.tb.us } })
  ((s1.lpCtrlBit u 1 0).onLp u (fun l => { l with selfRefresh := false })).lpPoint u 0

/-- The wake of every bank group ends. -/
def RUnit.awake (r : RUnit) : RUnit := { r with fab := { r.fab with awakeTo := 64, waking := false } }

/-- Entry into STANDBY: kept entries are saved and that is logged, LP5 memory goes to self-refresh, PEN_LP and PEN_CORE fall, and PEN_SDS
unless P0 has WAKE_EN at 1 (R442, R443, R542). -/
def State.standbyEntry (s : State) : State :=
  let s1 := ((s.saveStore.logEvent 0x0051 0 0 0 1).sleepUnit .a).sleepUnit .b
  { s1 with sub := { s1.sub with
      aonReq := 1
      aonWake := s.dict.filter (fun e => keyIdx e.1 = 0x3000 ∧ (keySub e.1 = 0xC ∨ keySub e.1 = 0xD))
      penLp := false, penCore := false, penSds := s.feN 0x3000 0xC 0 == 1
      phyRst := s.feN 0x3000 0xC 4 == 1 } }

/-- A transition towards a state begins, with the work of its entry or exit (R443). -/
def State.beginTransition (s : State) (t : PowerState) : State :=
  let s1 := { s with sub := { s.sub with transition := some t } }
  match t with
  | .idle => (s1.sleepUnit .a).sleepUnit .b
  | .ready => (s1.wakeUnit .a).wakeUnit .b
  | .standby => s1.standbyEntry
  | _ => s1

/-- A POWER_REQ is acted on where no transition runs (R443, R444, R452). -/
def State.actReq (s : State) (v : Nat) : State :=
  if v = 3 then
    let s1 := { s with sub := { s.sub with tripLatched := false, tripN := false } }
    let s2 := if s.sub.tripLatched then s1.logEvent 0x0011 0 0 s.tb.sidx 0 else s1
    if s.sub.power = .idle then s2.beginTransition .ready else s2
  else if v = 2 then (if s.sub.power = .ready then s.beginTransition .idle else s)
  else if v = 1 then (if s.sub.power = .ready ∨ s.sub.power = .idle then s.beginTransition .standby else s)
  else s

/-- A POWER_REQ: at once, or kept until the transition in progress ends (R444). -/
def State.powerReq (s : State) (v : Nat) : State :=
  if s.sub.transition.isSome then { s with sub := { s.sub with queuedReq := some v } } else s.actReq v

/-- A unit is loaded with a control image outside RENDER and starts again in step; an image that fails the check of every load
disables it (R436, R441, R459). -/
def State.installUnit (s : State) (g : Nat) (u : UnitId) : State :=
  if s.sub.ctrlOk g then
    let s1 := s.onUnit u (fun r => { r with hl := { r.hl with
      loaded := true, loading := false, need := false, returning := false, resync := {}, update := 0 } })
    let s2 := s1.identCtrl u (s.sub.ctrlRegions.getD g [])
    { s2 with sub := { s2.sub with loadedRegion := lset s2.sub.loadedRegion u.toNat (some g) } }
  else s.unitFails u

/-- The staged image is loaded into both units at once, which start again in step with the device in READY; while a trip is latched
the device stays in IDLE (R437, R452, R459). -/
def State.installNow (s : State) : State :=
  match s.sub.stagedRegion with
  | none => s
  | some g =>
    let s1 := (s.installUnit g .a).installUnit g .b
    let p := if s.sub.ctrlOk g then s1.sub.writeDir { s1.sub.dir with regionA := g, regionB := g } else s1.sub
    let s2 := { s1 with sub := { p with installDue := false } }.raiseCtrl
    let s3 := s2.logEvent 0x0050 0 0 (imgVersion (s.sub.ctrlRegions.getD g [])) (2 + 3 * 256)
    if s.sub.tripLatched then s3
    else if s3.ua.hl.loaded || s3.ub.hl.loaded then
      let s4 := (({ s3 with sub := { s3.sub with power := .ready } }.wakeUnit .a).wakeUnit .b).onUnits RUnit.awake
      if s.sub.power = .ready then s4 else s4.logEvent 0x0003 0 0 s.tb.sidx 3
    else { s3 with sub := { s3.sub with power := .starting } }.logEvent 0x0003 0 0 s.tb.sidx 0

/-- CTRL_INSTALL: at once, or when the transition in progress has completed (R444, R459). -/
def State.installBoth (s : State) : State :=
  if s.sub.transition.isSome then { s with sub := { s.sub with installDue := true } } else s.installNow

/-- POWER_TRANSITION_END: the transition completes, and a CTRL_INSTALL and the last POWER_REQ written meanwhile are acted on
(R444, R459). -/
def execPowerTransitionEnd (s : State) : Host.Outcome State Fault Refusal :=
  match s.sub.transition with
  | none => .next s
  | some t =>
    let s1 := { s with sub := { s.sub with power := t, transition := none, queuedReq := none } }
    let s2 := if t = .ready then s1.onUnits RUnit.awake else if t = .standby then s1.ppsLow else s1
    let s3 := s2.logEvent 0x0003 0 0 s.tb.sidx t.code
    let s4 := if s.sub.installDue ∧ t ≠ .standby then s3.installNow else s3
    .next (match s.sub.queuedReq with
      | some v => s4.actReq v
      | none => s4)

/-- A pending RENDER write of 1 is cancelled, and the cancellation is logged (R444). -/
def State.cancelRender (s : State) : State :=
  let isIt := fun r : JRec => r.key == dkey 0x1100 3 0 && r.val == .num 1 && decide (s.tb.sidx < r.apply)
  match s.fePend.find? isIt with
  | some r => { s with fePend := s.fePend.filter (fun q => !isIt q) }.logEvent 0x0004 0 1 (r.apply / 32) 2
  | none => s

/-- THERMAL_TRIP: a comparator at TJ_TRIP puts both units into retention and the LP5 memory into self-refresh, so that the
device is in IDLE, outside RENDER, where the media clock is hard-aligned; the trip is latched, shown and logged, and a pending RENDER
of 1 is cancelled (R50, R444, R452). -/
def execThermalTrip (sensor : Nat) (s : State) : Host.Outcome State Fault Refusal :=
  if s.sub.power = .off ∨ s.sub.power = .standby ∨ ¬ s.sub.porN then .next s
  else
    let s1 := ((s.cancelRender.sleepUnit .a).sleepUnit .b).onUnits (fun r =>
        { r with rd := { r.rd with endBlk := none, beginBlk := none } })
    let s2 := { s1 with sub := { s1.sub with
        power := .idle, transition := none, queuedReq := none, installDue := false, tripLatched := true, tripN := true } }
    let s3 := (s2.setStat .shared mbStat 0x40).logEvent 0x0011 0 2 s.tb.sidx (sensor % 256 + 256)
    .next (if s.sub.power = .idle then s3 else (s3.logEvent 0x0003 0 0 s.tb.sidx 2).realign)

/-! ### Wake from STANDBY (R318) -/

/-- A wake pattern for a MAC address stands somewhere in bytes: six bytes of 0xFF and 16 copies of the address. -/
def hasPattern (pat : List Byte) : List Byte → Bool
  | [] => pat.isEmpty
  | a :: l => (a :: l).take pat.length == pat || hasPattern pat l

/-- The WAKE_REASON that a frame on P0 or M0 gives, 0 for none (R318). -/
def State.wakeMatch (s : State) (p : Nat) (f : List Byte) : Nat :=
  let token := baseVal s.sub.aonWake (dkey 0x3000 0xD p) |>.toBytes
  let pat := List.replicate 6 (0xFF : Byte) ++ (List.replicate 16 (beBytes 6 (s.feN 0x3000 3 p))).flatten
  let m := if p = 4 then 1 else 0
  let tok := match udpOf f with
    | some d => (d.dst == s.feN 0x3000 6 p || d.dst == 2 ^ 32 - 1) && d.dport == s.feN 0xC000 1 0 &&
        d.data == [0x44, 0x57, 0x4B, 0x31] ++ token && token.any (· ≠ 0)
    | none => false
  if hasPattern pat (f.drop (etherOff f + 2)) then 1 + m else if tok then 3 + m else 0

/-- WAKE: in STANDBY a frame on P0 or M0 that passes the first three tests of R301 and matches a wake pattern or the token
starts the device (R318, R443). -/
def execWakeEvent (p : Nat) (f : List Byte) (bad : Bool) (env : BootEnv) (s : State) : Host.Outcome State Fault Refusal :=
  let drop := match s.lineDrop p f bad with
    | some i => decide (i < 3)
    | none => false
  let k := s.wakeMatch p f
  if s.sub.power ≠ .standby ∨ (p ≠ 0 ∧ p ≠ 4) ∨ baseVal s.sub.aonWake (dkey 0x3000 0xC p) ≠ .num 1 ∨ drop = true ∨ k = 0 then .next s
  else .next ({ s with sub := { s.sub with wakeReason := k, penCoreFails := 0 } }.startUp env)

/-! ### Monitors (R447 to R451) -/

/-- The greatest of a list, with its position. -/
def maxAt : List Int → Nat → Option (Int × Nat)
  | [], _ => none
  | t :: l, i =>
    match maxAt l (i + 1) with
    | some (m, j) => if m ≤ t then some (t, i) else some (m, j)
    | none => some (t, i)

/-- The junction temperature: the highest of the sensors (R447), the lowest value before the first sample. -/
def Subsoil.junction (p : Subsoil) : Int := ((maxAt p.temps 0).map (·.1)).getD (-32768)

/-- Element-wise greatest of two lists. -/
def maxList : List Int → List Int → List Int
  | [], m => m
  | t, [] => t
  | t :: ts, m :: ms => max t m :: maxList ts ms

/-- TEMPERATURE_SAMPLE: the twelve sensors are read; a crossing of TJ_WARN or TJ_CRIT upwards, and the fall 2 degrees
below it, are logged (R447, R451). -/
def execTemperatureSample (temps : List Int) (s : State) : Host.Outcome State Fault Refusal :=
  if s.dieUp = false then .next s else
  let ts := (temps.take 12).map (satS 16)
  let p := { s.sub with temps := ts, tempMax := maxList ts s.sub.tempMax }
  match maxAt ts 0 with
  | none => .next s
  | some (j, sensor) =>
    let warn := if 0x6400 ≤ j then true else if j ≤ 0x6200 then false else p.warnOn
    let crit := if 0x6E00 ≤ j then true else if j ≤ 0x6C00 then false else p.critOn
    let s1 := { s with sub := { p with warnOn := warn, critOn := crit } }
    let s2 := if warn = p.warnOn then s1 else s1.logEvent 0x0010 0 1 sensor (if warn then 1 else 0)
    .next (if crit = p.critOn then s2 else s2.logEvent 0x0010 0 1 sensor (if crit then 2 else 0))

/-- PMB_ALERT: Subsoil reads STATUS_WORD and logs it (R538). -/
def execPmbAlert (statusWord : Nat) (s : State) : Host.Outcome State Fault Refusal :=
  .next (if s.frontRuns then s.logEvent 0x0012 0 2 (statusWord % 65536) (2 ^ 31) else s)

/-- PMBUS_READBACK: the regulator's output within 2 ms of a write; a difference above 10 mV repeats the write, and the
third failure stops voltage control (R450). -/
def execPmbusReadback (mv : Nat) (s : State) : Host.Outcome State Fault Refusal :=
  let p := s.sub
  if ¬ p.vPend ∨ s.frontRuns = false then .next s
  else if ((mv : Int) - p.vset).natAbs ≤ 10 then .next { s with sub := { p with vPend := false, vTries := 0 } }
  else if p.vTries + 1 < 3 then
    let s1 := s.putVout p.vset
    .next { s1 with sub := { s1.sub with vTries := p.vTries + 1 } }
  else
    let s1 := { s with sub := { p with vPend := false, vTries := 0, vStopped := true } }
    .next ((s1.setStat .shared mbStat 0x80).logEvent 0x0012 0 2 0 (2 ^ 31 + p.vset))

/-- The set point moves to a value: VOUT_COMMAND is written and the step is logged (R449). -/
def State.setVcore (s : State) (mv : Nat) : State :=
  (s.putVout mv).logEvent 0x0012 0 0 0 mv

/-- A critical block: the set point rises by 10 mV, at most once per 100 ms and up to 850 mV (R449). -/
def State.vcoreRaise (s : State) : State :=
  let p := s.sub
  let due := match p.lastRaiseUs with
    | none => true
    | some t => decide (100000 ≤ (s.tb.us + 2 ^ 48 - t) % 2 ^ 48)
  if p.vStopped ∨ due = false then s
  else if p.vset < 850 then
    { s with sub := { p with lastRaiseUs := some s.tb.us } }.setVcore (p.vset + 10)
  else if p.ceilingLogged then s
  else { s with sub := { p with ceilingLogged := true } }.logEvent 0x0012 0 1 0 p.vset

/-- A margin entry of 0x1300 as measured: shown from the next scan on (R385). -/
def State.setMon (s : State) (sub i : Nat) (v : Int) : State :=
  { s with sub := { s.sub with mon := aput s.sub.mon (dkey 0x1300 sub i) (.num v) } }

/-- A margin entry of 0x1300 as measured last. -/
def State.monVal (s : State) (sub i : Nat) : Int := ((aget? s.sub.mon (dkey 0x1300 sub i)).getD (s.fe (dkey 0x1300 sub i))).toInt

/-- The class of a margin in ns at a rate: 0, 1 warning, 2 critical, 3 overrun (R448). -/
def marginClass (rate : Nat) (m : Int) : Nat :=
  if m < 0 then 3
  else if m * rate * 100 < 5 * 32000000000 then 2
  else if m * rate * 100 < 15 * 32000000000 then 1
  else 0

/-- A margin of unit `i` enters a window (R448). -/
def Window.add (w : Window) (rate i : Nat) (margin : Int) : Window :=
  let cls := marginClass rate margin
  { count := lset w.count i (w.count.getD i 0 + 1)
    sum := lset w.sum i (w.sum.getD i 0 + margin)
    least := lset w.least i (if w.count.getD i 0 = 0 then margin else min (w.least.getD i 0) margin)
    worst := lset w.worst i (max (w.worst.getD i 0) cls)
    slow := if 2 ≤ cls then lset w.slow i true else w.slow
    good := w.good && decide (30 * 32000000000 ≤ margin * rate * 100) }

/-- MONITOR_BLOCK_MARGIN: the oldest block that a unit has closed in RENDER and the monitor has not counted enters the window of its
deadline; a critical block or an overrun is logged and may raise the set point. A margin other than that block's is not an event of
the unit (R448, R449, R242; log entry 204). -/
def execMonitorBlockMargin (u : UnitId) (margin : Int) (s : State) : Host.Outcome State Fault Refusal :=
  match (s.unit u).hl.margins with
  | [] => .next s
  | (blk, m, sec) :: rest =>
    if ¬ s.rendering ∨ m ≠ margin then .next s
    else
      let i := u.toNat
      let cls := marginClass s.rate m
      let p := s.sub
      let p1 := if sec = p.winSec then { p with win := p.win.add s.rate i m } else { p with winNext := p.winNext.add s.rate i m }
      let s1 := { s with sub := p1 }.onUnit u (fun r => { r with hl := { r.hl with margins := rest } })
      let s2 := if cls = 3 then s1.setMon 4 i (min 0xFFFFFFFF (s1.monVal 4 i + 1)) else s1
      if 2 ≤ cls then
        let s3 := (s2.setStat (.unit u) 0x20090008 0x200).logEvent 0x0013 0 1 blk (i + if cls = 3 then 256 else 0)
        .next s3.vcoreRaise
      else .next s2

/-- The margins of one unit's completed window are reported (R448). -/
def State.reportWindow (s : State) (i : Nat) : State :=
  let w := s.sub.win
  let n := w.count.getD i 0
  if n = 0 then s
  else
    ((s.setMon 1 i (satS 32 (w.least.getD i 0))).setMon 2 i
      (satS 32 ((w.sum.getD i 0).tdiv n))).setMon 3 i (w.worst.getD i 0)

/-- MONITOR_WINDOW_END: once the PTP second of the window has passed, its margins are reported and the window of the present second
begins; after 60 consecutive good windows with a cool junction the set point falls by 10 mV (R448, R449; the 1 s windows of
R210). -/
def execMonitorWindowEnd (s : State) : Host.Outcome State Fault Refusal :=
  if ¬ s.rendering ∨ s.sub.winSec = s.tb.sec then .next s
  else
    let s1 := (s.reportWindow 0).reportWindow 1
    let good := s.sub.win.good && decide (s.sub.junction < 0x6400)
    let n := if good then s.sub.goodWindows + 1 else 0
    let lower := 60 ≤ n ∧ 650 < s.sub.vset ∧ ¬ s.sub.vStopped
    let s2 := { s1 with sub := { s1.sub with
        win := s.sub.winNext, winNext := {}, winSec := s.tb.sec, slowLast := s.sub.win.slow, ceilingLogged := false
        goodWindows := if 60 ≤ n then 0 else n } }
    let s3 := s2.onUnits (fun r => { r with hl := { r.hl with ceLast := r.hl.ceNow, ceNow := 0 } })
    .next (if lower then s3.setVcore (s.sub.vset - 10) else s3)

/-! ### Watchdogs and restarts (R453, R454) -/

/-- The level sources of the management core whose condition holds (R463, R515, R516). -/
def State.levelsHeld (s : State) : List Nat := (List.range 128).filter (fun n => isLevel .mgmt n && s.asserted .mgmt n)

/-- A management restart begins (R454): the management core with its reservations, its interrupt controller, its serial masters and
the front end's message in progress are reset; everything else goes on, so that a source whose level still holds becomes pending
anew (R463, R469). Causes as in code 0x0002. -/
def State.mgmtRestart (s : State) (cause : Nat) : State :=
  let s1 := { s with
    icM := {}
    dam := { s.dam with cur := none }
    sub := { s.sub with
      restarting := true, restarts := min 255 (s.sub.restarts + 1), restartCause := cause,
      kickUs := s.tb.us, vPend := false, vTries := 0 } }.onUnits (fun r => { r with fab := { r.fab with resv := adel r.fab.resv 11 } })
  { s1 with icM := { pend := s1.levelsHeld } }

/-- MWDT_EXPIRY: the management watchdog expires MWDT_TIMEOUT after it was last restarted (R453). -/
def execMwdtExpiry (s : State) : Host.Outcome State Fault Refusal :=
  if s.frontRuns = false ∨ (s.tb.us + 2 ^ 48 - s.sub.kickUs) % 2 ^ 48 < s.reg .shared 0x30050024 * 1000
  then .next s else .next (s.mgmtRestart 0)

/-- MWDT_KICK: 0x00004B49 restarts the management watchdog, other values are ignored (R462). -/
def execMwdtKick (c : Core) (v : Nat) (s : State) : Host.Outcome State Fault Refusal :=
  if c ≠ .mgmt then .next (s.regFail c .shared 0x30050020 5 true)
  else if v = 0x4B49 then .next { s with sub := { s.sub with kickUs := s.tb.us } }
  else .next s

/-- CONTROL_WATCHDOG_EXPIRY: the unit is disabled and its control image is loaded again from its region (R453). -/
def execControlWatchdogExpiry (u : UnitId) (s : State) : Host.Outcome State Fault Refusal :=
  let h := (s.unit u).hl
  if ¬ h.loaded then .next s
  else
    let s1 := s.onUnit u (fun r => { r with
      fab := { r.fab with resv := adel r.fab.resv 0 }
      hl := { r.hl with loaded := false, loading := true, returning := false, resync := {}, need := false } })
    .next (s1.logEvent 0x0021 0 2 (h.blk - 1) (u.toNat + 4 * 256))

/-- CONTROL_IMAGE_LOADED: the load of a control image ends. An image that passes R436 runs, and in RENDER a
resynchronisation is called for; for an UPDATE its region is recorded in the boot directory. Otherwise the unit stays
disabled and an UPDATE has failed (R234, R453, R459). -/
def execControlImageLoaded (u : UnitId) (s : State) : Host.Outcome State Fault Refusal :=
  let h := (s.unit u).hl
  if ¬ h.loading then .next s
  else
    let d := s.sub.dir
    let old := match u with
      | .a => d.regionA
      | .b => d.regionB
    let region := if h.update = 1 then s.sub.stagedRegion.getD old else old
    if s.sub.ctrlOk region then
      let s1 := s.identCtrl u (s.sub.ctrlRegions.getD region [])
      let s2 := s1.onUnit u (fun r => { r with hl := { r.hl with
          loaded := true, loading := false,
          need := s.rendering, update := if r.hl.update = 1 then 2 else r.hl.update } })
      let d1 := match u with
        | .a => { d with regionA := region }
        | .b => { d with regionB := region }
      let p := if h.update = 1 then s2.sub.writeDir d1 else s2.sub
      let s3 := { s2 with sub := { p with loadedRegion := lset p.loadedRegion u.toNat (some region) } }
      .next (if h.update = 1 then s3.logEvent 0x0050 0 0 (imgVersion (s.sub.ctrlRegions.getD region [])) (2 + 3 * 256) else s3)
    else
      let s1 := s.onUnit u (fun r => { r with hl := { r.hl with
          loading := false,
          update := if r.hl.update = 1 then 4 else r.hl.update } })
      .next (s1.logEvent 0x0021 0 2 0 (u.toNat + 5 * 256))

/-! ### Event log and store (R381, R456 to R458) -/

/-- A record of an event queue is logged, with the time that it carries (R455, R457). -/
def State.logWords (s : State) (w : List Nat) : State :=
  let g := fun i => w.getD i 0
  s.logAt (g 1 * 2 ^ 16 + g 2 / 2 ^ 16) (g 2 % 2 ^ 16 * 2 ^ 16 + g 3 / 2 ^ 16) (g 3 % 2 ^ 16) (g 4 / 2 ^ 24) (g 4 / 2 ^ 16 % 2 ^ 8)
    (g 4 % 2 ^ 16 * 2 ^ 48 + g 5 * 2 ^ 16 + g 6 / 2 ^ 16) (g 6 % 2 ^ 16 * 2 ^ 16 + g 7 / 2 ^ 16)

/-- The records of one event queue are logged; a gap marker becomes a 0x00FF record with DATA1 0 (R457). -/
def State.drainEvq (s : State) : List (FItem (List Nat)) → State
  | [] => s
  | .item w _ :: l => (s.logWords w).drainEvq l
  | .gap n :: l => (s.logEvent 0x00FF 0 1 n 0).drainEvq l

/-- EVENT_LOG_FLUSH: the event queues are emptied into the log, and buffered records are written to flash, which keeps the
newest 65,536 (R398, R456, R457). -/
def execEventLogFlush (s : State) : Host.Outcome State Fault Refusal :=
  if s.frontRuns = false then .next s
  else
    let s1 := s.sub.evq.foldl (fun t f => t.drainEvq f.items) s
    let all := s1.sub.logFlash ++ s1.sub.logBuf
    .next ({ s1 with sub := { s1.sub with
      evq := s1.sub.evq.map Fifo.flush
      logFlash := all.drop (all.length - 65536)
      logBuf := [] } }.bumpKeys (s1.sub.logBuf.map (fun (r : LogRec) => dkey 0xD000 3 (r.number % 65536))))

/-- The 0x00FF records of the codes whose records were suppressed. -/
def State.logLost (s : State) : Assoc Nat → State
  | [] => s
  | (code, n) :: l => (s.logEvent 0x00FF 0 1 n code).logLost l

/-- EVENT_RATE_SECOND: at the end of a second the suppressed records of each code are recorded and the limits start anew
(R457). -/
def execEventRateSecond (s : State) : Host.Outcome State Fault Refusal :=
  .next (if s.dieUp then { s with sub := { s.sub with logRate := [], logSuppressed := [] } }.logLost s.sub.logSuppressed else s)

/-- EVQ_PUSH: eight writes form one record of event queue 0 (unit A), 1 (unit B) or 2 (arbiter), a FIFO of 64 stages with
its watermark at 48 (R457, R462, R463, R477). -/
def execEvqPush (q : Nat) (w : Nat) (s : State) : Host.Outcome State Fault Refusal :=
  if 3 ≤ q ∨ ¬ natBit (s.reg .shared 0x30050000) 1 then .next s
  else
    let part := s.sub.evqPart.getD q [] ++ [w % 2 ^ 32]
    if part.length < 8 then .next { s with sub := { s.sub with evqPart := lset s.sub.evqPart q part } }
    else .next ({ s with sub := { s.sub with evqPart := lset s.sub.evqPart q [] } }.evqPut q part)

/-- MGMT_CONFIRM: a trial image that has served Dameel for 30 s clears TRIAL and raises the anti-rollback counter
(R437, R438, R458). -/
def execMgmtConfirm (s : State) : Host.Outcome State Fault Refusal :=
  let d := s.sub.dir
  let served := (s.tb.us + 2 ^ 48 - s.sub.serveUs) % 2 ^ 48
  if ¬ d.trial ∨ s.frontRuns = false ∨ s.sub.recovery ∨ s.sub.runSlot ≠ d.slot ∨ served < 30000000 then .next s
  else
    let p := s.sub.writeDir { d with trial := false }
    let img := s.sub.mgmtSlots.getD d.slot []
    .next ({ s with sub := { p with otpMgmt := max p.otpMgmt (min 63 (imgSec img)), slotStarts := [0, 0] } }.logEvent
      0x0050 0 0 (imgVersion img) (1 + 4 * 256))

/-- CONFIG_STORE_SAVE: the kept entries are saved 1 s after the last write to one, and no more often than every 10 s
(R381). -/
def execConfigStoreSave (s : State) : Host.Outcome State Fault Refusal :=
  let old := (s.tb.us + 2 ^ 48 - s.sub.keptWriteUs) % 2 ^ 48
  let gap := match s.sub.lastSaveUs with
    | some t => (s.tb.us + 2 ^ 48 - t) % 2 ^ 48
    | none => 10000000
  if ¬ s.sub.storeDirty ∨ old < 1000000 ∨ gap < 10000000 ∨ s.frontRuns = false then .next s
  else .next (s.saveStore.logEvent 0x0051 0 0 0 1)

end Sys2Proof.Machine
end

