-- ==== Sys2Proof/Machine/RenderCtl.lean ====
section
/-!
DEFINITION. Pending writes as they take effect (R63, R65), the start and end of RENDER (R58, R445, R446, R551), a change of
the system rate (R59, R552), and the switches of correction slots (R193 to R197).
-/
namespace Sys2Proof.Machine
open Sys2Proof

/-! ### Writes that take effect (R63, R65) -/

/-- Keys whose writes take effect by a command of their own: RENDER, TDM_EN, SURV_GO, CS_COMMIT, NV_GRAPH_COMMIT and the
layout table. -/
def ownStep (k : Nat) : Bool :=
  let i := keyIdx k
  let b := keySub k
  isLayoutKey k || (i == 0x1100 && b == 3) || (i == 0x3710 && b == 1) || (i == 0xA020 && b == 4) ||
    (i == 0x6200 && b == 2) || (i == 0x8010 && b == 2)

/-- Keys whose due writes call a unit's own commands: PROMOTE and UPDATE. -/
def unitStep (k : Nat) : Bool := (keyIdx k == 0x9000 && keySub k == 5) || (keyIdx k == 0x9030 && keySub k == 2)

/-- The sample up to which a key's writes are folded into the values in force: the ingress map and the egress map are still
read for earlier blocks and output indices, and the silence groups for the input block whose states are put out (R60, R162, R326,
R329). -/
def State.horizon (s : State) (k : Nat) : Nat :=
  let x := s.tb.sidx
  match dictFind (keyIdx k) (keySub k) with
  | some e =>
    match e.tbl with
    | .ingress => 32 * (x / 32 + 1 - s.latency)
    | .egress => x - 2048
    | _ => if keyIdx k = 0x6620 then 32 * (x / 32 - (s.latency + 2)) else x
  | none => x

/-- The key that holds the length of a route's or a filter's change (R170, R197); none for other entries. -/
def lenKey? (k : Nat) : Option Nat :=
  let e := keyElem k
  if k = dkey 0x4000 3 e then some (dkey 0x4000 0x36 e)
  else if k = dkey 0x6000 4 e then some (dkey 0x6000 5 e)
  else if k = dkey 0x6000 6 e then some (dkey 0x6000 9 e)
  else if k = dkey 0x8410 1 e then some (dkey 0x8410 3 e)
  else if k = dkey 0x3500 1 e then some (dkey 0x3500 3 e)
  else none

/-- The value of a front-end number at a sample, by its key. -/
def State.atKey (s : State) (k x : Nat) : Nat := (valueAt s.dict s.fePend k x).toNat

/-- The accepted commit of a slot that waits: its apply index. -/
def State.commitAt (s : State) (k : Nat) : Option Nat :=
  (s.fePend.find? (fun j => j.key == dkey 0x6200 2 k && j.wins)).map (·.apply)

/-- The image that a slot holds at an apply index, as the front end counts it (R193). -/
def State.slotImage (s : State) (k a : Nat) : List Byte :=
  let now := (agetD s.dam.cs k {}).image
  match s.commitAt k, s.dam.csStage with
  | some c, some (q, img) => if c ≤ a ∧ q = k then img else now
  | _, _ => now

/-- The cost of changing a feed to the filter of a slot at an index (R199). -/
def State.filterCost (s : State) (f slot a : Nat) : Nat :=
  changeCost (if slot = 255 then 1 else (setTaps (s.slotImage slot a) f).length)

/-- The change that a route's or a filter's value makes at an index, where it makes one (R170, R173, R197). -/
def State.changeOf (s : State) (k a : Nat) : Option Fade :=
  match lenKey? k with
  | none => none
  | some l =>
    let old := s.atKey k (a - 1)
    let new := s.atKey k a
    let filt := decide (k = dkey 0x6000 6 (keyElem k))
    if old ≠ new ∨ (filt ∧ new ≠ 255 ∧ s.commitAt new = some a) then
      some ⟨k, a, s.atKey l a, old, if filt then s.filterCost (keyElem k) new a else 1⟩
    else none

/-- A change may still run at sample `x` of the RENDER in progress (R551). -/
def State.fadeRuns (s : State) (f : Fade) : Bool :=
  s.rendering && decide (32 * s.feN 0x1100 4 0 < f.start) && decide (s.tb.sidx < f.start + max 32 f.len)

/-- The DOMAIN entries whose due writes are folded count the changes of their values (R362). -/
def State.foldVersions (s : State) (due : JRec → Bool) : State :=
  let l := s.fePend.filter (fun j => due j && j.wins && j.key == dkey 0x5100 5 (keyElem j.key))
  (l.map (·.key)).eraseDups.foldl (fun (t : State) k =>
    (List.range (valChanges (baseVal s.dict k) (byApply (l.filter (fun j => j.key == k))))).foldl (fun (t : State) _ => t.bumpKey k) t) s

/-- The front end's due writes are folded into the values in force, in order of apply index. -/
def State.foldFe (s : State) : State :=
  let x := s.tb.sidx
  let due := fun (j : JRec) => decide (j.apply ≤ s.horizon j.key) && !ownStep j.key
  let begun := s.fePend.filterMap (fun j => if due j && j.wins then s.changeOf j.key j.apply else none)
  let armed := s.fePend.filterMap (fun j => if due j && j.wins && j.key == dkey 0xA200 1 (keyElem j.key) && j.val == .num 1 &&
    s.atKey j.key (j.apply - 1) == 0 then some (keyElem j.key) else none)
  let s1 := s.foldVersions due
  { s1 with
    surv := { s.surv with lsFirst := s.surv.lsFirst.filter (fun e => !armed.contains e.1) }
    dam := { s1.dam with fades := (s.dam.fades ++ begun).filter s.fadeRuns }
    dict := s.fePend.foldl (fun m j =>
      if due j && j.wins then putVal m j.key (valueAt s.dict s.fePend j.key (min x (s.horizon j.key))) else m) s.dict
    fePend := s.fePend.filter (fun j => !due j) }

/-- A committed HOLD_LIMIT reaches the arbiter for output block a/32 + L (R528). -/
def State.commitHold (s : State) : State :=
  match s.fePend.find? (fun j => j.key == dkey 0x9010 2 0 && j.wins && decide (j.apply ≤ s.tb.sidx)) with
  | none => s
  | some j =>
    let n := j.apply / 32 + s.latency
    s.onArb (fun a => if a.run then { a with holdCommit := some (j.val.toNat, n) } else { a with holdLimit := j.val.toNat })

/-- ENABLE and RESYNC in force change a unit at a block boundary (R214, R225, R227). -/
def HealthSt.settle (h : HealthSt) (en : Bool) (changed resyncNow rendering : Bool) : HealthSt :=
  let h1 := if changed ∧ en ≠ h.enabled then
      { h with enabled := en, need := en && rendering, resync := {}, returning := false }
    else h
  if resyncNow ∧ h1.enabled ∧ rendering then { h1 with need := true } else h1

/-- A unit's due writes are folded into its settings: up to the block it closes next where it renders, up to the present sample
where it does not; a RESYNC that passes outside RENDER waits for the first rendered block (R63, R65). -/
def State.foldUnit (s : State) (u : UnitId) : State :=
  let r := (s.unit u).rd
  let runs := s.unitRuns u
  let x := if runs then 32 * (s.unit u).hl.blk else s.tb.sidx
  let held := fun (k : Nat) => unitStep k || (k == dkey 0x9000 6 u.toNat && !s.rendering)
  let due := r.pend.filter (fun j => j.setsValue && !held j.key && j.wins && decide (j.apply ≤ x))
  let hit := fun (k : Nat) => due.any (fun j => j.key == k)
  let s1 := s.onRd u (fun r => { r with
    cfg := due.foldl (fun m j => putVal m j.key (valueAt r.cfg r.pend j.key x)) r.cfg
    pend := r.pend.filter (fun j => !(j.setsValue && !held j.key && decide (j.apply ≤ x))) })
  let s1 := if runs then s1 else s1.onRd u (fun r => r.takeKfs (x / 32))
  let en : Bool := ((s1.unit u).rd.n 0x9000 7 u.toNat x) == 1
  let s2 := s1.onUnit u (fun q =>
    { q with hl := q.hl.settle en (hit (dkey 0x9000 7 u.toNat)) (hit (dkey 0x9000 6 u.toNat)) s.rendering })
  applyClears u due s2

/-- A survey step is missed: its result states become 3 and SURV_MISSED counts (R65, R290). -/
def State.survMiss (s : State) (pos : Nat) : State :=
  ((List.range 4).foldl (fun (t : State) c => t.setFeN 0xA100 1 (4 * pos + c) 3) s).countFe 0xA020 5 0 1

/-- The steps that a test picks run no more and are missed. -/
def State.missRuns (s : State) (out : SurvRun → Bool) : State :=
  (s.surv.runs.filter out).foldl (fun (t : State) q => t.survMiss q.pos)
    { s with surv := { s.surv with runs := s.surv.runs.filter (fun q => !out q) } }

/-- Steps journaled outside RENDER whose emission index passes there are missed (R65, R290). -/
def State.passSurvey (s : State) (x : Nat) : State := s.missRuns (fun q => q.outside && decide (q.at_ < x))

/-- WRITE_APPLY: pending writes whose apply index is reached take effect, in the front end and in both units (R63, R65). -/
def execWriteApply (s : State) : Host.Outcome State Fault Refusal :=
  let s1 := ((s.noteForms.commitHold.settleStreams.foldFe).foldUnit .a).foldUnit .b
  .next (if s.rendering then s1 else s1.passSurvey s.tb.sidx)

/-! ### The start and end of RENDER (R445, R446) -/

/-- The record of a list with the lowest apply index, the earliest of several. -/
def firstDue : List JRec → Option JRec
  | [] => none
  | j :: l =>
    match firstDue l with
    | some k => if k.apply < j.apply then some k else some j
    | none => some j

/-- The next RENDER write that has come due. -/
def State.renderDue (s : State) : Option JRec :=
  firstDue (s.fePend.filter (fun j => j.key == dkey 0x1100 3 0 && j.wins && decide (j.apply ≤ s.tb.sidx)))

/-- The released words without those of output indices from `x` up to `y`. -/
def dropReleased (m : Assoc Int) (x y : Nat) : Assoc Int :=
  if y < x ∨ x + 512 ≤ y then []
  else m.filter (fun e => decide ((e.1 / 1280 + 512 - x % 512) % 512 ≥ y - x))

/-- The arbiter is made ready for the first output block of a RENDER that begins with input block `b` (R58, R217). -/
def Arbiter.begin (a : Arbiter) (b lat : Nat) (src : UnitId) : Arbiter :=
  if a.run then { a with startAt := 32 * (b + lat), lat := lat, startSrc := src }
  else
    { a with
      run := true, source := src, startSrc := src, startAt := 32 * (b + lat), nextOut := 32 * (b + lat), decided := b + lat - 1
      endAt := none, hold := none, chHold := [], repoint := [], stageA := [], stageB := [], sealsA := [], sealsB := []
      latesA := [], latesB := [], selected := none, silQ := [], lat := lat
      released := dropReleased a.released a.nextOut (32 * (b + lat)) }

/-- RENDER begins with input block `b`: steps whose emission index has passed are missed, the later ones run in it, and one of
an earlier RENDER gives no more results (R65, R290). -/
def State.enterSurvey (s : State) (b : Nat) : State :=
  let t := s.passSurvey (32 * b)
  let runs : List SurvRun := (t.surv.runs.filter (fun q => q.outside)).map (fun q => { q with outside := false })
  { t with surv := { t.surv with runs := runs } }

/-- RENDER begins with input block `b`, with e at 0 (R51, R58, R445, R551). -/
def State.startRender (s : State) (b : Nat) : State :=
  let s0 := { s with sub := { s.sub with power := .render, win := {}, winNext := {}, winSec := s.tb.sec }, tb := { s.tb with offset := 0 } }
  let s1 := ((((s0.enterSurvey b).setFeN 0x1100 4 0 b).logEvent 0x0003 0 0 s.tb.sidx 4).logEvent 0x0004 0 0 b 1)
  let enter := fun (t : State) (u : UnitId) =>
    if (t.unit u).rd.endBlk.isSome then t.onRd u (fun r => { r with beginBlk := some b }) else t.beginUnit u b
  let s2 := enter (enter s1 .a) .b
  let src : UnitId := if s2.ua.hl.enabled && s2.ua.hl.loaded then .a else .b
  (s2.onArb (fun a => a.begin b s.latency src)).raiseCtrl

/-- RENDER_BEGIN: an accepted RENDER write of 1 has come due; while the device renders it has no effect but its log record
(R384, R445). -/
def execRenderBegin (s : State) : Host.Outcome State Fault Refusal :=
  match s.renderDue with
  | none => .next s
  | some j =>
    if j.val ≠ .num 1 then .next s
    else
      let b := j.apply / 32
      let s1 := s.consumeFe j
      if s.rendering then .next (s1.logEvent 0x0004 0 0 b 3)
      else if s.sub.power = .ready ∧ s.sub.transition.isNone then .next (s1.startRender b)
      else .next (s1.logEvent 0x0004 0 0 b 2)

/-- Survey steps whose emission index falls at or after the end of RENDER are missed (R65, R290). -/
def State.dropSurvey (s : State) (e : Nat) : State := s.missRuns (fun q => decide (32 * e ≤ q.at_))

/-- RENDER ends before input block `e`: the units compute the blocks before it, and the arbiter releases zeros from output
index 32(e + L) on (R446). -/
def State.endRender (s : State) (e : Nat) : State :=
  let s0 := { s with sub := { s.sub with power := .ready } }
  let s1 := (s0.logEvent 0x0003 0 0 s.tb.sidx 3).logEvent 0x0004 0 0 e 0
  let s2 := s1.onArb (fun a => { a with endAt := some (32 * (e + a.lat)) })
  let stop := fun (t : State) (u : UnitId) =>
    if s.unitRuns u then (t.onRd u (fun r => { r with endBlk := some e })).tailEnd u else t
  ((stop (stop s2 .a) .b).dropSurvey e).realign

/-- RENDER_END: an accepted RENDER write of 0 has come due (R446). -/
def execRenderEnd (s : State) : Host.Outcome State Fault Refusal :=
  match s.renderDue with
  | none => .next s
  | some j =>
    if j.val ≠ .num 0 then .next s
    else if s.rendering then .next ((s.consumeFe j).endRender (j.apply / 32))
    else .next (s.consumeFe j)

/-! ### A change of the system rate (R50, R59, R552) -/

/-- An armed trigger skips the firings at or below an index; one with none left is missed (R552). -/
def Trigger.skipTo (t : Trigger) (x : Nat) : Trigger :=
  if t.state ≠ .armed ∨ x < t.start + t.nextK * t.period then t
  else if t.period = 0 then { t with state := .missed }
  else
    let k := (x - t.start) / t.period + 1
    if t.count ≠ 0 ∧ t.count ≤ k then { t with nextK := t.count, state := if t.fired = 0 then .missed else .done }
    else { t with nextK := k }

/-- The keyframe FIFOs of a unit are emptied. -/
def Render.emptyKf (r : Render) : Render := { r with kf := [], kfPend := [] }

/-- The system rate changes: hard alignment at the new rate, empty keyframe FIFOs, renewed leases, no kept input records,
and skipped trigger firings (R50, R552). -/
def State.rateChange (s : State) (v : Nat) : State :=
  let s1 := s.setFeN 0x2001 0 0 v
  let s2 := s1.realign
  let x := s2.tb.sidx
  let s3 := ((s2.setIr []).onRd .a Render.emptyKf).onRd .b Render.emptyKf
  { s3 with
    arb := { s3.arb with released := [] }
    st := { s3.st with closed := none }
    surv := { s3.surv with cap := s3.surv.cap.map (fun _ => {}) }
    trig := s3.trig.map (fun e => (e.1, e.2.skipTo x))
    dam := { s3.dam with
      kf := s3.dam.kf.map (fun e => (e.1, { e.2 with items := [] }))
      kfPend := []
      sessions := s3.dam.sessions.map (fun e =>
        if e.2.isOpen then (e.1, { e.2 with xEnd := x + s.feN 0xC100 4 e.1 * v / 1000 }) else e) } }

/-- The changed rate is allowed: outside RENDER with no accepted write pending (R59). -/
def State.rateFree (s : State) : Bool := !s.rendering && s.pendingCount == 0

/-- A change of the system rate is forbidden now (R59, R194, R267, R336). -/
def State.rateForbids (s : State) (v : Nat) : Bool :=
  !s.rateFree || s.tdm.any (·.run) || !s.srcUnit.nv.graph.isEmpty ||
    (List.range 8).any (fun k => let img := (agetD s.dam.cs k {}).image; !img.isEmpty && setRate img != v)

/-- RATE_CHANGE: the system rate takes one of its two values outside RENDER, with no accepted write pending, no slot that holds an
image of the other rate, no job in the active graph and no TDM port running (R59, R194, R267, R336, R552). -/
def execRateChange (v : Nat) (s : State) : Host.Outcome State Fault Refusal :=
  if s.rateForbids v = false ∧ (v = 48000 ∨ v = 96000) ∧ v ≠ s.rate then .next (s.noteForms.rateChange v).noteForms else .next s

/-! ### Correction slots (R193 to R197) -/

/-- CS_REBUILD_DONE: a unit has rebuilt the other copy of a slot (R193, R201). -/
def execCsRebuildDone (u : UnitId) (s : State) : Host.Outcome State Fault Refusal :=
  .next (s.setReg (.unit u) 0x2002101C 0xFF)

/-- The last block occupied by the filter change that a feed makes at index `a` (R197). -/
def changeEnd (a n : Nat) : Nat := if n = 0 then a / 32 else (a + n - 1) / 32

/-- The last block occupied by the changes at index `a` that read the former image of a slot, the block before it where no feed
used the slot (R193, R195, R197). -/
def State.slotChangeEnd (s : State) (k a : Nat) : Nat :=
  let at_ := fun (idx sub e : Nat) => (valueAt s.dict s.fePend (dkey idx sub e) a).toNat
  ((List.range 1024).filter (fun f => s.atKey (dkey 0x6000 6 f) (a - 1) == k)).foldl (fun m f => max m (changeEnd a (at_ 0x6000 9 f))) (a / 32 - 1)

/-- CRC-32 of an image as a number of R195. -/
def imageCrc (b : List Byte) : Int := ((crc32 b : Nat) : Int)

/-- The slot entries after a switch (R195). -/
def State.slotEntries (s : State) (k a : Nat) (img : List Byte) : State :=
  (((((s.setFeN 0x6200 5 k (fieldAt img 4 4)).setFeN 0x6200 6 k (fieldAt img 8 2)).setFeN 0x6200 7 k (imageCrc img)).setFeN
    0x6200 8 k a).setFeN 0x6200 9 k 0).setFeN 0x6200 4 k 1

/-- CS_SWITCH: at its apply index the committed image becomes active in its slot, and the upload staging is free again
(R193, R195). While a unit renders, its own slot switches with the feed chain of the block. -/
def execCsSwitch (s : State) : Host.Outcome State Fault Refusal :=
  match s.fePend.find? (fun j => keyIdx j.key == 0x6200 && keySub j.key == 2 && j.wins && decide (j.apply ≤ s.tb.sidx)) with
  | none => .next s
  | some j =>
    let k := keyElem j.key
    let img := match s.dam.csStage with
      | some (q, b) => if q = k then b else []
      | none => []
    let s1 := s.consumeFe j
    let stop := if s.rendering ∧ 32 * s.feN 0x1100 4 0 < j.apply then s.slotChangeEnd k j.apply else 0
    let begun := (List.range 1024).filterMap (fun f =>
      if s.atKey (dkey 0x6000 6 f) j.apply = k then s.changeOf (dkey 0x6000 6 f) j.apply else none)
    let s2 := { s1 with dam := { s1.dam with
      fades := (s1.dam.fades ++ begun).filter s.fadeRuns
      cs := aputD s1.dam.cs k { image := img, at_ := some (j.apply / 32) } {}
      csEnd := aputD s1.dam.csEnd k stop 0, csStage := none } }
    let s3 := ((s2.slotEntries k j.apply img).setFeN 0x6210 1 0 0).setFeN 0x6210 2 0 255
    let sw := fun (t : State) (u : UnitId) =>
      let t1 := if t.unitRuns u then t else t.onRd u (fun r => r.switchSlots (s.tb.sidx / 32))
      if (t.unit u).hl.loaded then t1.setStat (.unit u) 0x20021004 0x20 else t1
    .next (sw (sw s3 .a) .b)

end Sys2Proof.Machine
end

