-- ==== Sys2Proof/Machine/Survey.lean ====
section
/-!
DEFINITION. The acoustic survey (chapter 09, R284 to R294; R275 and R297 for the results of NL-SURV): steps and result copies.
-/
namespace Sys2Proof.Machine
open Sys2Proof

/-- A survey step runs: its emission is journaled and its capture has not ended (R290). -/
def State.survRuns (s : State) : Bool := s.surv.runs.any (fun q => decide (s.tb.sidx < q.stop))

/-- The NL-SURV job of the active graph (R275). -/
def State.nlSurvJob (s : State) : Option NvJob :=
  let v := if s.arb.source = .a then s.ua.nv else s.ub.nv
  v.graph.find? (fun j => !(s.image j.image).isEmpty && sha256 (s.image j.image) == s.sub.nlDigest)

/-- The length of the emission as configured (R288, R294). -/
def State.sigLength (s : State) : Nat :=
  if s.feN 0xA010 1 0 = 1 then s.feN 0xA010 6 0 * (2 ^ s.feN 0xA010 5 0 - 1) else s.feN 0xA010 4 0

/-- The value of the emission record on a feed: feed, point, kind, F1, F2, LEN, ORDER, PERIODS and LEVEL (R288, R289). -/
def State.emissionBytes (s : State) (feed : Nat) : List Byte :=
  beBytes 2 feed ++ beBytes 1 (s.feN 0xA010 8 0) ++ beBytes 1 (s.feN 0xA010 1 0) ++ beBytes 4 (s.feN 0xA010 2 0) ++
    beBytes 4 (s.feN 0xA010 3 0) ++ beBytes 4 (s.feN 0xA010 4 0) ++ beBytes 1 (s.feN 0xA010 5 0) ++
    beBytes 1 (s.feN 0xA010 6 0) ++ beBytes 2 (toUnsigned 16 (s.feI 0xA010 7 0))

/-- LS_ENABLE bits of 32 feeds (R275). -/
def State.lsWord (s : State) (w : Nat) : Nat :=
  ((List.range 32).map (fun i => if s.feN 0xA200 1 (32 * w + i) = 1 then 2 ^ i else 0)).sum

/-- The parameters 0 to 44 of NL-SURV for a step (R275). -/
def State.survParams (s : State) (feed a : Nat) : List Nat :=
  [s.feN 0xA010 1 0, s.feN 0xA010 2 0, s.feN 0xA010 3 0, s.feN 0xA010 4 0, s.feN 0xA010 5 0, s.feN 0xA010 6 0,
    toUnsigned 32 (s.feI 0xA010 7 0), s.feN 0xA010 9 0, a % 2 ^ 32, a / 2 ^ 32 % 2 ^ 32, feed, s.feN 0xA210 1 0,
    s.feN 0xA210 2 0] ++ (List.range 32).map s.lsWord

/-- Session 0 journals a list of parameters of a job from parameter `k` on. -/
def State.journalParams (s : State) (job a : Nat) : Nat → List Nat → State
  | _, [] => s
  | k, v :: l => (s.addInternal 5 a (dkey 0x8100 1 (256 * job + k)) (.num (v : Nat))).journalParams job a (k + 1) l

/-- SCHED_POS advances and wraps after SCHED_LEN steps (R290). -/
def State.advancePos (s : State) : State :=
  let p := s.feN 0xA020 3 0 + 1
  s.setFeN 0xA020 3 0 (if s.feN 0xA020 2 0 ≤ p then 0 else p : Nat)

/-- The step of a schedule position with emission index `a`, as configured now (R289 to R292). -/
def State.survRun (s : State) (pos a : Nat) : SurvRun :=
  let feed := s.feN 0xA020 1 pos
  { pos := pos, feed := feed, at_ := a, stop := a + 32 * s.latency + s.sigLength + s.feN 0xA010 9 0, outside := !s.rendering
    bulk := if s.feN 0xA010 8 0 = 0 then s.atKey (dkey 0x6000 4 feed) a else 0, sig := s.emissionBytes feed }

/-- The step at SCHED_POS with emission index `a` runs or is missed: a step needs the capture buffer, the NL-SURV job, a
free interval, and time to journal its emission (R285, R289, R290). -/
def State.survStep (s : State) (a : Nat) : State :=
  let pos := s.feN 0xA020 3 0
  let run := s.survRun pos a
  let overlaps := s.surv.runs.any (fun q => decide (a < q.stop) && decide (q.at_ < run.stop))
  let late := decide (32 * (a / 32 - 2) < s.tb.sidx)
  let s0 := if late then s.drawn.logEvent (s.freeNat % 65536) 0 1 a 5 else s
  match s.nlSurvJob with
  | none => (s0.survMiss pos).advancePos
  | some j =>
    if overlaps || late || !s.capOn then (s0.survMiss pos).advancePos
    else
      let s1 := s.addRec { jseq := 0, apply := a, session := 0, kind := 5, key := emissionKey, val := .bytes (s.emissionBytes run.feed), prio := 16 }
      let s2 := s1.journalParams j.id a 0 (s.survParams run.feed a)
      let s3 := (List.range 4).foldl (fun (t : State) c => t.setFeN 0xA100 1 (4 * pos + c) 1) s2
      { s3 with surv := { s3.surv with runs := s3.surv.runs ++ [run] } }.advancePos

/-- The next SURV_GO write. -/
def State.survGoNext (s : State) : Option JRec := firstDue (s.fePend.filter (fun j => j.key == emissionKey && j.wins))

/-- SURVEY_STEP: the step that is next by its emission index, of those that a SURV_GO write or a trigger has started, is
journaled or missed (R290). -/
def execSurveyStep (s : State) : Host.Outcome State Fault Refusal :=
  let trig := fun (a : Nat) => State.survStep { s with surv := { s.surv with starts := s.surv.starts.erase a } } a
  match s.survGoNext, s.surv.starts.min? with
  | none, none => .next s
  | none, some a => .next (trig a)
  | some j, none => .next ((s.consumeFe j).survStep j.apply)
  | some j, some a => .next (if a < j.apply then trig a else (s.consumeFe j).survStep j.apply)

/-! ### The analysis of an impulse response (R284, R292; log entry 172) -/

/-- The largest |h| of a response with the lowest of its indices. -/
def peakOf : List Int → Nat → Nat × Nat → Nat × Nat
  | [], _, b => b
  | v :: l, i, b => peakOf l (i + 1) (if b.2 < v.natAbs then (i, v.natAbs) else b)

/-- The parabola through a peak `y1` and its neighbours: the offset of its top in units of 2^-16 sample, each value with the
sign of the peak. -/
def parabola (y0 y1 y2 : Int) : Int := rneDiv (65536 * (y2 - y0)) (2 * (2 * y1 - y0 - y2)).toNat

/-- The peak index in units of 2^-16 sample; where the peak has only one neighbour, `free` is the refinement. -/
def peakIndex (h : List Int) (free : Int) : Int :=
  let q := (peakOf h 0 (0, 0)).1
  let at_ := fun (k : Nat) => if h.getD q 0 < 0 then -(h.getD k 0) else h.getD k 0
  65536 * (q : Int) + (if q = 0 ∨ h.length ≤ q + 1 then free else parabola (at_ (q - 1)) (at_ q) (at_ (q + 1)))

/-- The sum of the squares of the last quarter of a response, and its number of samples. -/
def lastQuarter (h : List Int) : Nat × Nat :=
  let n := h.length / 4
  ((h.drop (h.length - n)).foldl (fun a v => a + v.natAbs * v.natAbs) 0, n)

/-- A ratio of powers in DB16, -128.0 for 0 and the largest value over 0. -/
def dbPower (a b : Nat) : Int :=
  if a = 0 then -32768 else if b = 0 then 32767
  else satS 16 (rneShift fxBits (2560 * fxLn a b * 2 ^ fxBits / fxLn10))

/-- What a response gives: RES_VALID, RES_TOF, RES_LEVEL, RES_POL and RES_SNR. -/
structure ChanResult where
  valid : Nat
  tof : Int
  level : Int
  pol : Int
  snr : Int

/-- The results of a response, with a microphone fault of its channel, the corrections of its time of flight and the free
refinement of a peak at an end. -/
def chanResult (h : List Int) (fault : Bool) (corr free : Int) : ChanResult :=
  let p := peakOf h 0 (0, 0)
  let e := lastQuarter h
  let low : Bool := p.2 == 0 || decide (p.2 * p.2 * e.2 < 100 * e.1)
  { valid := (if low || fault then 0 else 1) + (if fault then 2 else 0) + (if low then 4 else 0)
    tof := if low || fault then 0 else satS 32 (peakIndex h free - corr)
    level := dbPower (p.2 * p.2) (2 ^ 48)
    pol := (h.getD p.1 0).sign
    snr := dbPower (p.2 * p.2 * e.2) e.1 }

/-- The chain delay of the island in units of 2^-16 sample, for a capture channel with an island source (R286, R292). -/
def State.chainDelay (s : State) (c : Nat) : Int :=
  if s.feN 0xA000 2 c < 4 then rneDiv ((s.feN 0xB020 3 0 * s.rate * 65536 : Nat) : Int) 1000000000 else 0

/-- The corrections of a time of flight of feed `f` on channel `c`, in units of 2^-16 sample (R292). -/
def State.tofCorr (s : State) (f c bulk : Nat) : Int :=
  65536 * (bulk : Int) + s.feI 0xA030 1 f + s.feI 0xA000 3 c + s.chainDelay c

/-! ### The speaker position (R293; log entry 172) -/

/-- A point in units of 2^-16 m. -/
structure Pos3 where
  x : Int
  y : Int
  z : Int

/-- The difference of two points. -/
def Pos3.sub (a b : Pos3) : Pos3 := ⟨a.x - b.x, a.y - b.y, a.z - b.z⟩

/-- The cross product. -/
def Pos3.cross (a b : Pos3) : Pos3 := ⟨a.y * b.z - a.z * b.y, a.z * b.x - a.x * b.z, a.x * b.y - a.y * b.x⟩

/-- The dot product. -/
def Pos3.dot (a b : Pos3) : Int := a.x * b.x + a.y * b.y + a.z * b.z

/-- Four points lie within 0.10 m of one plane: the tetrahedron is at most 0.20 m thick across a face or across a pair of
opposite edges. -/
def nearPlane (p q r t : Pos3) : Bool :=
  let a := q.sub p
  let b := r.sub p
  let c := t.sub p
  let d := ((a.cross b).dot c).natAbs
  let normals : List Pos3 := [a.cross b, a.cross c, b.cross c, (b.sub a).cross (c.sub a),
    a.cross (c.sub b), b.cross (c.sub a), c.cross (b.sub a)]
  normals.any (fun n => decide (((25 * d * d : Nat) : Int) ≤ 65536 * 65536 * n.dot n))

/-- The squares of the residuals of a point, in units of 2^-96 m^2, for microphones with distances in units of 2^-48 m. -/
def residual (mics : List (Pos3 × Int)) (v : Pos3) : Nat :=
  mics.foldl (fun a m =>
    let e := (v.sub m.1).dot (v.sub m.1)
    let r := ((isqrt (e.toNat * 2 ^ 64) : Nat) : Int) - m.2
    a + r.natAbs * r.natAbs) 0

/-- The point of the POS32 lattice with an index. -/
def latticePoint (n : Nat) : Pos3 :=
  ⟨toSigned 32 (n % 2 ^ 32), toSigned 32 (n / 2 ^ 32 % 2 ^ 32), toSigned 32 (n / 2 ^ 64 % 2 ^ 32)⟩

/-- The best of the first `n` lattice points. -/
def bestPoint (mics : List (Pos3 × Int)) : Nat → Pos3
  | 0 => latticePoint 0
  | n + 1 =>
    let b := bestPoint mics n
    if residual mics (latticePoint n) < residual mics b then latticePoint n else b

/-- The least-squares solution over every POS32 point. -/
def leastSquares (mics : List (Pos3 × Int)) : Pos3 := bestPoint mics (2 ^ 96)

/-- The residual RMS of a point in mm. -/
def residualMm (mics : List (Pos3 × Int)) (v : Pos3) : Int :=
  rneSqrt (residual mics v * 1000000) (mics.length * 2 ^ 96)

/-! ### Results (R275, R284, R292 to R294, R297) -/

/-- Word `w` of the LP5 private region of a job's engine, from an offset that its report gives (R275). -/
def NovilArray.privWord (v : NovilArray) (j : NvJob) (w : Nat) : Nat := agetD v.priv (25165824 * j.engine + j.lpBase + w) 0

/-- The results of one capture channel of a step: its part of the block is RES_STATE to RES_SNR, a word each, the number of
impulse-response values, and the values, of AUD32. The response is copied and the other results are those that R292 derives
from it; answered with the word after the part. -/
def State.copyChannel (s : State) (v : NovilArray) (j : NvJob) (q : SurvRun) (c w : Nat) : State × Nat :=
  let r := 4 * q.pos + c
  let n := min 65536 (v.privWord j (w + 6))
  let h := (List.range n).map (fun k => v.privWord j (w + 7 + k) % 2 ^ 32)
  let e := chanResult (h.map (toSigned 32)) (q.micFault.contains c) (s.tofCorr q.feed c q.bulk) ((s.freeNat % 65536 : Nat) - 32768)
  let s1 := (((s.drawn.setFeN 0xA100 1 r 2).setFeN 0xA100 2 r e.valid).setFeN 0xA100 3 r e.tof).setFeN 0xA100 4 r e.level
  (((s1.setFeN 0xA100 5 r e.pol).setFeN 0xA100 6 r e.snr).setFe 0xA100 7 r (.bytes (h.flatMap (beBytes 4))), w + 7 + n)

/-- Channel `c` has a valid result at a schedule position. -/
def State.resValid (s : State) (pos c : Nat) : Bool := s.feN 0xA100 2 (4 * pos + c) == 1

/-- A microphone with its distance from the speaker, in units of 2^-48 m. -/
def State.micAt (s : State) (pos c : Nat) : Pos3 × Int :=
  (⟨s.feI 0xA000 4 c, s.feI 0xA000 5 c, s.feI 0xA000 6 c⟩,
    rneDiv (s.feI 0xA100 3 (4 * pos + c) * s.feN 0x7000 1 0 * 4096) s.rate)

/-- POS_EST, POS_STATE and POS_RESID of a schedule position. -/
def State.setPos (s : State) (pos : Nat) (v : Pos3) (st : Nat) (mm : Int) : State :=
  ((((s.setFeN 0xA110 1 pos v.x).setFeN 0xA110 2 pos v.y).setFeN 0xA110 3 pos v.z).setFeN 0xA110 4 pos st).setFeN 0xA110 5 pos mm

/-- The speaker position of a step from its results (R293). -/
def State.position (s : State) (pos : Nat) : State :=
  let m := fun (c : Nat) => s.micAt pos c
  let mics := [m 0, m 1, m 2, m 3]
  if [0, 1, 2, 3].any (fun c => !s.resValid pos c) then s.setPos pos ⟨0, 0, 0⟩ 1 0
  else if nearPlane (m 0).1 (m 1).1 (m 2).1 (m 3).1 then s.setPos pos ⟨0, 0, 0⟩ 2 0
  else
    let v := leastSquares mics
    s.setPos pos v 0 (min (2 ^ 32 - 1) (residualMm mics v))

/-- The speed of sound that a valid result with a known distance gives, in C32; `free` where the time of flight is not
positive (R294). -/
def State.soundOf (s : State) (q : SurvRun) (free c : Nat) : Option Int :=
  let k := s.feN 0xA030 2 (4 * q.feed + c)
  let t := s.feI 0xA100 3 (4 * q.pos + c)
  if s.resValid q.pos c = false ∨ k = 0 then none
  else if t ≤ 0 then some free
  else some (min (2 ^ 32 - 1) (rneDiv ((k * s.rate * 2 ^ 20 : Nat) : Int) t.toNat))

/-- C_EST of a step: the mean of the speeds, 0 where there are none (R294). -/
def State.speed (s : State) (q : SurvRun) : State :=
  let l := [0, 1, 2, 3].filterMap (s.soundOf q (s.freeNat % 2 ^ 32))
  s.drawn.setFeN 0xA110 6 q.pos (rneDiv l.sum l.length)

/-- The results of the step last completed, from its result block: the oldest step that runs at its schedule position; a
newer one there keeps RES_STATE at 1 (R275, R294). -/
def State.copyStep (s : State) (v : NovilArray) (j : NvJob) (pos w0 : Nat) : State :=
  let q := (s.surv.runs.find? (fun x => x.pos == pos)).getD (s.survRun pos 0)
  let s0 := { s with surv := { s.surv with runs := s.surv.runs.eraseP (fun x => x.pos == pos) } }
  let s1 := ((List.range 4).foldl (fun (t : State × Nat) c => t.1.copyChannel v j q c t.2) (s0, w0)).1
  let s2 := (s1.position pos).speed q
  let s3 := if s2.surv.runs.any (fun x => x.pos == pos) then
      (List.range 4).foldl (fun (t : State) c => t.setFeN 0xA100 1 (4 * pos + c) 1) s2 else s2
  s3.notifyEntry 0x000B (dkey 0xA100 1 (4 * pos)) (s.tb.sidx / 32) (beBytes 1 pos)

/-- The live-survey result of a feed from its words: an invalid window leaves the previous values; LS_DRIFT counts from the
first valid window since LS_ENABLE became 1 (R292, R297). -/
def State.copyFeed (s : State) (f : Nat) (peak : Int) (valid : Bool) : State :=
  if valid = false then s.setFeN 0xA200 6 f 0
  else
    let d := satS 32 (peak - s.tofCorr f (s.feN 0xA210 1 0) (s.feN 0x6000 4 f))
    let first := (aget? s.surv.lsFirst f).getD d
    (((({ s with surv := { s.surv with lsFirst := aput s.surv.lsFirst f first } }).setFeN 0xA200 4 f d).setFeN 0xA200 5 f
      (satS 32 (d - first))).setFeN 0xA200 6 f 1)

/-- The live-survey results of a window, from their result block: three words a feed (R275, R297). -/
def State.copyLive (s : State) (v : NovilArray) (j : NvJob) (w0 : Nat) : State :=
  (List.range 1024).foldl (fun (t : State) f =>
    let at_ := fun (k : Nat) => v.privWord j (w0 + 3 * f + k)
    t.copyFeed f (toSigned 32 (at_ 0)) (natBit (at_ 2) 0)) s

/-- SURVEY_RESULT_COPY: where NL-SURV's report counters have changed, the result blocks are copied from the current source
and a completed step is notified (R275, R294). -/
def execSurveyResultCopy (s : State) : Host.Outcome State Fault Refusal :=
  match s.nlSurvJob with
  | none => .next s
  | some j =>
    let v := (s.unit s.arb.source).nv
    let rep := fun (w : Nat) => agetD v.report (16 * j.id + w) 0
    let s1 := if rep 0 = s.surv.stepCount then s else s.copyStep v j (rep 1 % 64) (rep 2)
    let s2 := if rep 3 = s.surv.liveCount then s1 else s1.copyLive v j (rep 4)
    .next { s2 with surv := { s2.surv with stepCount := rep 0, liveCount := rep 3 } }

end Sys2Proof.Machine
end

