-- ==== Sys2Proof/Machine/Triggers.lean ====
section
/-!
DEFINITION. Input ranges in use (R326, R334), the time triggers (R66 to R69, R526) and GPIO pulses (R68, R389, R390).
-/
namespace Sys2Proof.Machine
open Sys2Proof

/-! ### Channel ranges in use (R326, R334) -/

/-- The ingress channels of an enabled stream at sample `x`: the first and the one after the last. -/
def State.streamRange (s : State) (x i : Nat) : Option (Nat × Nat) :=
  if s.feAt x 0x3200 1 i = 1 then some (s.feAt x 0x3200 6 i, s.feAt x 0x3200 6 i + s.feAt x 0x3200 5 i) else none

/-- A trigger is armed to start a TDM port. -/
def State.tdmArmed (s : State) (t : Nat) : Bool :=
  s.trig.any (fun e => e.2.state == .armed && e.2.action == 2 && e.2.target == t)

/-- A TDM port occupies its input range at sample `x`: it runs there, or it has a pending start. -/
def State.tdmOccupies (s : State) (x t : Nat) : Bool :=
  let start := s.fePend.any (fun j => j.key == dkey 0x3710 1 t && j.wins && j.val == .num 1)
  let runs := match pendAt (dkey 0x3710 1 t) x s.fePend with
    | some j => j.val == .num 1
    | none => (s.tdmPort t).run
  start || runs || s.tdmArmed t

/-- The ingress channels of an occupying TDM port at sample `x`. -/
def State.tdmRange (s : State) (x t : Nat) : Option (Nat × Nat) :=
  let f := s.feAt x 0x3710 4 t
  if s.tdmOccupies x t ∧ f ≠ 0xFFFF then some (f, f + s.feAt x 0x3710 2 t) else none

/-- The ranges in use at sample `x`, streams 0 to 127 and TDM ports 128 to 135. -/
def State.rangeOf (s : State) (x w : Nat) : Option (Nat × Nat) :=
  if w < 128 then s.streamRange x w else s.tdmRange x (w - 128)

/-- A range of user `w` stays within the 1,280 channels and overlaps none in use at sample `x`. -/
def State.rangeFree (s : State) (x w : Nat) (r : Nat × Nat) : Bool :=
  decide (r.2 ≤ 1280) && (List.range 136).all (fun k =>
    k == w || match s.rangeOf x k with
      | none => true
      | some q => decide (q.2 ≤ r.1) || decide (r.2 ≤ q.1))

/-- A user's range at sample `x` is free for it. -/
def State.rangeOk (s : State) (x w : Nat) : Bool :=
  match s.rangeOf x w with
  | none => true
  | some r => s.rangeFree x w r

/-- The input range that a TDM port is given at sample `x`, running or not, is free for it (R334). -/
def State.tdmFree (s : State) (x t : Nat) : Bool :=
  let f := s.feAt x 0x3710 4 t
  f == 0xFFFF || s.rangeFree x (128 + t) (f, f + s.feAt x 0x3710 2 t)

/-! ### Time triggers -/

/-- A trigger. -/
def State.tt (s : State) (t : Nat) : Trigger := agetD s.trig t {}

/-- The state with a trigger replaced. -/
def State.setTt (s : State) (t : Nat) (q : Trigger) : State := { s with trig := aputD s.trig t q {} }

/-- The one-shot actions (R68, R69). -/
def oneShot (action : Nat) : Bool := action == 1 || action == 2

/-- A TARGET is in the range of an action (R68). -/
def targetOk (action target : Nat) : Bool :=
  match action with
  | 2 => target < 8
  | 4 => target < 24
  | 5 => target < 3
  | _ => target < 256

/-- The tests of a write of a configuration field by owner `id`, in the order of R368. -/
def State.trigFieldTest (s : State) (id t : Nat) (f : TrigField) (v : Nat) : Status :=
  let q := s.tt t
  let access : Bool := match f with
    | .action => v == 1 && id != 0x20
    | _ => false
  let range : Bool := match f with
    | .action => v ≤ 5
    | .target => targetOk q.action v
    | .period => v == 0 || 32 ≤ v
    | .count => true
    | .width => 1 ≤ v
  let shot : Bool := match f with
    | .period | .count => oneShot q.action && v != 0
    | _ => false
  if access then .access
  else if range = false then .range
  else if q.state = .armed ∨ shot then .state
  else .ok

/-- A configuration field is written. -/
def Trigger.setField (q : Trigger) (f : TrigField) (v : Nat) : Trigger :=
  match f with
  | .action => { q with action := v }
  | .target => { q with target := v }
  | .period => { q with period := v }
  | .count => { q with count := v }
  | .width => { q with width := v }

/-- The trigger as a write of START leaves it (R67). -/
def Trigger.arm (q : Trigger) (start : Nat) : Trigger :=
  { q with start := start, startLo := start % 2 ^ 32, state := .armed, fired := 0, nextK := 0 }

/-- The tests of a write of START by owner `id`, but for the lead, in the order of R368. -/
def State.armTest (s : State) (id t start : Nat) : Status :=
  let q := s.tt t
  let tdm : Bool := q.action == 2 && !(s.setTt t (q.arm start)).rangeOk start (128 + q.target)
  if q.action = 1 ∧ id ≠ 0x20 then .access
  else if targetOk q.action q.target = false ∨ (q.action = 1 ∧ start % 32 ≠ 0) ∨ tdm ∨
      (q.action = 4 ∧ q.period ≠ 0 ∧ q.period ≤ q.width) then .range
  else if q.state = .armed ∨ (oneShot q.action ∧ (q.period ≠ 0 ∨ q.count ≠ 0)) ∨
      (q.action = 2 ∧ (s.tdmPort q.target).run) then .state
  else if (q.action = 4 ∧ (s.own (.gpio q.target)).owner ≠ id) ∨ (q.action = 2 ∧ q.target = 7 ∧ !s.configOk .tdm7 id) then .busy
  else .ok

/-- A START less than 64 samples ahead is too late (R67). -/
def State.armLate (s : State) (start : Nat) : Bool := decide (start < s.tb.sidx + 64)

/-- The trigger's next firing index. -/
def Trigger.nextIdx (q : Trigger) : Nat := q.start + q.nextK * q.period

/-- The trigger after a firing (R67). -/
def Trigger.fire (q : Trigger) : Trigger :=
  let k := q.nextK + 1
  { q with
    fired := (q.fired + 1) % 2 ^ 32
    nextK := k
    state := if q.period = 0 ∨ (q.count ≠ 0 ∧ q.count ≤ k) then .done else .armed }

/-- RENDER_START fires (R445): RENDER begins in READY, LOCKED and untripped; a second start is logged; otherwise the trigger
is missed. -/
def State.fireRender (s : State) (t x : Nat) : State :=
  if s.rendering then s.logEvent 0x0004 0 0 (x / 32) 3
  else if s.sub.power = .ready ∧ s.sub.transition.isNone ∧ s.ptp.lock = .locked ∧ s.sub.tripLatched = false then s.startRender (x / 32)
  else (s.setTt t { s.tt t with state := .missed }).logEvent 0x0004 0 0 (x / 32) 2

/-- TDM_FRAME fires: the port's first frame begins at the firing tick; a running port refuses it (R69, R333, R346). -/
def State.fireTdm (s : State) (p x : Nat) : State :=
  if (s.tdmPort p).run then s.setStat .shared (tdmStat p) 8 else s.startTdm p x

/-- The core and source of a trigger's interrupt (R68, R516). -/
def trigSource (t target : Nat) : Core × Nat :=
  match target with
  | 0 => (.mgmt, 0x20 + t)
  | 1 => (.ua, 0x50 + t)
  | _ => (.ub, 0x50 + t)

/-- The action of a firing at index `x` (R68, R69, R290). -/
def State.fireAction (s : State) (t x : Nat) : State :=
  let q := s.tt t
  match q.action with
  | 1 => s.fireRender t x
  | 2 => s.fireTdm q.target x
  | 3 =>
    if (s.own (.tt t)).owner = 0x30 then
      { s with surv := { s.surv with starts := s.surv.starts ++ [32 * ((x + 31) / 32 + 4)] } }
    else s
  | 4 => s.setBall q.target { s.ball q.target with pulses := (s.ball q.target).pulses ++ [(t, x + q.width)] }
  | 5 => s.raiseEdge (trigSource t q.target).1 (trigSource t q.target).2
  | _ => s

/-- An armed trigger whose next index has come fires. -/
def State.fireTrig (s : State) (t : Nat) : State :=
  let q := s.tt t
  if q.state = .armed ∧ q.nextIdx ≤ s.tb.sidx then (s.setTt t q.fire).fireAction t q.nextIdx else s

/-- TRIGGER_FIRE: an armed trigger fires at the tick of its next index (R67). -/
def execTriggerFire (t : Nat) (s : State) : Host.Outcome State Fault Refusal :=
  if 16 ≤ t ∨ s.tbRuns = false then .next s else .next (s.fireTrig t)

/-- A disarm: a firing that is due at the same tick counts first (R67). -/
def State.disarm (s : State) (t : Nat) : State :=
  let was := (s.tt t).state
  let s1 := s.fireTrig t
  if was = .armed ∧ (s1.tt t).state ≠ .missed then s1.setTt t { s1.tt t with state := .idle } else s1

/-- GPIO_PULSE_END: the pulses of a ball that have lasted their WIDTH end (R68). -/
def execGpioPulseEnd (g : Nat) (s : State) : Host.Outcome State Fault Refusal :=
  .next (s.setBall g { s.ball g with pulses := (s.ball g).pulses.filter (fun p => decide (s.tb.sidx < p.2)) })

/-! ### Who may configure an owned resource (R29, R30, R36) -/

/-- The core that writes for an agent; a host's and the survey's writes go through the management core. -/
def Agent.core : Agent → Core
  | .firmware c => c
  | _ => .mgmt

/-- A master may configure a resource through its registers: an ID it may use owns it, or it is free and R30 permits it. -/
def State.masterMay (s : State) (c : Core) (r : Res) : Bool :=
  let o := (s.own r).owner
  if o = 0 then idOfRes r (Agent.firmware c).ownerId else idOfMaster c o

/-- The ID under which a master configures a resource. -/
def State.actingId (s : State) (c : Core) (r : Res) : Nat :=
  let o := (s.own r).owner
  if o = 0 then (Agent.firmware c).ownerId else o

/-- The ID under which an agent configures a resource, none where it may not. -/
def State.agentId (s : State) (a : Agent) (r : Res) : Option Nat :=
  match a with
  | .firmware c => if s.masterMay c r then some (s.actingId c r) else none
  | b => if s.configOk r b.ownerId then some b.ownerId else none

/-- A trigger configuration write that is ignored sets CFG_REJ (R526). -/
def State.trigReject (s : State) (t : Nat) : State := s.setTt t { s.tt t with cfgRej := true }

/-- A trigger field written through the registers (R36, R526). -/
def State.trigRegField (s : State) (c : Core) (t : Nat) (l : List (TrigField × Nat)) : State :=
  let r : Res := .tt t
  if s.masterMay c r = false then s.refuseOwn r
  else
    let id := s.actingId c r
    let s1 := s.claimFor r id
    let r1 := l.foldl (fun (a : State × Bool) f =>
      if a.2 ∧ a.1.trigFieldTest id t f.1 f.2 = .ok then (a.1.setTt t ((a.1.tt t).setField f.1 f.2), true) else (a.1, false)) (s1, true)
    if r1.2 then r1.1 else s1.trigReject t

/-- A trigger armed through the registers: one that is too late is left missed (R67, R526). -/
def State.trigRegArm (s : State) (id t start : Nat) : State :=
  if s.armTest id t start ≠ .ok then s.trigReject t
  else
    let q := (s.tt t).arm start
    s.setTt t (if s.armLate start then { q with state := .missed } else q)

/-! ### GPIO configuration -/

/-- The tests of a GPIO field's value (R389). -/
def gpioRange (f : GpioField) (v : Nat) : Bool :=
  match f with
  | .func => v ≤ 3
  | _ => v ≤ 1

/-- A GPIO field is written, and the ball switches at once to its new source (R390). -/
def State.gpioSet (s : State) (g : Nat) (f : GpioField) (v : Nat) : State :=
  let b := s.ball g
  s.setBall g (match f with
    | .func => { b with func := v, sil := s.silLevel s.arb.silIdx s.arb.silLast g }
    | .pol => { b with pol := v }
    | .out => { b with out := v == 1 })

end Sys2Proof.Machine
end

