-- ==== Sys2Proof/Machine/Dictionary.lean ====
section
/-!
DEFINITION. What a read of a dictionary entry returns (R357, R553 and the tables of the chapters): the stored values in
force, and the entries that mirror the block's own state.
-/
namespace Sys2Proof.Machine
open Sys2Proof

/-! ### Sessions' roles and credentials (R355, R370) -/

/-- 32 zero bytes. -/
def zeroCred : List Byte := List.replicate 32 0

/-- Provisioning mode: no session of role 3 holds a credential other than 32 zero bytes (R355). -/
def State.provisioning (s : State) : Bool :=
  !(sessionIds.any (fun n => s.feN 0xC100 2 n == 3 && (s.fe (dkey 0xC100 1 n)).toBytes != zeroCred))

/-- The credential of a session; session 1 has 32 zero bytes in provisioning mode (R355). -/
def State.cred (s : State) (n : Nat) : List Byte :=
  if s.provisioning && n == 1 then zeroCred else (s.fe (dkey 0xC100 1 n)).toBytes

/-- The role of a session now; session 1 is admin in provisioning mode (R355), and session 0, the front end itself, may write
everything (R366). -/
def State.roleNow (s : State) (n : Nat) : Nat := if n == 0 || (s.provisioning && n == 1) then 3 else s.feN 0xC100 2 n

/-- The priority of a session now; session 0 has 16 (R373). -/
def State.prioNow (s : State) (n : Nat) : Nat := if n = 0 then 16 else s.feN 0xC100 3 n

/-- The tenancy of a session now (R371). -/
def State.tenancyNow (s : State) (n : Nat) : Tenancy :=
  let dom := fun (sub : Nat) => (s.fe (dkey 0xC200 sub n)).toBytes
  ⟨dom 1, s.feN 0xC200 2 n, dom 3, dom 4, dom 5⟩

/-- What the message in progress fixes for its session, else what stands now: a change governs the session's next message
(R370). -/
def State.inMessage {α : Type} (s : State) (n : Nat) (held : MsgCtx → α) (now : α) : α :=
  match s.dam.cur with
  | some c => if c.session = n then held c else now
  | none => now

/-- The role that governs a session's operations (R370). -/
def State.role (s : State) (n : Nat) : Nat := s.inMessage n MsgCtx.role (s.roleNow n)

/-- The priority that governs a session's writes (R370). -/
def State.prio (s : State) (n : Nat) : Nat := s.inMessage n MsgCtx.prio (s.prioNow n)

/-- The tenancy that governs a session's writes (R370). -/
def State.tenancy (s : State) (n : Nat) : Tenancy := s.inMessage n MsgCtx.tenancy (s.tenancyNow n)

/-! ### Entries of the render units (R553) -/

/-- Pair units of an object in a unit's pair memory (R79, R104). -/
def objUnits (r : Render) (o : Nat) : Nat :=
  (r.pairs.map (fun e => if e.1 % 1024 = o ∧ e.2.valid then (if e.2.mode = 0 then 1 else 2) else 0)).sum

/-- UNIT_STATE: 0 active, 1 standby, 2 resynchronising, 3 disabled; outside RENDER the state at the next entry (R214, R238). -/
def State.unitState (s : State) (u : UnitId) : Nat :=
  let h := (s.unit u).hl
  let on := fun (v : UnitId) =>
    (s.unit v).hl.loaded && (s.unit v).hl.enabled
  if on u = false then 3
  else if s.rendering then (if h.resync.phase ≠ 0 ∨ h.need then 2 else if s.arb.source = u then 0 else 1)
  else if u = .a ∨ on .a = false then 0
  else 1

/-- RESYNC_PHASE: 15 from the call for a resynchronisation to the start of phase 1 (R228, R238). -/
def State.resyncPhase (s : State) (u : UnitId) : Nat :=
  let h := (s.unit u).hl
  if h.resync.phase = 0 ∧ h.need then 15 else h.resync.phase

/-- The value that an entry of the render path takes from the unit read. -/
def State.unitVal (s : State) (idx sub e : Nat) : Option Int :=
  let r := s.srcUnit.rd
  let v := s.srcUnit.nv
  let n := if s.unitRuns s.arb.reads then r.chain else s.tb.sidx / 32
  let o := r.obj e
  let f := r.feed e
  if idx = 0x4000 then
    if sub = 0x30 then some o.status
    else if sub = 0x32 then some (objUnits r e : Nat)
    else if sub = 0x33 then some o.clampCount
    else if sub = 0x34 then some o.slopeCount
    else if sub = 0x35 then some o.kfDrops
    else none
  else if idx = 0x4100 ∧ sub = 2 then
    some (kfCount (if s.unitRuns s.arb.reads then (agetD r.kf e {}).items else r.kfNow n e) : Nat)
  else if idx = 0x6000 then
    if sub = 7 then some ((f.live ||| f.sticky : Nat) : Int)
    else if sub = 0xA then some ((((if s.unitRuns s.arb.reads then f.filt else none).getD (Sys2Proof.Machine.filterAt r e n none)).taps.length : Nat) : Int)
    else if sub = 0xB then some (if (f.filt.map (fun q => decide (0 < r.chain) && q.occupies (r.chain - 1))).getD false then 1 else 0)
    else none
  else if idx = 0x6400 ∧ sub = 0x10 then some (grDb f.gEnd.toNat)
  else if idx = 0x6400 ∧ sub = 0x11 then some f.clips
  else if idx = 0x6500 ∧ sub = 6 then some (r.i 0x6500 6 e (if s.unitRuns s.arb.reads then 32 * r.chain else s.tb.sidx))
  else if idx = 0x6500 ∧ sub = 7 then (if s.unitRuns s.arb.reads then some (agetD r.expo e 0 : Nat) else none)
  else if idx = 0x6600 ∧ sub = 5 then some (if f.sil.silent then 1 else 0)
  else if idx = 0x6610 ∧ sub = 5 then some (if o.sil.silent then 1 else 0)
  else if idx = 0x6620 ∧ sub = 3 then some (if natBit r.groups e then 1 else 0)
  else if idx = 0x8210 then
    if sub = 1 then some (agetD v.slotsLast e 0 : Nat)
    else if sub = 2 then some (agetD v.stops e 0 : Nat)
    else if sub = 3 then some (agetD v.faults e 0 : Nat)
    else if sub = 4 then some (agetD v.lastFault e 0 : Nat)
    else none
  else if idx = 0x8220 ∧ sub = 1 then some (agetD v.report e 0 : Nat)
  else none

/-- The value of an entry with a unit element. -/
def State.elemVal (s : State) (idx sub e : Nat) : Option Int :=
  let u : UnitId := if e = 0 then .a else .b
  let h := (s.unit u).hl
  let bool := fun (b : Bool) => some (if b then (1 : Int) else 0)
  if idx = 0x8200 ∧ sub ≤ 2 then
    let w : UnitId := if e < 16 then .a else .b
    let x := (s.unit w).nv.engine (e % 16)
    some ((if sub = 1 then x.slotsLast else x.slotsPeak : Nat) : Int)
  else if idx = 0x9000 then
    if sub = 1 then some (s.unitState u : Nat)
    else if sub = 2 then some (((h.last.map (·.claim)).getD 0 : Nat) : Int)
    else if sub = 8 then some (s.resyncPhase u : Nat)
    else if sub = 0xA then some ((min 65535 h.resyncDone : Nat) : Int)
    else none
  else if idx = 0x9030 ∧ sub = 1 then some h.resultClass
  else if idx = 0x9030 ∧ sub = 3 then some h.update
  else if idx = 0xE000 ∧ sub = 5 then some (if (s.unit u).fab.lp.setpoint = 0 then 6400 else 1600)
  else if idx = 0xE000 ∧ sub = 6 then bool (natBit (s.reg (.unit u) 0x200A0000) 0)
  else if idx = 0xE100 then
    let w : UnitId := if e < 64 then .a else .b
    let t := e % 64
    if sub = 1 then some (s.reg (.unit w) (0x20001000 + 0x10 * t) : Nat)
    else if sub = 2 then some (s.reg (.unit w) (0x20001004 + 0x10 * t) : Nat)
    else if sub = 5 then bool (natBit (s.reg (.unit w) (0x2000100C + 0x10 * t)) 16)
    else none
  else none

/-! ### Novil graph and correction slots (R195, R272) -/

/-- The image slots that the active or the pending graph names (R272). -/
def State.imageUsed (s : State) (k : Nat) : Bool :=
  let v := s.srcUnit.nv
  v.graph.any (fun j => j.image == k) ||
    (s.feN 0x8010 3 0 == 2 && (graphJobs (s.fe (dkey 0x8010 1 0)).toBytes).any (fun j => j.image == k))

/-! ### Other entries -/

/-- The bytes of an event record (R455). -/
def LogRec.bytes (r : LogRec) : List Byte :=
  let b := beBytes 4 r.number ++ beBytes 6 r.timeSec ++ beBytes 4 r.timeNs ++ beBytes 2 r.code ++ beBytes 1 r.source ++
    beBytes 1 r.level ++ beBytes 8 r.data0 ++ beBytes 4 r.data1
  b ++ beBytes 2 (crc16 b)

/-- The admitted-input record of IR_BLOCK (R208, R209). -/
def State.irRecord (s : State) (n : Nat) : Option (List Byte) :=
  (s.st.ir.find? (fun r => r.block == n)).map (fun r =>
    beBytes 8 n ++ beBytes 8 r.digest ++ (List.range 128).flatMap (fun i => beBytes 4 (agetD r.mask i 0)) ++ List.replicate 16 0)

/-- The pending rebuild that switches first, of a list of switch blocks, as an apply index; 0 for none. -/
def firstPending (l : List Nat) : Nat := 32 * (l.min?.getD 0)

/-- The blocks at which pending layout rebuilds switch (R73). -/
def State.layoutPending (s : State) : List Nat := (s.fePend.filter (fun j => isLayoutKey j.key)).map (fun j => j.apply / 32)

/-- The value of an entry of time, ports, streams or pins that mirrors the block's own state. -/
def State.ioVal (s : State) (idx sub e : Nat) : Option DVal :=
  let num := fun (n : Nat) => some (DVal.num n)
  let bool := fun (b : Bool) => some (DVal.num (if b then 1 else 0))
  let q := s.tt e
  let t := s.tdmPort e
  let p := s.port e
  if idx = 0x2003 then num s.tb.sidx
  else if idx = 0x2010 then
    if sub = 7 then num (match s.ptp.lock with | .freerun => 0 | .acquiring => 1 | .locked => 2 | .holdover => 3)
    else if sub = 8 then some (.num (satS 64 s.ptp.offset))
    else if sub = 9 then num (s.tb.sec * 2 ^ 32 + s.tb.ns)
    else if sub = 0xB then some (.num s.mcOffset)
    else if sub = 0xC then
      num ((if s.slewing then 1 else 0) + (if s.far then 2 else 0) + (if natBit (s.reg .shared tbStat) 6 then 4 else 0))
    else if sub = 0xE then bool s.tb.mclkEn
    else none
  else if idx = 0x2100 then
    if sub = 1 then num (s.own (.tt e)).owner
    else if sub = 2 then num q.action
    else if sub = 3 then num q.target
    else if sub = 4 then num q.start
    else if sub = 5 then num q.period
    else if sub = 6 then num q.count
    else if sub = 7 then num q.width
    else if sub = 8 then num (match q.state with | .idle => 0 | .armed => 1 | .done => 2 | .missed => 3)
    else if sub = 9 then num q.fired
    else none
  else if idx = 0x3000 ∧ sub = 9 then num ((if p.link then 1 else 0) + 16 * p.speed)
  else if idx = 0x3000 ∧ sub = 0xE then
    let w := s.sub.wakeReason
    num (if (e = 0 ∧ (w = 1 ∨ w = 3)) ∨ (e = 4 ∧ (w = 2 ∨ w = 4)) then w else 0)
  else if idx = 0x3120 ∧ sub = 2 then num (firstPending (allPorts.flatMap s.rebuildsOf))
  else if idx = 0x3200 ∧ sub = 0x10 then num (s.isState e)
  else if idx = 0x3400 ∧ sub = 0x10 then num (s.esState e)
  else if idx = 0x3700 ∧ sub = 1 then num (s.own .tdm7).owner
  else if idx = 0x3700 ∧ sub = 2 then bool ((s.own .tdm7).owner == 0x30)
  else if idx = 0x3710 ∧ sub = 5 then bool t.run
  else if idx = 0x3710 ∧ sub = 6 then num (t.frames % 2 ^ 32)
  else if idx = 0x3800 then
    if sub = 1 then num (s.own (.gpio e)).owner
    else if sub = 2 then num (s.ball e).func
    else if sub = 3 then num (s.ball e).pol
    else if sub = 4 then bool (s.ball e).out
    else bool (s.gpioLevel e)
  else if idx = 0x3900 then
    let x := s.st.sap[e]?
    if sub = 1 then some (.bytes ((x.map (·.text)).getD []))
    else if sub = 2 then num ((x.map (·.port)).getD 0)
    else if sub = 3 then num ((x.map (fun v => s.usSince v.us / 1000000)).getD 0)
    else some (.bytes (s.sdpText e))
  else if idx = 0x3C00 then
    let pad := fun (b : List Byte) => some (DVal.bytes (sfpPage b))
    if sub = 1 then bool p.sfp.present
    else if sub = 2 then pad p.sfp.idPage
    else if sub = 3 then pad p.sfp.diag
    else if sub = 4 then num (s.sfpFlags e)
    else num p.sfp.i2cErr
  else if idx = 0x3C10 then num (if sub = 1 then p.anState else if sub = 2 then p.anPartner else p.anFec)
  else if idx = 0x3C20 ∧ sub = 1 then num p.pd.delay
  else if idx = 0x3C20 ∧ sub = 2 then num ((if p.pd.valid then 1 else 0) + (if s.tsMedium e then 0 else 2))
  else if idx = 0x3C20 ∧ sub = 5 then num (s.pdLength e)
  else if idx = 0x3C30 ∧ sub = 3 then num t.rng.state
  else if idx = 0x3C30 ∧ sub = 4 then num t.rng.ns
  else none

/-- The value of a management, session or redundancy entry that mirrors the block's own state. -/
def State.mgmtVal (s : State) (idx sub e : Nat) : Option DVal :=
  let num := fun (n : Nat) => some (DVal.num n)
  let a := s.arb
  let x := s.sess e
  if idx = 0x1020 ∧ sub = 1 then num (if s.sub.storeResetNext then 2 else if s.sub.storeDirty then 1 else if s.sub.storeIgnored then 3 else 0)
  else if idx = 0x1100 ∧ sub = 1 then num s.sub.power.code
  else if idx = 0x6200 ∧ sub = 4 then num (s.csState e)
  else if idx = 0x7000 ∧ sub = 5 then num (firstPending s.layoutPending)
  else if idx = 0x8000 ∧ sub = 2 then some (.bytes (if (s.image e).isEmpty then [] else sha256 (s.image e)))
  else if idx = 0x8000 ∧ sub = 3 then num (if (s.image e).isEmpty then 0 else if s.imageUsed e then 2 else 1)
  else if idx = 0x9010 then
    if sub = 1 then num a.source.toNat
    else if sub = 4 then num a.switches
    else if sub = 5 then num a.holds
    else if sub = 6 then num a.outages
    else if sub = 7 then num a.outageSamples
    else if sub = 8 then num a.divergences
    else if sub = 9 then num a.stagingUe
    else if sub = 0xA then num a.voteCe
    else if sub = 0xB then num a.lastEvent
    else none
  else if idx = 0x9020 ∧ sub = 2 then some (.bytes ((s.irRecord (s.feN 0x9020 1 0)).getD []))
  else if idx = 0x9020 ∧ sub = 3 then num ((s.st.ir.getLast?.map (·.block)).getD 0)
  else if idx = 0xA000 ∧ sub = 1 then num (s.own .cap).owner
  else if idx = 0xB000 ∧ sub = 0xA then num (if s.kao.link && decide (s.usSince s.kao.resultUs < 250000) then 1 else 0)
  else if idx = 0xB020 ∧ sub = 4 then num (if s.kao.unsealed then 1 else 0)
  else if idx = 0xC000 ∧ sub = 5 then some (.bytes s.peerTable)
  else if idx = 0xC100 ∧ sub = 2 then num (s.roleNow e)
  else if idx = 0xC100 ∧ sub = 6 then num (if x.isOpen then (if e = 1 ∧ s.provisioning then 2 else 1) else 0)
  else if idx = 0xC100 ∧ sub = 7 then num (x.peer.ip * 65536 + x.peer.udp)
  else if idx = 0xC300 ∧ sub = 1 then num x.locks.length
  else if idx = 0xC300 ∧ sub = 2 then num x.subs.length
  else if idx = 0xC300 ∧ sub = 3 then num x.conflicts
  else if idx = 0xD000 then
    let all := s.sub.logFlash ++ s.sub.logBuf
    let kept := all.drop (all.length - 65536)
    if sub = 1 then num ((kept.getLast?.map (·.number)).getD 0)
    else if sub = 2 then num ((kept.head?.map (·.number)).getD 0)
    else some (.bytes (((s.sub.logFlash.reverse.find? (fun r => r.number % 65536 == e)).map LogRec.bytes).getD []))
  else none

/-- The value of an entry that mirrors the block's own state; none for a stored entry. -/
def State.liveVal (s : State) (key : Nat) : Option DVal :=
  let idx := keyIdx key
  let sub := keySub key
  let e := keyElem key
  match s.unitVal idx sub e with
  | some v => some (.num v)
  | none =>
    match s.elemVal idx sub e with
    | some v => some (.num v)
    | none =>
      match s.ioVal idx sub e with
      | some v => some v
      | none => s.mgmtVal idx sub e

/-- What a READ of a key returns for receipt index `x` (R357). -/
def State.dictRead (s : State) (key x : Nat) : DVal :=
  match s.liveVal key with
  | some v => v
  | none => valueAt s.dict s.fePend key x

/-- A read of SFP_FLAGS clears ALARM_SEEN (R278). -/
def State.readEffect (s : State) (key : Nat) : State :=
  if keyIdx key = 0x3C00 ∧ keySub key = 4 then
    let p := keyElem key
    let q := s.port p
    s.setPort p { q with sfp := { q.sfp with alarmSeen := q.sfp.alarm } }
  else s

/-- The monitor values are brought into the dictionary (R385). -/
def State.refreshMonitors (s : State) : State :=
  let put := fun (idx sub : Nat) (l : List Int) (m : Assoc DVal) =>
    (List.range l.length).foldl (fun (t : Assoc DVal) i => putVal t (dkey idx sub i) (.num (l.getD i 0))) m
  let p := s.sub
  let d1 := put 0x1200 1 p.temps (put 0x1200 2 p.tempMax s.dict)
  let d2 := put 0x1210 1 (p.volts.map Int.ofNat) (put 0x1220 1 (p.speeds.map Int.ofNat) d1)
  let d3 := p.mon.foldl (fun (t : Assoc DVal) e => putVal t e.1 e.2) d2
  { s with dict := putVal d3 (dkey 0x1310 1 0) (.num p.vset), sub := { p with mon := [] } }

end Sys2Proof.Machine
end

