-- ==== Sys2Proof/Machine/FrontForm.lean ====
section
/-!
DEFINITION. The tests of a write that need its entry alone (R353, R365, R368, R370, R371, R379): its type, the session's
role and tenancy, other sessions' locks, and the value's range.
-/
namespace Sys2Proof.Machine
open Sys2Proof

/-- A write as the front end tests it: the session, the receipt index, the element, the value, APPLY, and whether its type
code, width and extension are right (R353, R358). -/
structure WReq where
  sess : Nat
  x : Nat
  key : Nat
  val : DVal
  apply : Nat
  tyOk : Bool := true
deriving DecidableEq, Repr

/-- The receipt block of a write (R61). -/
def WReq.r (q : WReq) : Nat := q.x / 32

/-! ### Addresses and types (R8, R353) -/

/-- The element exists: it is below the entry's count, and sessions count from 1 (R8, R396). -/
def elemOk (e : DEntry) (elem : Nat) : Bool :=
  decide (elem < e.elems) && !(decide (0xC100 ≤ e.idx) && decide (e.idx ≤ 0xC300) && elem == 0)

/-- The entry that a key addresses, if any. -/
def keyEntry (k : Nat) : Option DEntry :=
  match dictFind (keyIdx k) (keySub k) with
  | some e => if elemOk e (keyElem k) then some e else none
  | none => none

/-- The continuation bytes of a UTF-8 character: the next `n` bytes of a text, of which the first lies in a range. -/
def utf8Tail : Nat → Nat → Nat → List Byte → Option (List Byte)
  | 0, _, _, l => some l
  | _ + 1, _, _, [] => none
  | n + 1, lo, hi, b :: l => if lo ≤ b.toNat ∧ b.toNat ≤ hi then utf8Tail n 0x80 0xBF l else none

/-- One character taken off a UTF-8 text. -/
def utf8Char (b : Nat) (l : List Byte) : Option (List Byte) :=
  if b < 0x80 then some l
  else if 0xC2 ≤ b ∧ b ≤ 0xDF then utf8Tail 1 0x80 0xBF l
  else if b = 0xE0 then utf8Tail 2 0xA0 0xBF l
  else if b = 0xED then utf8Tail 2 0x80 0x9F l
  else if 0xE1 ≤ b ∧ b ≤ 0xEF then utf8Tail 2 0x80 0xBF l
  else if b = 0xF0 then utf8Tail 3 0x90 0xBF l
  else if 0xF1 ≤ b ∧ b ≤ 0xF3 then utf8Tail 3 0x80 0xBF l
  else if b = 0xF4 then utf8Tail 3 0x80 0x8F l
  else none

/-- A text is valid UTF-8, tried for as many characters as it has bytes. -/
def utf8Go : Nat → List Byte → Bool
  | _, [] => true
  | 0, _ => false
  | n + 1, b :: l => match utf8Char b.toNat l with
    | some t => utf8Go n t
    | none => false

/-- A text is valid UTF-8 (R353). -/
def utf8Ok (b : List Byte) : Bool := utf8Go b.length b

/-- A value fits the width of its type (R353). -/
def fitsType (ty : DType) (v : DVal) : Bool :=
  let uns := fun (w : Nat) => match v with
    | .num n => decide (0 ≤ n) && decide (n < 2 ^ w)
    | .bytes _ => false
  let sig := fun (w : Nat) => match v with
    | .num n => decide (-(2 ^ (w - 1)) ≤ n) && decide (n < 2 ^ (w - 1))
    | .bytes _ => false
  match ty with
  | .u w => uns w
  | .i w => sig w
  | .bool => uns 8
  | .str n => match v with
    | .bytes b => decide (b.length ≤ n) && utf8Ok b
    | .num _ => false
  | .ptp80 => uns 80
  | .dom => match v with
    | .bytes _ => true
    | .num _ => false
  | .sidx => uns 64
  | .gain24 => sig 24
  | .db16 => sig 16
  | .dly29 => uns 29
  | .pos32 => sig 32
  | .dir16 => sig 16
  | .c32 => uns 32
  | .coef32 => sig 32

/-! ### Role and tenancy (R370, R371) -/

/-- A member of a bit mask held as bytes (R371). -/
def maskBit (b : List Byte) (i : Nat) : Bool := natBit (b.getD (i / 8) 0).toNat (i % 8)

/-- A member lies in one of a session's tenancies (R371). -/
def State.inTenancy (s : State) (n : Nat) (c : Cls) (i : Nat) : Bool :=
  let t := s.tenancy n
  match c with
  | .object => maskBit t.objects i
  | .set => natBit t.sets i
  | .feed => maskBit t.feeds i
  | .feedOrBus => if i < 1024 then maskBit t.feeds i else maskBit t.buses (i - 1024)
  | .bus => maskBit t.buses i
  | .estream => maskBit t.streams i
  | _ => true

/-- The class of an element for R370: TDM ports other than TDM7 are global (R387). -/
def clsAt (e : DEntry) (elem : Nat) : Cls :=
  match e.cls with
  | .tdm => if elem / e.per = 7 then .resource else .global
  | c => c

/-- What a session's role and tenancy say to a write of an element (R370): OK, ACCESS, TENANCY, or AUTH for role 0. -/
def State.roleTest (s : State) (n : Nat) (e : DEntry) (elem : Nat) : Status :=
  match s.role n with
  | 0 => .auth
  | 1 => .access
  | 2 =>
    match clsAt e elem with
    | .global | .none => .access
    | .ownSnapshot => if elem = n then .ok else .access
    | .user | .resource | .tdm => .ok
    | c => if s.inTenancy n c (elem / e.per) then .ok else .tenancy
  | _ => .ok

/-- A lock covers a key (R365). -/
def DLock.has (l : DLock) (k : Nat) : Bool := covers l.idx l.sub l.elem l.count k

/-- Another session holds a lock on the element; reverts of session 0 meet no lock (R365, R372). -/
def State.lockedBy (s : State) (n k : Nat) : Bool :=
  n != 0 && sessionIds.any (fun m => m != n && (s.sess m).locks.any (fun l => l.has k))

/-! ### Ranges -/

/-- A source of R167: a feed, object or aux, a bus for egress channels only, or none. -/
def srcOk (bus : Bool) (v : Int) : Bool :=
  (decide (0 ≤ v) && decide (v < 0x900)) || (bus && decide (0x900 ≤ v) && decide (v < 0xA00)) || v == 0xFFFF

/-- A CAP_SRC value: an island channel, a TDM input slot, or none (R286). -/
def capSrcOk (v : Int) : Bool :=
  (decide (0 ≤ v) && decide (v < 4)) || (decide (0x1000 ≤ v) && decide (v < 0x1100)) || v == 0xFFFF

/-- A mask has its ones before its zeros (R300). -/
def contiguous (m : Nat) : Bool :=
  let z := 0xFFFFFFFF - m
  z &&& (z + 1) == 0

/-- The largest bulk delay at a rate (R151). -/
def bulkLimit (rate : Nat) : Nat := if rate = 96000 then 196608 else 98304

/-- The slots of a TDM frame that exist at a rate (R283, R336). -/
def slotsAt (rate : Nat) : Nat := if rate = 96000 then 16 else 32

/-- Ranges that depend on the element or on other values in force. -/
def State.specialRange (s : State) (k x : Nat) (v : DVal) : Bool :=
  let idx := keyIdx k
  let sub := keySub k
  let e := keyElem k
  let n := v.toInt
  let within := fun (lo hi : Int) => decide (lo ≤ n) && decide (n ≤ hi)
  if idx = 0x2010 ∧ sub = 5 then within 0 4 || n == 255
  else if idx = 0x2010 ∧ sub = 0xA then decide (v.toNat % 2 ^ 32 < 1000000000)
  else if idx = 0x3000 then
    if sub = 1 then (if e = 4 then n == 0 || within 8 11 else within 0 4)
    else if sub = 7 then contiguous v.toNat
    else if sub = 0xA ∨ sub = 0xB then e == 4 && within 0 10000
    else if sub = 0xC then (e == 0 || e == 4) && within 0 1
    else if sub = 0xD then (e == 0 || e == 4) && v.toBytes.length == 16
    else true
  else if idx = 0x3100 ∧ sub = 2 then within 0 3 || n == 255
  else if idx = 0x3110 then n == 0 || (decide (n < 2 ^ 48) && natBit v.toNat 40)
  else if idx = 0x3300 then within 0 1279 || n == 0xFFFF
  else if idx = 0x3500 ∧ sub = 1 then srcOk true n
  else if idx = 0x3C30 ∧ sub = 2 then within 0 (slotsAt s.rate - 1 : Nat)
  else if idx = 0x6000 ∧ sub = 4 then decide (v.toNat ≤ bulkLimit s.rate)
  else if idx = 0x6000 ∧ sub = 6 then within 0 7 || n == 255
  else if idx = 0x8410 ∧ sub = 1 then srcOk false n
  else if idx = 0x9020 ∧ sub = 1 then (s.irRecord v.toNat).isSome
  else if idx = 0xC100 then v.toBytes.length == 32
  else if idx = 0xC200 then
    v.toBytes.length == (match sub with
      | 1 | 3 => 128
      | 4 => 32
      | _ => 16)
  else if idx = 0xA000 ∧ sub = 2 then capSrcOk n
  else if idx = 0xA010 ∧ sub = 2 then decide (10 ≤ n) && decide (v.toNat < s.atKey (dkey 0xA010 3 0) x)
  else if idx = 0xA010 ∧ sub = 3 then decide (s.atKey (dkey 0xA010 2 0) x < v.toNat) && decide (2 * v.toNat ≤ s.rate)
  else if idx = 0xA020 ∧ sub = 3 then decide (v.toNat < s.atKey (dkey 0xA020 2 0) x)
  else if idx = 0xA030 ∧ sub = 2 then n == 0 || within 0x4000 0x3E80000
  else true

/-- The value lies in its entry's range (R368, step 7, but for the apply index and the limits of several entries). -/
def State.rangeTest (s : State) (e : DEntry) (q : WReq) : Bool :=
  let n := q.val.toInt
  match e.rng with
  | .any => true
  | .bool => n == 0 || n == 1
  | .lohi lo hi => decide (lo ≤ n) && decide (n ≤ hi)
  | .oneof l => l.contains n
  | .len lo hi => decide (lo ≤ (q.val.toBytes.length : Int)) && decide ((q.val.toBytes.length : Int) ≤ hi)
  | .xf => n == 0 || (decide (32 ≤ n) && decide (n ≤ 4096))
  | .ch1280 => (decide (0 ≤ n) && decide (n < 1280)) || n == 0xFFFF
  | .grp8 => (decide (0 ≤ n) && decide (n < 8)) || n == 255
  | .gpio24 => (decide (0 ≤ n) && decide (n < 24)) || n == 255
  | .special => s.specialRange q.key q.x q.val

end Sys2Proof.Machine
end

