-- ==== Sys2Proof/Machine/FrontAdmit.lean ====
section
/-!
DEFINITION. What the front end counts before it accepts a write (R103 to R106, R170 to R173, R197 to R199, R265, R326, R328,
R334): every test reads the configuration as it will stand with the write.
-/
namespace Sys2Proof.Machine
open Sys2Proof

/-! ### The configuration with a write accepted (R63, R373) -/

/-- The front end's pending writes as they stand with one more accepted. -/
def State.tent (s : State) (j : JRec) : State :=
  match s.standing j.key j.apply with
  | none => { s with fePend := s.fePend ++ [{ j with wins := true }] }
  | some old =>
    if old.session = j.session ∨ winsOver j.session j.prio old then
      { s with fePend := s.fePend.map (JRec.lose old.jseq) ++ [{ j with wins := true }] }
    else s

/-- The pending writes that stand, with a key that passes a test. -/
def State.pendKeys (s : State) (p : Nat → Bool) : List JRec := s.fePend.filter (fun j => j.wins && p j.key)

/-- The apply indices from a write's own on at which pending writes of entries with a key test apply. -/
def State.indicesFrom (s : State) (p : Nat → Bool) (a : Nat) : List Nat :=
  (a :: (s.pendKeys p).filterMap (fun j => if a < j.apply then some j.apply else none)).eraseDups

/-- The apply blocks of pending writes from a block on. -/
def State.pendBlocks (s : State) (n : Nat) : List Nat :=
  (n :: (s.fePend.filter (fun j => j.wins && decide (n ≤ j.apply / 32))).map (fun j => j.apply / 32)).eraseDups

/-! ### Changes of routes and filters (R170 to R173, R197 to R199) -/

/-- The changes of routes and filters that a key test selects: those that run and those that pending writes will make. -/
def State.fadesOf (s : State) (p : Nat → Bool) : List Fade :=
  ((s.dam.fades.filter (fun f => p f.key && s.fadeRuns f)) ++
    (s.pendKeys p).filterMap (fun j => if s.tb.sidx < j.apply then s.changeOf j.key j.apply else none)).eraseDups

/-- A route of the feed-chain class (R170). -/
def chainRoute (k : Nat) : Bool :=
  let i := keyIdx k
  let b := keySub k
  (i == 0x4000 && b == 3) || (i == 0x6000 && b == 4) || (i == 0x8410 && b == 1)

/-- A route of the egress class (R170). -/
def egressRoute (k : Nat) : Bool := keyIdx k == 0x3500 && keySub k == 1

/-- The change occupies a block; a hard switch occupies none (R172). -/
def Fade.occupies (f : Fade) (n : Nat) : Bool :=
  decide (0 < f.len) && decide (f.start / 32 ≤ n) && decide (n ≤ (f.start + f.len - 1) / 32)

/-- No block from `n` on holds more than `limit` of the changes. -/
def fadesFit (l : List Fade) (limit n : Nat) : Bool :=
  (n :: (l.filter (fun f => decide (n ≤ f.start / 32))).map (fun f => f.start / 32)).all (fun b =>
    decide ((l.filter (fun f => f.occupies b)).length ≤ limit))

/-- The crossfade budgets of R172 hold from block `n` on. -/
def State.routesFit (s : State) (n : Nat) : Bool :=
  fadesFit (s.fadesOf chainRoute) 128 n && fadesFit (s.fadesOf egressRoute) 256 n

/-- Two changes of one route overlap: one begins while the other still fades (R173). -/
def fadesClash (l : List Fade) : Bool :=
  l.any (fun f => l.any (fun g => decide (f.start < g.start) && decide (g.start < f.start + f.len)))

/-- A route's changes do not overlap (R170, R173). -/
def State.routeOk (s : State) (k : Nat) : Bool := !fadesClash (s.fadesOf (· == k))

/-- The blocks of a filter change: the first and the last (R197). -/
def Fade.blocks (f : Fade) : Nat × Nat := (f.start / 32, if f.len = 0 then f.start / 32 else (f.start + f.len - 1) / 32)

/-- A feed's CORR_SLOT key. -/
def corrKey (f : Nat) : Nat := dkey 0x6000 6 f

/-- The filter changes of a feed: those that run, those of pending CORR_SLOT writes, and those of pending commits (R197). -/
def State.corrFades (s : State) (f : Nat) : List Fade :=
  let commits := (List.range 8).filterMap s.commitAt
  (s.fadesOf (· == corrKey f) ++
    commits.filterMap (fun a => if s.tb.sidx < a then s.changeOf (corrKey f) a else none)).eraseDups

/-- A feed takes part in at most one change in every block (R198). -/
def corrClash (l : List Fade) : Bool :=
  l.any (fun f => l.any (fun g => f != g && decide (f.start < g.start) && decide (g.blocks.1 ≤ f.blocks.2)))

/-- The feeds that a correction write concerns: its feed, or the feeds of a committed slot (R198). -/
def State.corrFeeds (s : State) (k a : Nat) : List Nat :=
  if keyIdx k = 0x6200 then (List.range 1024).filter (fun f => s.atKey (corrKey f) a == keyElem k) else [keyElem k]

/-- The feeds whose change into or out of a slot occupies a block (R198). -/
def State.slotBusy (s : State) (k n : Nat) : Bool :=
  (List.range 1024).any (fun f => (s.corrFades f).any (fun c =>
    decide (c.blocks.1 ≤ n) && decide (n ≤ c.blocks.2) && (c.old == k || s.atKey (corrKey f) c.start == k)))

/-- The pending writes without the one that stands at a key and an apply index, which a further write there replaces (R63). -/
def State.without (s : State) (k a : Nat) : State :=
  { s with fePend := s.fePend.filter (fun j => !(j.key == k && j.apply == a && j.wins)) }

/-- Two changes occupy a block in common (R198). -/
def Fade.meets (f g : Fade) : Bool := decide (f.blocks.1 ≤ g.blocks.2) && decide (g.blocks.1 ≤ f.blocks.2)

/-- The change that a feed starts at an index, `s` being the state with the write and `before` the state without it, occupies a
block that an earlier accepted change of the feed occupies (R198). -/
def State.corrMeets (s before : State) (f a : Nat) : Bool :=
  match s.changeOf (corrKey f) a with
  | some c => (before.corrFades f).any c.meets
  | none => false

/-- A correction write passes R198: `before` is the state without it. A write of the length of a change starts none of its
own. -/
def State.corrOk (s before : State) (k a : Nat) : Bool :=
  let prior := before.without k a
  let commit := keyIdx k == 0x6200
  let starts := commit || keySub k == 6
  (s.corrFeeds k a).all (fun f => !corrClash (s.corrFades f) && !(starts && s.corrMeets prior f a)) &&
    !(commit && prior.slotBusy (keyElem k) (a / 32))

/-- Every filter change that runs or is pending. -/
def State.allCorr (s : State) : List Fade := (List.range 1024).flatMap s.corrFades

/-- The budget of R199 at a rate. -/
def corrBudget (rate : Nat) : Nat := if rate = 96000 then 125000 else 250000

/-- The budget of R199 holds from block `n` on. -/
def State.corrFits (s : State) (n : Nat) : Bool :=
  let l := s.allCorr
  (n :: (l.filter (fun f => decide (n ≤ f.blocks.1))).map (fun f => f.blocks.1)).all (fun b =>
    decide (((l.filter (fun f => decide (f.blocks.1 ≤ b) && decide (b ≤ f.blocks.2))).map (fun f => f.cost)).sum ≤ corrBudget s.rate))

/-! ### Pair units (R103 to R106) -/

/-- The masks under which an object forms pairs in a block: its own, and a former one while its change runs (R103). -/
def State.maskAt (s : State) (fades : List Fade) (o n : Nat) : Nat :=
  let k := dkey 0x4000 3 o
  (fades.filter (fun f => f.key == k && decide (f.start ≤ 32 * n) && decide (32 * n < f.start + f.len))).foldl
    (fun m f => m ||| f.old) (s.atKey k (32 * n))

/-- An object's enable and masks in a block, none where it forms no pair. -/
def State.objMask (s : State) (fades : List Fade) (o n : Nat) : Nat :=
  if s.atKey (dkey 0x4000 1 o) (32 * n) = 1 then s.maskAt fades o n else 0

/-- The cost of an object's pairs in a block (R104). -/
def State.pairCost (s : State) (o n : Nat) : Nat :=
  if s.atKey (dkey 0x4000 5 o) (32 * n) = 0 ∧ s.atKey (dkey 0x4000 6 o) (32 * n) = 0 then 1 else 2

/-- The pair units of every tile in a block: pairs formed in it or in the block before it (R102, R104, R105). -/
def State.tileLoads (s : State) (n : Nat) : List Nat :=
  let fades := s.fadesOf (fun k => keyIdx k == 0x4000 && keySub k == 3)
  let objs := (List.range 1024).map (fun o => (s.objMask fades o n, s.objMask fades o (n - 1), s.pairCost o n))
  let live := objs.filter (fun p => p.1 != 0 || p.2.1 != 0)
  let sets := fun (f m : Nat) => s.atKey (dkey 0x5000 7 f) (32 * m)
  (List.range 64).map (fun t => ((List.range 16).map (fun i =>
    let now := sets (16 * t + i) n
    let was := sets (16 * t + i) (n - 1)
    (live.map (fun p => if p.1 &&& now ≠ 0 ∨ p.2.1 &&& was ≠ 0 then p.2.2 else 0)).sum)).sum)

/-- The capacity of a tile at a rate (R105). -/
def tileCap (rate : Nat) : Nat := if rate = 96000 then 16384 else 32768

/-- Some tile exceeds a capacity. -/
def overCap (cap : Nat) (l : List Nat) : Bool := l.any (fun v => decide (cap < v))

/-- Some tile of a list has more units than in another. -/
def anyMore : List Nat → List Nat → Bool
  | a :: l, b :: m => decide (b < a) || anyMore l m
  | _, _ => false

/-- Pair admission of a write from block `n` on (R106): `s` is the state with it, `before` the state without it. -/
def State.pairsFit (s before : State) (n : Nat) : Bool :=
  let bs := s.pendBlocks n
  let exceeds := bs.any (fun b => overCap (tileCap s.rate) (s.tileLoads b))
  !exceeds || !(bs.any (fun b => anyMore (s.tileLoads b) (before.tileLoads b)))

/-- An entry whose write changes pair units (R106). -/
def pairKey (k : Nat) : Bool :=
  let i := keyIdx k
  let b := keySub k
  (i == 0x4000 && (b == 1 || b == 3 || b == 5 || b == 6)) || (i == 0x5000 && b == 7)

/-! ### Streams and TDM ports (R326, R328, R334) -/

/-- Two source filters overlap (R326). -/
def sourcesMeet (a b : Nat) : Bool := a == b || a == 0 || b == 0

/-- The port of a stream's leg, of the ingress entries at 0x3200 or the egress entries at 0x3400 (R319). -/
def State.legPort (s : State) (idx x l : Nat) : Nat := 2 * s.feAt x idx 2 (l / 2) + l % 2

/-- An enabled leg of a stream's direction. -/
def State.legUsed (s : State) (idx x l : Nat) : Bool :=
  s.feAt x idx 1 (l / 2) == 1 && natBit (s.feAt x idx 3 (l / 2)) (l % 2)

/-- No other enabled leg claims the same packets (R326). -/
def State.legUnique (s : State) (x l : Nat) : Bool :=
  !s.legUsed 0x3200 x l || (List.range 256).all (fun m =>
    m == l || !s.legUsed 0x3200 x m || s.legPort 0x3200 x m != s.legPort 0x3200 x l ||
      s.feAt x 0x3210 1 m != s.feAt x 0x3210 1 l || s.feAt x 0x3210 2 m != s.feAt x 0x3210 2 l ||
      !sourcesMeet (s.feAt x 0x3210 3 m) (s.feAt x 0x3210 3 l))

/-- An ingress stream passes the tests of R326 at its apply index. -/
def State.ingressOk (s : State) (x i : Nat) : Bool := s.rangeOk x i && s.legUnique x (2 * i) && s.legUnique x (2 * i + 1)

/-- A stream of a direction is enabled and has a leg on a port (R300). -/
def State.portUsed (s : State) (x p : Nat) : Bool :=
  ([0x3200, 0x3400] : List Nat).any (fun idx =>
    (List.range 256).any (fun l => s.legUsed idx x l && s.legPort idx x l == p))

/-- An egress stream's packets fit MAX_FRAME of the ports of its legs (R328). -/
def State.packetFits (s : State) (x i : Nat) : Bool :=
  let n := packetSamples (s.feAt x 0x3400 6 i) s.rate
  let len := 58 + n * s.feAt x 0x3400 5 i * wireBytes (s.feAt x 0x3400 4 i)
  ([2 * i, 2 * i + 1] : List Nat).all (fun l =>
    !s.legUsed 0x3400 x l || decide (len ≤ s.atKey (dkey 0x3000 4 (s.legPort 0x3400 x l)) x))

/-- The egress limits of R328 hold in one half. -/
def State.halfFits (s : State) (x pair : Nat) : Bool :=
  let l := (List.range 128).filter (fun i => s.feAt x 0x3400 1 i == 1 && s.feAt x 0x3400 2 i == pair)
  let pps := (l.map (fun i => s.rate / packetSamples (s.feAt x 0x3400 6 i) s.rate)).sum
  decide ((l.map (fun i => s.feAt x 0x3400 5 i)).sum ≤ 1280) && decide (pps ≤ 1024000)

/-- The egress limits of R328 hold in both halves. -/
def State.egressFits (s : State) (x : Nat) : Bool := s.halfFits x 0 && s.halfFits x 1

/-- An entry of the egress streams. -/
def egressKey (k : Nat) : Bool := keyIdx k == 0x3400

/-- The destination address of an ingress leg is a group, or the IPV4_ADDR of the port that the leg has at the write's apply
index (R326). -/
def State.dstRange (s : State) (k x v : Nat) : Bool :=
  keyIdx k != 0x3210 || keySub k != 1 || isMulticast v || v == s.feN 0x3000 6 (s.legPort 0x3200 x (keyElem k))

/-- The ranges that a write of several entries must keep at its apply index, and the size of an egress stream's packets at the
indices of the writes pending behind it too (R326, R328, R334). -/
def State.groupRange (s : State) (k x : Nat) : Bool :=
  let idx := keyIdx k
  let sub := keySub k
  let e := keyElem k
  if idx = 0x3200 ∧ sub ≤ 8 then s.ingressOk x e
  else if idx = 0x3210 ∧ sub ≤ 3 then s.ingressOk x (e / 2)
  else if idx = 0x3400 ∧ sub ≤ 0xD then
    (s.indicesFrom egressKey x).all (fun y => s.feAt y 0x3400 1 e != 1 || s.packetFits y e)
  else if idx = 0x3710 ∧ (sub = 2 ∨ sub = 4) then s.tdmFree x e
  else if idx = 0x3710 ∧ sub = 1 then s.rangeOk x (128 + e)
  else true

/-! ### Novil graphs (R265) -/

/-- The staged job graph. -/
def State.stagedGraph (s : State) : List NvJob := graphJobs (s.fe (dkey 0x8010 1 0)).toBytes

/-- The staged graph is admitted (R265). -/
def State.graphFits (s : State) : Bool := graphAdmitted s.rate s.image s.srcUnit.nv.graph s.stagedGraph

end Sys2Proof.Machine
end

