-- ==== Sys2Proof/Machine/FrontTest.lean ====
section
/-!
DEFINITION. The tests that the front end makes of a write, in the order of R368, and the apply index that it assigns (R61,
R62, R64, R358).
-/
namespace Sys2Proof.Machine
open Sys2Proof

/-! ### Leads (R61, R64, R73, R193, R266, R330) -/

/-- The lead of an entry in blocks at the rate in force, at least 2 (R61, R376). -/
def leadOf (rate : Nat) (l : Lead) : Nat :=
  let hi := decide (rate = 96000)
  match l with
  | .none => 2
  | .fixed n => max 2 n
  | .network => if hi then 16 else 8
  | .layout => if hi then 40 else 20
  | .graph => if hi then 1536 else 768

/-- An ingress entry whose write also changes the filter tables (R306). -/
def filterKey (k : Nat) : Bool :=
  let i := keyIdx k
  let b := keySub k
  (i == 0x3200 && (b == 1 || b == 2 || b == 3)) || (i == 0x3210 && (b == 1 || b == 3))

/-- The pending record that a write would make. -/
def State.recOf (s : State) (q : WReq) (a : Nat) : JRec :=
  { jseq := s.sub.jseq, apply := a, session := q.sess, kind := 0, key := q.key, val := q.val, prio := s.prio q.sess }

/-- The rebuilds of ports' filter tables that a write makes, as an index and a port: that of a filter entry's port, those of
the ports whose groups a write of an ingress stream changes at its own index, and those of the ports whose groups then change
at the index of a write that is pending behind it (R306). -/
def State.filterRebuilds (s : State) (j : JRec) : List (Nat × Nat) :=
  let i := keyIdx j.key
  if i = 0x3100 then [(j.apply, keyElem j.key / 32)]
  else if i = 0x3110 then [(j.apply, keyElem j.key / 64)]
  else if filterKey j.key then
    let t := s.tent j
    let moves := fun (x p : Nat) =>
      if x = j.apply then s.groupsAt p x != t.groupsAt p x
      else !(s.rebuildsOf p).contains (x / 32) && t.groupsAt p (x - 1) != t.groupsAt p x
    (s.indicesFrom filterKey j.apply).flatMap (fun x =>
      (([0, 1, 2, 3] : List Nat).filter (moves x)).map (fun p => (x, p)))
  else []

/-- The switch blocks of pending rebuilds of the table of an entry, but for the ports' filter tables. -/
def State.tblPending (s : State) (t : Tbl) : List Nat :=
  let of_ := fun (u : Tbl) =>
    (s.fePend.filter (fun j => ((dictFind (keyIdx j.key) (keySub j.key)).map (·.tbl)) == some u)).map (fun j => j.apply / 32)
  match t with
  | .none => []
  | .filter => []
  | .ingress => of_ .ingress
  | .egress => of_ .egress
  | .layout => s.layoutPending

/-- The tables that a write at index `a` rebuilds, each as the block at which it switches and the blocks of the rebuilds of it
that are pending (R64, R330). -/
def State.tableWaits (s : State) (e : DEntry) (q : WReq) (a : Nat) : List (Nat × List Nat) :=
  let late := fun (l : List Nat) => l.filter (fun b => decide (s.tb.sidx < 32 * b))
  (a / 32, late (s.tblPending e.tbl)) :: (s.filterRebuilds (s.recOf q a)).map (fun p => (p.1 / 32, late (s.rebuildsOf p.2)))

/-- The block from which a table's lead counts: a write that joins a pending rebuild counts from its own receipt block
(R64, R73, R330). -/
def leadFrom (r : Nat) (join : Option Nat) (l : List Nat) : Nat :=
  match join with
  | some b => if b ∈ l then r else l.foldl max r
  | none => l.foldl max r

/-- The block from which the lead of a commit counts where a change still reads the slot's other copy (R193). -/
def State.slotFrom (s : State) (k : Nat) : Nat :=
  match (if k = dkey 0x6200 2 (keyElem k) then aget? s.dam.csEnd (keyElem k) else none) with
  | some b => b + 1
  | none => 0

/-- A write at apply index `a` does not meet its lead: that of the entry and that of every table it rebuilds, of which only the
rebuild at its own index may be one it joins (R61, R64, R193, R330). -/
def State.lateAt (s : State) (e : DEntry) (q : WReq) (join : Option Nat) (a : Nat) : Bool :=
  let d := leadOf s.rate e.lead
  decide (a / 32 < max q.r (s.slotFrom q.key) + d) ||
    (s.tableWaits e q a).any (fun w => decide (w.1 < leadFrom q.r (if w.1 = a / 32 then join else some w.1) w.2 + d))

/-- The block that the front end assigns to a write with APPLY 0: the first at which it is not late (R61, R64). It is the one
of the lead from the receipt block, or one that a pending write or rebuild, or a busy slot, moves it to. -/
def State.earliest (s : State) (e : DEntry) (q : WReq) : Nat :=
  let d := leadOf s.rate e.lead
  let first := q.r + d
  let pend := s.slotFrom q.key :: (s.fePend.map (fun j => j.apply / 32) ++ allPorts.flatMap s.rebuildsOf)
  ((first :: pend.flatMap (fun c => [c, c + d])).filter (fun b =>
    decide (first ≤ b) && !s.lateAt e q none (32 * b))).min?.getD first

/-! ### Entries that the render units take without an apply index of their own (R358) -/

/-- An rw or wo entry that a render unit uses: its write is journaled (R358). -/
def journaledRw (k : Nat) : Bool :=
  let i := keyIdx k
  let b := keySub k
  (i == 0x4000 && b == 0x31) || (i == 0x6000 && b == 8) || (i == 0x6400 && b == 0x12) || (i == 0x8200 && b == 3) ||
    (i == 0x8210 && b == 5) || (i == 0xE100 && b == 3) || (i == 0x9000 && b == 0xB) || (i == 0x8000 && (b == 1 || b == 4)) ||
    (i == 0x6200 && (b == 1 || b == 3)) || (i == 0x8010 && b == 1) || i == 0x4100 || (i == 0xE000 && b == 7) || gridKey k

/-! ### Owned resources (R28 to R37, R67, R335, R389) -/

/-- The resource whose owner entry a key is (R34). -/
def ownerRes (k : Nat) : Option Res :=
  let e := keyElem k
  if k = dkey 0x2100 1 e then some (.tt e)
  else if k = dkey 0x3700 1 0 then some .tdm7
  else if k = dkey 0x3800 1 e then some (.gpio e)
  else if k = dkey 0xA000 1 0 then some .cap
  else none

/-- The resource that a write of a key configures (R36). -/
def configRes (k : Nat) : Option Res :=
  let i := keyIdx k
  let b := keySub k
  let e := keyElem k
  if i = 0x2100 ∧ b ≠ 1 then some (.tt e)
  else if i = 0x3800 ∧ b ≠ 1 then some (.gpio e)
  else if (i = 0x3710 ∧ e = 7) ∨ (i = 0x3720 ∧ e / 32 = 7) then some .tdm7
  else none

/-- The test of a write of an owner entry (R32 to R34). -/
def State.ownerTest (s : State) (n : Nat) (r : Res) (v : Nat) : Status :=
  let o := (s.own r).owner
  if v = n then (if idOfRes r n = false then .access else if o = 0 ∨ o = n then .ok else .busy)
  else if v ≠ 0 then .access
  else if o = 0 ∨ o = n then .ok
  else if s.role n = 3 ∧ ((1 ≤ o ∧ o ≤ 0x10) ∨ o = 0x30) then .ok
  else .busy

/-- The trigger field that a key writes. -/
def trigFieldOf (k : Nat) : Option TrigField :=
  if keyIdx k ≠ 0x2100 then none
  else match keySub k with
    | 2 => some .action
    | 3 => some .target
    | 5 => some .period
    | 6 => some .count
    | 7 => some .width
    | _ => none

/-- The test that an owned resource's own rules make of a configuration write, apart from its owner and lead (R66 to R69). -/
def State.resTest (s : State) (q : WReq) : Status :=
  let t := keyElem q.key
  match trigFieldOf q.key with
  | some f => s.trigFieldTest q.sess t f q.val.toNat
  | none => if q.key = dkey 0x2100 4 t then s.armTest q.sess t q.val.toNat else .ok

/-! ### State tests (step 8 of R368) -/

/-- A unit is in step with health 12 or more: in RENDER as its last block showed, outside it when it will enter (R214,
R239). -/
def State.inStep (s : State) (u : UnitId) : Bool :=
  if s.rendering then s.sourceOk u.other else s.unitState u ≤ 1

/-- A health cap, an enable, a resynchronisation, a promotion or an update is forbidden now (R212, R234, R239). -/
def State.unitForbids (s : State) (sub e : Nat) (v : Int) : Bool :=
  let u : UnitId := if e = 0 then .a else .b
  let h := (s.unit u).hl
  let other := s.inStep u.other
  match sub with
  | 4 => decide (v < 12) && !other
  | 5 => !h.returning
  | 6 => h.need || h.resync.phase != 0 || s.unitState u == 3 || !other
  | 7 => v == 0 && !other
  | _ => false

/-- An UPDATE of a unit is forbidden now (R234). -/
def State.updateForbids (s : State) (u : UnitId) : Bool :=
  match s.sub.stagedRegion with
  | none => true
  | some g =>
    let c := imgClass (s.sub.ctrlRegions.getD g [])
    s.feN 0xD100 2 1 != 2 || c != s.ua.hl.resultClass || c != s.ub.hl.resultClass || !s.inStep u.other ||
      (s.unit u.other).hl.update == 1 || (s.unit u.other).hl.update == 2

/-- Every sensor reads below 110 degrees (R452). -/
def State.cool (s : State) : Bool := s.sub.temps.all (fun t => decide (t < 0x6E00))

/-- A RENDER write of 1 is pending (R444). -/
def State.renderPending (s : State) : Bool :=
  s.fePend.any (fun j => j.key == dkey 0x1100 3 0 && j.wins && j.val == .num 1)

/-- A write to a role or a credential would take away the last administrator (R370). -/
def State.lastAdmin (s : State) (k : Nat) (v : DVal) : Bool :=
  !s.provisioning && { s with dict := putVal s.dict k v }.provisioning

/-- The state of the device or of the entry forbids the write (R368, step 8). -/
def State.stateForbids (s : State) (q : WReq) : Bool :=
  let i := keyIdx q.key
  let b := keySub q.key
  let e := keyElem q.key
  let v := q.val.toInt
  if i = 0x1100 ∧ b = 2 then
    if v = 3 then s.sub.tripLatched && !s.cool else s.rendering || s.renderPending
  else if i = 0x1100 ∧ b = 3 then
    if v = 1 then s.sub.power != .ready || s.sub.transition.isSome || s.ptp.lock != .locked || s.sub.tripLatched
    else !s.rendering
  else if i = 0x2001 then s.rateForbids q.val.toNat
  else if i = 0x2002 then s.rendering
  else if i = 0x3000 ∧ b ≤ 8 ∧ b ≠ 5 then s.portUsed q.x e
  else if i = 0x3710 ∧ b = 1 then v == 1 && (s.tdmPort e).run
  else if i = 0x3710 ∧ (b = 2 ∨ b = 3) then (s.tdmPort e).run
  else if i = 0x3C30 ∧ b = 1 then v == 1 && !(s.tdmPort e).run
  else if i = 0x6200 ∧ b = 2 then
    s.feN 0x6210 1 0 != 2 || s.feN 0x6210 2 0 != e || setRate ((s.dam.csStage.map (·.2)).getD []) != s.rate
  else if i = 0x6200 ∧ b = 3 then s.rendering || (s.commitAt e).isSome
  else if i = 0x8010 ∧ b = 2 then
    s.feN 0x8010 3 0 != 1 || graphRate (s.fe (dkey 0x8010 1 0)).toBytes != s.rate
  else if i = 0x9000 then s.unitForbids b e v
  else if i = 0x9030 ∧ b = 2 then s.updateForbids (if e = 0 then .a else .b)
  else if i = 0xA020 ∧ b = 4 then s.nlSurvJob.isNone
  else if i = 0xB030 ∧ b = 2 then s.feN 0xB030 3 0 != 2
  else if i = 0xC100 ∧ (b = 1 ∨ b = 2) then s.lastAdmin q.key q.val
  else if i = 0xD100 ∧ b = 5 then s.feN 0xD100 2 0 != 2
  else if i = 0xD100 ∧ b = 7 then s.rendering || s.feN 0xD100 2 1 != 2
  else false

/-- The route or filter rules refuse the write with STATE (R170, R173, R197, R198): `t` is the state with it. -/
def State.changeForbids (s t : State) (k a : Nat) : Bool :=
  let e := keyElem k
  let i := keyIdx k
  if k = dkey 0x6000 6 e ∨ k = dkey 0x6000 9 e ∨ k = dkey 0x6200 2 e then !(t.corrOk s k a)
  else if (lenKey? k).isSome then !(t.routeOk k)
  else if i = 0x4000 ∧ keySub k = 0x36 then !(t.routeOk (dkey 0x4000 3 e))
  else if i = 0x6000 ∧ keySub k = 5 then !(t.routeOk (dkey 0x6000 4 e))
  else if i = 0x8410 ∧ keySub k = 3 then !(t.routeOk (dkey 0x8410 1 e))
  else if i = 0x3500 ∧ keySub k = 3 then !(t.routeOk (dkey 0x3500 1 e))
  else false

/-! ### Busy tests (step 9 of R368) -/

/-- A unit waits for, or is in, phase 1 of a resynchronisation (R228). -/
def State.resyncHolds (s : State) : Bool :=
  s.rendering && ([UnitId.a, UnitId.b] : List UnitId).any (fun u =>
    let h := (s.unit u).hl
    h.enabled && h.loaded && (h.need || h.resync.phase == 15 || h.resync.phase == 1))

/-- A write that starts a double-buffered rebuild or commits an image (R228). -/
def startsRebuild (e : DEntry) (k : Nat) : Bool :=
  e.tbl != .none || k == dkey 0x6200 2 (keyElem k) || k == dkey 0x8010 2 0

/-- A resource that the write needs is in use (R368, step 9). -/
def State.busyFor (s : State) (e : DEntry) (q : WReq) (a : Nat) : Bool :=
  let i := keyIdx q.key
  let b := keySub q.key
  let k := keyElem q.key
  let n := q.val.toNat
  let own : Bool := match configRes q.key with
    | some r => !s.configOk r q.sess
    | none => false
  let entry : Bool :=
    if i = 0x3300 ∧ b = 2 ∧ 252 ≤ k then s.capOn
    else if i = 0x3C30 ∧ b = 1 then
      n == 1 && ((s.tdmPort k).rng.state == 1 || (k == 7 && !s.configOk .tdm7 q.sess) || ([q.x, q.x - 32 * s.latency] : List Nat).any (fun x =>
        s.feAt x 0x3720 1 (32 * k + s.feAt q.x 0x3C30 2 k) != 0xFFFF))
    else if i = 0x6620 ∧ b = 1 then
      n != 255 && ((s.own (.gpio n)).owner != q.sess ||
        (List.range 8).any (fun g => g != k && s.atKey (dkey 0x6620 1 g) a == n))
    else if i = 0x8000 ∧ b = 4 then s.imageUsed k
    else if 0xA000 ≤ i ∧ i ≤ 0xA030 then s.survRuns
    else if i = 0xB010 ∧ b = 1 then s.feN 0xB010 3 0 == 1
    else false
  own || entry || (startsRebuild e q.key && s.resyncHolds) || ((e.acc == .rwa || journaledRw q.key) && s.ringFull)

/-! ### The whole test -/

/-- The front end's configuration with a write accepted. -/
def State.withWrite (s : State) (e : DEntry) (q : WReq) (a : Nat) : State :=
  if e.acc = .rwa then s.tent (s.recOf q a) else { s with dict := putVal s.dict q.key q.val }

/-- The write would exceed a budget (R368, step 12; R62, R106, R172, R199, R265, R328). -/
def State.overBudget (s t : State) (e : DEntry) (q : WReq) (a : Nat) : Bool :=
  let k := q.key
  let i := keyIdx k
  let el := keyElem k
  let n := a / 32
  let full := (e.acc == .rwa || journaledRw k) && decide (16384 ≤ s.pendingCount)
  let pairs := pairKey k && !t.pairsFit s n
  let routes := ((lenKey? k).isSome || k == dkey 0x4000 0x36 el || k == dkey 0x6000 5 el || k == dkey 0x8410 3 el ||
    k == dkey 0x3500 3 el) && k != dkey 0x6000 6 el && !t.routesFit n
  let corr := (k == dkey 0x6000 6 el || k == dkey 0x6000 9 el || k == dkey 0x6200 2 el) && !t.corrFits n
  let egress := i == 0x3400 && (s.indicesFrom egressKey a).any (fun x => !t.egressFits x && !(!s.egressFits x && t.feAt x 0x3400 1 el != 1))
  let graph := k == dkey 0x8010 2 0 && !s.graphFits
  let rate := i == 0x2001 && overCap (tileCap q.val.toNat) (s.tileLoads q.r)
  full || pairs || routes || corr || egress || graph || rate

/-- The rate and TDM limits among the ranges (R151, R336). -/
def State.rateRange (s : State) (q : WReq) : Bool :=
  let i := keyIdx q.key
  let v := q.val.toInt
  if i = 0x2001 then
    (v != 48000 || !(List.range 1024).any (fun f => decide (98304 < s.feAt q.x 0x6000 4 f))) &&
      (v != 96000 || !(List.range 8).any (fun t => s.feAt q.x 0x3710 2 t == 32))
  else if i = 0x3710 ∧ keySub q.key = 2 then v != 32 || s.rate != 96000
  else true

/-- The apply index meets alignment and horizon (R62, R358). -/
def applyRange (e : DEntry) (q : WReq) : Bool :=
  if e.acc = .rwa then
    (e.zc || q.apply % 32 == 0) && decide (q.apply / 32 ≤ q.r + 65536)
  else q.apply == 0

/-- A write sets a parameter of the NL-SURV job (R275). -/
def State.survParam (s : State) (k : Nat) : Bool :=
  keyIdx k == 0x8100 && ((s.nlSurvJob.map (fun j => j.id == keyElem k / 256)).getD false)

/-- The members whose bits a mask sets, from member `i` on (R371). -/
def maskList : Nat → List Byte → List Nat
  | _, [] => []
  | i, b :: l =>
    (if b = 0 then [] else ((List.range 8).filter (fun j => natBit b.toNat j)).map (fun j => i + j)) ++ maskList (i + 8) l

/-- The members of a class that lie in a session's tenancy (R371). -/
def State.members (s : State) (n : Nat) (c : Cls) : List Nat :=
  let t := s.tenancy n
  match c with
  | .object => maskList 0 t.objects
  | .set => (List.range 64).filter (fun i => natBit t.sets i)
  | .feed => maskList 0 t.feeds
  | .feedOrBus => maskList 0 t.feeds ++ (maskList 0 t.buses).map (fun i => i + 1024)
  | .bus => maskList 0 t.buses
  | .estream => maskList 0 t.streams
  | _ => []

/-- The keys of a session's snapshot: the rwa entries that are not DOMAIN and lie within its tenancy (R372). -/
def State.snapKeys (s : State) (n : Nat) : List Nat :=
  dictTable.flatMap (fun e =>
    if e.acc = .rwa ∧ e.ty ≠ .dom then
      (s.members n e.cls).flatMap (fun m =>
        ((List.range e.per).map (fun k => m * e.per + k)).filter (fun i => decide (i < e.elems)) |>.map (dkey e.idx e.sub))
    else [])

/-- A snapshot is too large; one without entries fits (R372, log entry 92). -/
def State.snapTooBig (s : State) (k : Nat) : Bool :=
  let l := s.snapKeys (keyElem k)
  k == dkey 0xC200 6 (keyElem k) && (!l.isEmpty && decide (2097152 < Config.snapBytes l.length))

/-- The tests of a WRITE, in the order of R368, and the apply index that it takes: for an rwa entry the one asked for or the
earliest (R61, R358), for an entry that a unit uses 32(r + 1), otherwise 0. -/
def State.writeTest (s : State) (q : WReq) : Status × Nat :=
  match keyEntry q.key with
  | none => (.noEntry, 0)
  | some e =>
    let el := keyElem q.key
    let role := s.roleTest q.sess e el
    let owner : Status := match ownerRes q.key with
      | some r => s.ownerTest q.sess r q.val.toNat
      | none => .ok
    let res := s.resTest q
    let a := if e.acc = .rwa then (if q.apply = 0 then 32 * s.earliest e q else q.apply)
      else if journaledRw q.key then 32 * (q.r + 1) else 0
    let join := if q.apply = 0 then none else some (q.apply / 32)
    if role = .auth then (.auth, 0)
    else if e.acc = .const ∨ e.acc = .ro then (.access, 0)
    else if role = .access ∨ owner = .access ∨ res = .access ∨ s.survParam q.key then (.access, 0)
    else if role = .tenancy then (.tenancy, 0)
    else if s.lockedBy q.sess q.key then (.locked, 0)
    else if e.ty = .dom ∨ q.tyOk = false ∨ fitsType e.ty q.val = false then (.type, 0)
    else if q.key = dkey 0xB030 2 0 ∧ s.unsealSeen = false then (.sealed, 0)
    else if s.rangeTest e q = false ∨ applyRange e q = false ∨ s.rateRange q = false ∨ res = .range ∨
        s.snapTooBig q.key then (.range, 0)
    else
      let t := s.withWrite e q a
      let x := if e.acc = .rwa then a else q.x
      if t.groupRange q.key x = false ∨ t.dstRange q.key x q.val.toNat = false then (.range, 0)
      else if s.stateForbids q ∨ res = .state ∨ s.changeForbids t q.key a then (.state, 0)
      else if owner = .busy ∨ res = .busy ∨ s.busyFor e q a then (.busy, 0)
      else if (e.acc = .rwa ∧ q.apply ≠ 0 ∧ s.lateAt e q join q.apply) ∨
          (q.key = dkey 0x2100 4 el ∧ s.armLate q.val.toNat) then (.late, 0)
      else if s.overBudget t e q a then (.admission, 0)
      else (.ok, a)

end Sys2Proof.Machine
end

