-- ==== Sys2Proof/Machine/Sessions.lean ====
section
/-!
DEFINITION. How an accepted write enters the journal (R20, R358), and the sessions' snapshots, leases and reverts (R33, R37,
R361, R372, R375).
-/
namespace Sys2Proof.Machine
open Sys2Proof

/-! ### Accepting a write (R358, R381) -/

/-- An accepted write of a kept entry starts the time to the next save (R381). -/
def State.markKept (s : State) (e : DEntry) : State :=
  if e.kept then { s with sub := { s.sub with storeDirty := true, keptWriteUs := s.tb.us } } else s

/-- A port's filter table is rebuilt for block `b` (R306). -/
def State.addRebuild (s : State) (b p : Nat) : State :=
  { s with dam := { s.dam with rebuilds := aput s.dam.rebuilds p (setAdd (s.rebuildsOf p) b) } }

/-- LS_ENABLE bits of 32 feeds at sample `x` (R275). -/
def State.lsWordAt (s : State) (w x : Nat) : Nat :=
  ((List.range 32).map (fun i => if s.atKey (dkey 0xA200 1 (32 * w + i)) x = 1 then 2 ^ i else 0)).sum

/-- A write of LS_ENABLE at index `a` reaches the NL-SURV job as the word of its feed, at `a` and at every later index of a
pending write to the same word (R275). -/
def State.journalLs (s : State) (f a : Nat) : State :=
  match s.nlSurvJob with
  | none => s
  | some j =>
    let w := f / 32
    let l := (a :: ((s.fePend.filter (fun q =>
      q.wins && keyIdx q.key == 0xA200 && keySub q.key == 1 && keyElem q.key / 32 == w && decide (a < q.apply))).map (fun q =>
        q.apply))).eraseDups
    l.foldl (fun (t : State) x => t.addInternal 5 x (dkey 0x8100 1 (256 * j.id + 13 + w)) (.num (t.lsWordAt w x : Nat))) s

/-- The internal writes that are due, changed by a function. -/
def State.onInt (s : State) (f : List (Nat × Nat × Nat) → List (Nat × Nat × Nat)) : State :=
  { s with dam := { s.dam with intDue := f s.dam.intDue } }

/-- An internal write of the NL-SURV job that an accepted write calls for (R275). -/
def State.journalInt (s : State) (e : Nat × Nat × Nat) : State :=
  if e.1 = 0 then s.journalLs e.2.1 e.2.2
  else
    match s.nlSurvJob with
    | some j => s.addInternal 5 e.2.2 (dkey 0x8100 1 (256 * j.id + 10 + e.1)) (.num (e.2.1 : Nat))
    | none => s

/-- The internal writes that are due enter the journal, behind the writes that call for them (R275, R359). -/
def State.flushInt (s : State) : State := s.dam.intDue.foldl State.journalInt (s.onInt (fun _ => []))

/-- An rw entry that a unit uses takes its value in the front end at once; older writes of it no longer count there. -/
def State.takeNow (s : State) (e : DEntry) (k : Nat) (v : DVal) : State :=
  let s1 := { s with fePend := s.fePend.filter (fun j => !(j.key == k && decide (j.apply ≤ s.tb.sidx))) }
  if e.acc = .rw then { s1 with dict := putVal s1.dict k v } else s1

/-- The effects that an rwa write has beside its record: rebuilt filter tables of some ports and NL-SURV parameters (R275,
R306). -/
def State.rwaEffect (s : State) (rebuilds : List (Nat × Nat)) (k a : Nat) : State :=
  let s1 := rebuilds.foldl (fun (t : State) p => t.addRebuild (p.1 / 32) p.2) s
  if keyIdx k = 0xA200 ∧ keySub k = 1 then s1.onInt (fun l => l ++ [(0, keyElem k, a)]) else s1

/-- A write that has passed its tests is journaled or stored (R20, R36, R358): `kind` 0 for a host's write, 4 for a revert. -/
def State.accept (s : State) (kind : Nat) (q : WReq) (a : Nat) : State :=
  match keyEntry q.key with
  | none => s
  | some e =>
    let s0 := match configRes q.key with
      | some r => s.claimFor r q.sess
      | none => s
    let s1 := s0.markKept e
    let j := { s1.recOf q a with kind := kind }
    if e.acc = .rwa then (s1.addRec j).rwaEffect (s1.filterRebuilds j) q.key a
    else if journaledRw q.key then
      let s2 := s1.addRec j
      if s2.lastLost then s2 else s2.takeNow e q.key q.val
    else if e.acc = .rw ∧ e.live = false ∧ keyIdx q.key ≠ 0x3800 then { s1 with dict := putVal s1.dict q.key q.val }
    else s1

/-- The write gets a journal number (R358). -/
def isJournaled (k : Nat) : Bool :=
  match keyEntry k with
  | some e => e.acc == .rwa || journaledRw k
  | none => false

/-! ### Snapshots (R372) -/

/-- The entries that configure TDM7, kept in the snapshot of the session that owns it. -/
def tdm7Keys : List Nat :=
  ([1, 2, 3, 4] : List Nat).map (fun b => dkey 0x3710 b 7) ++ (List.range 32).map (fun j => dkey 0x3720 1 (224 + j))

/-- The triggers that a session owns. -/
def State.ownTriggers (s : State) (n : Nat) : List Nat := (List.range 16).filter (fun t => (s.own (.tt t)).owner == n)

/-- The GPIO balls that a session owns. -/
def State.ownBalls (s : State) (n : Nat) : List Nat := (List.range 24).filter (fun g => (s.own (.gpio g)).owner == n)

/-- The snapshot of a session: the values in force at sample `x` and the configuration of its resources (R372). -/
def State.snapshot (s : State) (n x : Nat) : State :=
  let keys := s.snapKeys n ++ if (s.own .tdm7).owner = n then tdm7Keys else []
  let vals : Assoc DVal := keys.foldl (fun (m : Assoc DVal) k => aput m k (valueAt s.dict s.fePend k x)) []
  let trig : Assoc Trigger := (s.ownTriggers n).map (fun t => (t, s.tt t))
  let balls : Assoc Gpio := (s.ownBalls n).map (fun g => (g, s.ball g))
  let s1 := s.setSess n { s.sess n with snapTrig := trig, snapGpio := balls }
  { s1 with sub := { s1.sub with snapshots := aputD s1.sub.snapshots n vals [] } }

/-! ### The end of a session (R361, R372) -/

/-- A running transfer ends without its value; the staging of a correction image, a firmware image or an island image is
discarded (R192, R361, R394, R397). -/
def State.dropStaging (s : State) (k : Nat) : State :=
  let e := keyElem k
  if k = dkey 0x6200 1 e then (s.setFeN 0x6210 1 0 0).setFeN 0x6210 2 0 255
  else if k = dkey 0xD100 1 e then s.setFeN 0xD100 2 e 0
  else if k = dkey 0xB030 1 0 then s.setFeN 0xB030 3 0 0
  else s

/-- Every owner word with a session's ID is released; at the end of a lease each release is logged (R33, R372). -/
def State.releaseAll (s : State) (n : Nat) (logged : Bool) : State :=
  let all : List Res := (List.range 16).map Res.tt ++ (List.range 24).map Res.gpio ++ [.cap, .tdm7]
  (all.filter (fun r => (s.own r).owner == n)).foldl (fun (t : State) r =>
    let t1 := (t.ownerWrite .mgmt r 0 true).2
    if logged then t1.logEvent 0x0030 0 0 0 (n + 4 * 256) else t1) s

/-- What the end of a lease and CLOSE do alike: locks, owner words, subscriptions, queued notifications and running transfers
end; accepted writes stand (R372). -/
def State.closeSession (s : State) (n : Nat) (logged : Bool) : State :=
  let x := s.sess n
  let s1 := (x.xfers.filter (fun f => f.running)).foldl (fun (t : State) f => t.dropStaging f.key) s
  (s1.releaseAll n logged).setSess n { conflicts := x.conflicts, peer := x.peer, retry := x.retry }

/-- The value that an element will hold once every accepted write has taken effect (R357, R372). -/
def State.finalVal (s : State) (k : Nat) : DVal := valueAt s.dict s.fePend k (2 ^ 64)

/-- A revert write that is not made is logged, and the open admin sessions are told (R372). -/
def State.revertSkipped (s : State) (n k x : Nat) : State :=
  (s.logEvent 0x0030 0 1 0 (n + 3 * 256)).noteAll ⟨0xD, k, x / 32, beBytes 1 n⟩ s.adminSessions

/-- One revert write of session `n`'s snapshot, tested as a write of session 0 with apply index 0 at receipt index `x`: kept
for a retry where STATE, BUSY or LATE refuses it now, otherwise skipped (R372). -/
def State.revertOne (n x : Nat) (s : State) (k : Nat) (v : DVal) : State :=
  if s.finalVal k = v then s
  else
    let q : WReq := { sess := 0, x := x, key := k, val := v, apply := 0 }
    match s.writeTest q with
    | (.ok, a) => (s.accept 4 q a).flushInt
    | (.state, _) | (.late, _) | (.busy, _) =>
      let y := s.sess n
      s.setSess n { y with retry := aput y.retry k v }
    | _ => s.revertSkipped n k x

/-- A trigger takes back the configuration of a snapshot; it stays armed only where the snapshot had it armed (R37, R372). -/
def Trigger.revert (q old : Trigger) : Trigger :=
  { q with
    action := old.action, target := old.target, start := old.start, startLo := old.startLo
    period := old.period, count := old.count, width := old.width
    state := if q.state = .armed ∧ old.state ≠ .armed then .idle else q.state }

/-- The resources of a session take back the configuration of its snapshot (R37, R372). -/
def State.revertOwned (s : State) (x : Session) (trig balls : List Nat) : State :=
  let s1 := trig.foldl (fun (t : State) k => match aget? x.snapTrig k with
    | some q => t.setTt k ((t.tt k).revert q)
    | none => t) s
  balls.foldl (fun (t : State) g => match aget? x.snapGpio g with
    | some q => t.setBall g { t.ball g with func := q.func, pol := q.pol, out := q.out }
    | none => t) s1

/-- A lease ends at index `x`: the session closes, and with REVERT set its tenancy and its resources revert (R37, R372). -/
def State.leaseEnd (s : State) (n x : Nat) : State :=
  let y := s.sess n
  let trig := s.ownTriggers n
  let balls := s.ownBalls n
  let tdm7 := (s.own .tdm7).owner == n
  let s1 := s.closeSession n true
  if s.feN 0xC100 5 n ≠ 1 then s1
  else
    let vals := (agetD s.sub.snapshots n []).filter (fun e => tdm7 || !tdm7Keys.contains e.1)
    (vals.foldl (fun (t : State) e => t.revertOne n x e.1 e.2) s1).revertOwned y trig balls

/-- A session's lease has passed at index `x`. -/
def State.leaseDue (s : State) (n x : Nat) : Bool := (s.sess n).isOpen && decide ((s.sess n).xEnd ≤ x)

/-- Every lease that has passed at index `x` ends, before a message of that receipt index is handled (R372). -/
def State.endLeases (s : State) (x : Nat) : State :=
  sessionIds.foldl (fun (t : State) n => if t.leaseDue n x then t.leaseEnd n (t.sess n).xEnd else t) s

/-- LEASE_END: within 1 ms after the tick of its index x_e a session's lease ends (R372). -/
def execLeaseEnd (n : Nat) (s : State) : Host.Outcome State Fault Refusal :=
  if n ∈ sessionIds ∧ s.frontRuns ∧ s.leaseDue n s.tb.sidx then .next (s.leaseEnd n (s.sess n).xEnd) else .next s

/-- REVERT_RETRY: the revert writes of a session that STATE, BUSY or LATE refused are tried again (R372). -/
def execRevertRetry (n : Nat) (s : State) : Host.Outcome State Fault Refusal :=
  if n ∈ sessionIds ∧ s.frontRuns then
    let l := (s.sess n).retry
    let s1 := s.setSess n { s.sess n with retry := [] }
    .next (l.foldl (fun (t : State) e => t.revertOne n s.tb.sidx e.1 e.2) s1)
  else .next s

end Sys2Proof.Machine
end

