-- ==== Sys2Proof/Machine/FrontWrite.lean ====
section
/-!
DEFINITION. What an accepted write does beside its record or its stored value (R358).
-/
namespace Sys2Proof.Machine
open Sys2Proof

/-! ### Entries of power, time and pins -/

/-- A write of an entry of power, rate or time takes effect (R47, R59, R70, R443, R461): `old` is the state before it. -/
def State.timeEffect (s old : State) (q : WReq) : State :=
  let i := keyIdx q.key
  let b := keySub q.key
  let n := q.val.toNat
  if i = 0x1020 then (if n = 1 then { s with sub := { s.sub with storeResetNext := true } } else s)
  else if i = 0x1100 ∧ b = 2 then s.powerReq n
  else if i = 0x2001 then (if n = old.rate then s else s.rateChange n)
  else if i = 0x2010 ∧ b = 1 then
    (if n = old.feN 0x2010 1 0 then s
      else { s with ptp := { s.ptp with lock := .freerun, goodRun := 0, badRun := 0, onBackup := false } })
  else if i = 0x2010 ∧ b = 2 then s.setFeN 0x2010 3 0 (if n = 0 then 127 else 0)
  else if i = 0x2010 ∧ b = 0xA then { s with ptp := { s.ptp with tod := some (n / 2 ^ 32, n % 2 ^ 32) } }
  else if i = 0x2010 ∧ b = 0xD then (if n = 1 then s.clearStat .shared tbStat 0x40 else s)
  else if i = 0x2010 ∧ b = 0xE then s.setMclk (n == 1)
  else s

/-- A write of an owner entry: a claim, a release, or an admin session's forced release, which is logged (R33, R34). -/
def State.ownerEffect (s : State) (n : Nat) (r : Res) (v : Nat) : State :=
  let o := (s.own r).owner
  let s1 := (s.ownerWrite .mgmt r v (v == 0)).2
  if v = 0 ∧ o ≠ 0 ∧ o ≠ n then s1.logEvent 0x0030 (0x10 + n) 0 0 ((if o ≤ 16 then o else 0) + 4 * 256) else s1

/-- A write of a trigger's entry (R66, R67). -/
def State.trigEffect (s : State) (q : WReq) : State :=
  let t := keyElem q.key
  let n := q.val.toNat
  match trigFieldOf q.key with
  | some f => s.setTt t ((s.tt t).setField f n)
  | none =>
    if keySub q.key = 4 then s.setTt t ((s.tt t).arm n)
    else if keySub q.key = 0xA ∧ n = 1 then s.disarm t
    else s

/-- The GPIO field that a key writes. -/
def gpioFieldOf (b : Nat) : GpioField := if b = 2 then .func else if b = 3 then .pol else .out

/-- A write of a port's, a stream's or a TDM port's entry (R282, R300, R326, R338). -/
def State.portEffect (s old : State) (q : WReq) : State :=
  let i := keyIdx q.key
  let b := keySub q.key
  let p := keyElem q.key
  let n := q.val.toNat
  if i = 0x3000 ∧ (b = 1 ∨ b = 2) then
    if old.fe q.key = q.val then s
    else
      let s1 := s.linkDown p
      s1.setPort p { s1.port p with anState := if p < 4 then anStart (s.feN 0x3000 1 p) else 0 }
  else if i = 0x3000 ∧ b = 3 then
    (s.setReg .shared (portBase p + 0xC) (n % 2 ^ 32)).setReg .shared (portBase p + 0x10) (n / 2 ^ 32)
  else if i = 0x3000 ∧ b = 4 then s.setReg .shared (portBase p + 8) n
  else if i = 0x3020 then
    if n = 1 then (List.range 8).foldl (fun (t : State) k => t.setFeN 0x3020 (k + 1) p 0) s else s
  else if i = 0x3200 ∧ b = 0x16 then
    if n = 1 then
      let s1 := (List.range 5).foldl (fun (t : State) k => t.setFeN 0x3200 (0x11 + k) p 0) s
      (List.range 3).foldl (fun (t : State) k => (t.setFeN 0x3210 (4 + k) (2 * p) 0).setFeN 0x3210 (4 + k) (2 * p + 1) 0) s1
    else s
  else if i = 0x3C30 ∧ b = 1 then
    if n = 1 then s.setTdm p { s.tdmPort p with rng := { state := 1, slot := s.feN 0x3C30 2 p } } else s
  else s

/-! ### Correction slots, Novil, units -/

/-- A correction slot is emptied (R194). -/
def State.emptySlot (s : State) (k : Nat) : State :=
  let s1 := { s with dam := { s.dam with cs := aputD s.dam.cs k {} {} } }
  ([4, 5, 6, 7] : List Nat).foldl (fun (t : State) b => t.setFeN 0x6200 b k 0) s1

/-- A write of an entry of the render path (R193, R194, R238, R240, R266, R272, R275); `old` is
the state before it. -/
def State.renderEffect (s old : State) (q : WReq) (a : Nat) : State :=
  let i := keyIdx q.key
  let b := keySub q.key
  let k := keyElem q.key
  let n := q.val.toNat
  if i = 0x6200 ∧ b = 2 then ((s.setFeN 0x6210 1 0 3).setFeN 0x6200 4 k 2).setFeN 0x6200 9 k a
  else if i = 0x6200 ∧ b = 3 then s.emptySlot k
  else if i = 0x8000 ∧ b = 4 then s.setFe 0x8000 1 k (.bytes [])
  else if i = 0x8010 ∧ b = 2 then s.setFeN 0x8010 3 0 2
  else if i = 0x9010 ∧ b = 0xC then (if n = 1 then s.arbClear else s)
  else if i = 0x9020 then
    if old.irRecord (old.feN 0x9020 1 0) = s.irRecord n then s else s.bumpKey (dkey 0x9020 2 0)
  else if i = 0xA210 then
    match s.nlSurvJob with
    | some _ => s.onInt (fun l => l ++ [(b, n, 32 * (q.r + 1))])
    | none => s
  else s

/-! ### Updates (R234, R458, R459) -/

/-- MGMT_ACTIVATE: the staged slot becomes active on trial, and the management subsystem restarts (R454, R458). -/
def State.activate (s : State) : State :=
  let p := s.sub
  let slot := 1 - p.runSlot
  let d := p.writeDir { p.dir with slot := slot, trial := true }
  let s1 := { s with sub := { d with slotStarts := lset p.slotStarts slot 0 } }
  ((s1.setFeN 0xD100 2 0 0).logEvent 0x0050 0 0 (imgVersion (p.mgmtSlots.getD slot [])) (1 + 3 * 256)).mgmtRestart 1

/-- A write of an entry of the island, the sessions, the updates or the diagnostics (R375, R395, R399). -/
def State.adminEffect (s : State) (q : WReq) : State :=
  let i := keyIdx q.key
  let b := keySub q.key
  let k := keyElem q.key
  let n := q.val.toNat
  if i = 0xB010 then s.sendLogReq n
  else if i = 0xB030 then (if n = 1 then s.startInstall else s)
  else if i = 0xB040 then
    let c := s.reg .shared 0x30060000
    s.setReg .shared 0x30060000 ((c &&& 6) + n)
  else if i = 0xC100 ∧ b = 8 then
    if n = 1 ∧ (s.sess k).isOpen then (s.leaseEnd k q.x).logEvent 0x0030 0 0 0 (k + 5 * 256) else s
  else if i = 0xC200 ∧ b = 6 then (if n = 1 then s.snapshot k q.x else s)
  else if i = 0xD100 ∧ b = 5 then (if n = 1 then s.activate else s)
  else if i = 0xD100 ∧ b = 7 then s.installBoth
  else if i = 0xE000 ∧ n = 1 then
    ([.a, .b] : List UnitId).foldl (fun (t : State) u => if (t.unit u).hl.loaded then t else t.clearDiag u) s
  else s

/-- Everything that an accepted write does at once beside its record or stored value; `old` is the state before it. -/
def State.writeEffect (s old : State) (q : WReq) (a : Nat) : State :=
  let i := keyIdx q.key
  match ownerRes q.key with
  | some r => s.ownerEffect q.sess r q.val.toNat
  | none =>
    if i = 0x2100 then s.trigEffect q
    else if i = 0x3800 then s.gpioSet (keyElem q.key) (gpioFieldOf (keySub q.key)) q.val.toNat
    else if i < 0x3000 then s.timeEffect old q
    else if i < 0x4000 then s.portEffect old q
    else if i < 0xB000 then s.renderEffect old q a
    else s.adminEffect q

/-! ### A write from its tests to its effects -/

/-- What a write answers (R351, R358): its status, journal number and apply index, and whether it lost at once. -/
structure WRes where
  st : Status
  jseq : Nat := 0
  apply : Nat := 0
  lost : Bool := false
deriving DecidableEq, Repr

/-- The entries that session 1 may write in provisioning mode (R355). -/
def provisionKey (k : Nat) : Bool := keyIdx k == 0xC100 || keyIdx k == 0x1010

/-- What provisioning mode and recovery mode say to a write of an entry (R355, R439). -/
def State.modeTest (s : State) (n k : Nat) : Status :=
  if s.sub.recovery ∧ k ≠ dkey 0xD100 5 0 ∧ k ≠ dkey 0xD100 1 0 then .state
  else if s.provisioning ∧ n = 1 ∧ provisionKey k = false ∧ s.sub.recovery = false then .auth
  else .ok

/-- An entry on which every session description rests: RATE and the PTP role, profile and domain (R331). -/
def timeKey (k : Nat) : Bool := keyIdx k == 0x2001 || keyIdx k == 0x2010

/-- A write is tested, and an accepted one is journaled or stored and takes its effects (R349, R358, R368). -/
def State.hostWrite (s : State) (q : WReq) : WRes × State :=
  let m := s.modeTest q.sess q.key
  if m ≠ .ok then ({ st := m }, s)
  else
    match s.writeTest q with
    | (.ok, a) =>
      let s1 := (if timeKey q.key then s.noteForms else s).accept 0 q a
      let j := isJournaled q.key
      let s2 := s1.writeEffect s q a
      ({ st := .ok, jseq := if j then s.sub.jseq else 0, apply := a, lost := j && s1.lastLost },
        if timeKey q.key then s2.noteForms else s2)
    | (st, _) => ({ st := st }, s)

end Sys2Proof.Machine
end

