-- ==== Sys2Proof/Machine/DameelMsg.lean ====
section
/-!
DEFINITION. Dameel messages (R347 to R356): their layout, tags and sequence numbers, values on the wire, and the opening of a
session.
-/
namespace Sys2Proof.Machine
open Sys2Proof

/-! ### Values on the wire (R353) -/

/-- The type code of an entry's type (R353). -/
def DType.code (t : DType) : Nat :=
  match t with
  | .bool => 0x01
  | .u w => if w = 8 then 0x02 else if w = 16 then 0x03 else if w = 32 then 0x04 else 0x05
  | .i w => if w = 8 then 0x06 else if w = 16 then 0x07 else if w = 32 then 0x08 else 0x09
  | .gain24 => 0x0B
  | .db16 => 0x0C
  | .dly29 => 0x0D
  | .pos32 => 0x0E
  | .dir16 => 0x0F
  | .c32 => 0x10
  | .str _ => 0x12
  | .dom => 0x13
  | .ptp80 => 0x14
  | .sidx => 0x15
  | .coef32 => 0x16

/-- The width of a value in bytes; of a string the largest (R353). -/
def DType.bytes (t : DType) : Nat :=
  match t with
  | .bool => 1
  | .u w | .i w => w / 8
  | .db16 | .dir16 => 2
  | .str n => n
  | .dom => 0
  | .ptp80 => 10
  | .sidx => 8
  | _ => 4

/-- A signed type. -/
def DType.signed (t : DType) : Bool :=
  match t with
  | .i _ | .gain24 | .db16 | .pos32 | .dir16 | .coef32 => true
  | _ => false

/-- A value on the wire. -/
def encodeVal (t : DType) (v : DVal) : List Byte :=
  match v with
  | .num n => beBytes t.bytes (toUnsigned (8 * t.bytes) n)
  | .bytes b => b

/-- The value that bytes spell; none where their number is not the type's width (R353). -/
def decodeVal (t : DType) (b : List Byte) : Option DVal :=
  match t with
  | .str _ => some (.bytes b)
  | .dom => none
  | _ =>
    if b.length ≠ t.bytes then none
    else if t.signed then some (.num (toSigned (8 * t.bytes) (beNat b))) else some (.num (Int.ofNat (beNat b)))

/-! ### Addresses and operations (R351, R352, R357) -/

/-- An address of the operations; sub 0xFF names every sub-index. -/
structure Addr where
  idx : Nat
  sub : Nat
  elem : Nat
  count : Nat
deriving DecidableEq, Repr

/-- The address at the start of an operation's body (R352). -/
def addrOf (b : List Byte) : Addr := ⟨fieldAt b 0 2, fieldAt b 2 1, fieldAt b 4 2, fieldAt b 6 2⟩

/-- The elements of an address exist in an entry (R8, R352). -/
def Addr.inside (a : Addr) (e : DEntry) : Bool :=
  decide (0 < a.count) && decide (a.elem + a.count ≤ e.elems) && elemOk e a.elem

/-- The entries that an address names. -/
def Addr.entries (a : Addr) : List DEntry :=
  if a.sub = 0xFF then dictTable.filter (fun e => e.idx == a.idx && a.inside e)
  else match dictFind a.idx a.sub with
    | some e => if a.inside e then [e] else []
    | none => []

/-- The one entry that an address with a sub-index names. -/
def Addr.entry (a : Addr) : Option DEntry :=
  match dictFind a.idx a.sub with
  | some e => if a.inside e then some e else none
  | none => none

/-- The key of the first element. -/
def Addr.key (a : Addr) : Nat := dkey a.idx a.sub a.elem

/-- An operation of a request: OP, OPFLAGS and body (R351). -/
structure WireOp where
  op : Nat
  flags : Nat
  body : List Byte
deriving DecidableEq, Repr

/-- The operations of an operations area; none where the lengths do not add up (R351). -/
def parseOps : Nat → List Byte → Option (List WireOp)
  | _, [] => some []
  | 0, _ => none
  | n + 1, b =>
    let len := fieldAt b 2 2
    if b.length < 4 + len then none
    else (parseOps n (b.drop (4 + len))).map (fun l => ⟨fieldAt b 0 1, fieldAt b 1 1, (b.drop 4).take len⟩ :: l)

/-- OP is known and LEN agrees with it (R351, R357, R360). -/
def WireOp.ok (o : WireOp) : Bool :=
  let n := o.body.length
  match o.op with
  | 0x01 => n == 8
  | 0x02 => decide (20 ≤ n)
  | 0x04 => n == 12
  | 0x05 => n == 2
  | 0x06 => n == 8
  | 0x07 => n == 3
  | 0x08 => decide (32 ≤ n) && decide (n ≤ 1056)
  | 0x09 => n == 14
  | 0x0A => n == 2
  | 0x0B => n == 0
  | 0x0C => n == 9
  | 0x0E => n == 0
  | _ => false

/-- The bytes of a READ's result after RFLAGS (R357). -/
def readSize (a : Addr) (pending : Bool) : Nat :=
  match a.entry with
  | some e => 4 + a.count * (e.ty.bytes + if pending then 8 else 0)
  | none => 0

/-- The size of an operation's result in a reply, with its header and RFLAGS (R348, R351). -/
def WireOp.resultSize (o : WireOp) : Nat :=
  8 + match o.op with
    | 0x01 => readSize (addrOf o.body) (natBit o.flags 0)
    | 0x02 | 0x08 => 20
    | 0x04 | 0x06 => 2
    | 0x09 => 8 + fieldAt o.body 12 2
    | 0x0B => 12
    | 0x0C => 4 + 40 * fieldAt o.body 8 1
    | _ => 0

/-! ### What the device sends (R348, R350 to R352, R356) -/

/-- The header of a message (R350). -/
def msgHeader (kind session flags len epoch seq ack : Nat) : List Byte :=
  beBytes 2 0x444D ++ [1] ++ beBytes 1 kind ++ beBytes 1 session ++ beBytes 1 flags ++ beBytes 2 len ++ beBytes 8 epoch ++
    beBytes 8 seq ++ beBytes 8 ack

/-- A result as the reply carries it (R351). -/
def OpResult.bytes (r : OpResult) : List Byte :=
  let flags := (if r.tested then 1 else 0) + (if r.applied then 2 else 0) + if r.lost then 4 else 0
  beBytes 1 r.op ++ beBytes 1 r.status.code ++ beBytes 2 (4 + r.body.length) ++ beBytes 1 flags ++ [0, 0, 0] ++ r.body

/-- The operations area of a reply; that of an open reply is its body (R351, R354). -/
def Reply.area (r : Reply) : List Byte :=
  if r.kind = 5 then r.results.flatMap OpResult.body else r.results.flatMap OpResult.bytes

/-- A message as bytes; all but a status reply, a discover and its reply end with the tag of a credential (R350, R352). -/
def messageOf (cred : List Byte) (kind session flags epoch seq ack : Nat) (area : List Byte) : Datagram :=
  let m := msgHeader kind session flags area.length epoch seq ack ++ area
  ⟨if kind ≤ 5 then m ++ dameelTag cred m else m, true⟩

/-- A reply as it leaves (R350). -/
def Reply.datagram (cred : List Byte) (r : Reply) : Datagram :=
  messageOf cred r.kind r.session r.status.code r.epoch r.seq r.ackSeq r.area

/-- A reply, open reply or status reply leaves on the port where the request arrived (R347). -/
def State.putReply (s : State) (cred : List Byte) (r : Reply) : State := s.sendMsg r.dest.port (.reply r (r.datagram cred))

/-- A wrong tag is counted (R352). -/
def State.authFail (s : State) : State := s.countFe 0xC000 3 0 1

/-- The UDP port of Dameel (R347). -/
def State.dmlPort (s : State) : Nat := s.feN 0xC000 1 0

/-- Dameel runs on a port (R347); recovery mode runs M0 alone (R439). -/
def State.dmlOn (s : State) (p : Nat) : Bool :=
  decide (p < 5) && natBit (s.feN 0xC000 2 0) p && s.feN 0x3000 6 p != 0 && (!s.sub.recovery || p == 4)

/-- A status reply, of which at most 100 leave a port in a second (R356). -/
def State.statusReply (s : State) (n : Nat) (st : Status) (ack : Nat) (dest : Peer) : State :=
  let c := agetD s.dam.statusCount dest.port (s.tb.us, 0)
  let w := if 1000000 ≤ s.usSince c.1 then (s.tb.us, 0) else c
  if 100 ≤ w.2 then s
  else
    let s1 := { s with dam := { s.dam with statusCount := aput s.dam.statusCount dest.port (w.1, w.2 + 1) } }
    s1.putReply [] ⟨8, n, st, 0, 0, ack, [], s.dmlPort, dest⟩

/-- A reply leaves, and is kept with the last 16 of its session (R356). -/
def State.sendReply (s : State) (c : MsgCtx) (st : Status) (l : List OpResult) : State :=
  let r : Reply := ⟨2, c.session, st, c.epoch, c.tx, c.seq, l, c.udp, c.src⟩
  let s1 := s.putReply c.cred r
  let y := s1.sess c.session
  if y.isOpen ∧ y.epoch = c.epoch then s1.setSess c.session { y with kept := ((c.seq, r) :: y.kept).take 16 } else s1

/-- An authenticated message of a session: its peer is recorded, and the lease of an open session is renewed (R372, R375). -/
def State.renew (s : State) (n x : Nat) (src : Peer) : State :=
  let y := s.sess n
  s.setSess n { y with xEnd := if y.isOpen then x + s.feN 0xC100 4 n * s.rate / 1000 else y.xEnd, peer := src }

/-! ### A request up to its first operation (R348 to R356) -/

/-- A datagram is a Dameel message of a kind that reaches the front end: whole, through a port that receives, to the UDP port on
which the device listens (R339, R347, R348, R350). -/
def State.takes (s : State) (kind : Nat) (src : Peer) (dg : List Byte) : Bool :=
  s.dmlOn src.port && s.rxOn src.port && src.sentTo == s.dmlPort && !src.fragment && decide (dg.length ≤ 1472) && decide (32 ≤ dg.length) && fieldAt dg 0 2 == 0x444D && fieldAt dg 2 1 == 1 &&
    fieldAt dg 3 1 == kind

/-- The message names a session and carries its tag (R352). -/
def State.tagOk (s : State) (dg : List Byte) : Bool :=
  let n := fieldAt dg 4 1
  let len := fieldAt dg 6 2
  sessionIds.contains n && dg.length == 48 + len && (dg.drop (32 + len)) == dameelTag (s.cred n) (dg.take (32 + len))

/-- A message of kind 2, 3 or 5, which the device does not serve, is dropped; with a wrong tag it is counted (R352). -/
def State.stray (s : State) (src : Peer) (dg : List Byte) : State :=
  if (s.takes 2 src dg || s.takes 3 src dg || s.takes 5 src dg) && !s.tagOk dg then s.authFail else s

/-- The whole-message tests that follow the sequence number (R348, R351, R359). -/
def msgStatus (dg : List Byte) (ops : Option (List WireOp)) : Status :=
  match ops with
  | none => .type
  | some l =>
    if l.all WireOp.ok = false then .type
    else if 32 < l.length ∨ 1472 < 48 + (l.map WireOp.resultSize).sum then .range
    else if natBit (fieldAt dg 5 1) 0 ∧ l.any (fun o => o.op != 2) then .type
    else .ok

/-- The operations area of a datagram, parsed. -/
def opsOf (dg : List Byte) : Option (List WireOp) :=
  let len := fieldAt dg 6 2
  parseOps len ((dg.drop 32).take len)

/-- A request is taken: answered at once with a message status, dropped, or begun with its operations (R348 to R356). -/
def State.beginMsg (s : State) (src : Peer) (dg : List Byte) : State :=
  let n := fieldAt dg 4 1
  let seq := fieldAt dg 16 8
  if s.takes 1 src dg = false then s.stray src dg
  else if s.tagOk dg = false then s.authFail
  else
    let x := s.tb.sidx
    let s1 := s.endLeases x
    let y := s1.sess n
    let s2 := s1.renew n x src
    if y.isOpen = false ∨ y.epoch ≠ fieldAt dg 8 8 then s2.statusReply n .auth seq src
    else
      match y.kept.find? (fun k => k.1 == seq) with
      | some k => s2.putReply (s.cred n) { k.2 with udp := s.dmlPort, dest := src }
      | none =>
        let s3 := s2.setSess n { s2.sess n with seqHigh := max y.seqHigh seq, txSeq := y.txSeq + 1 }
        let c : MsgCtx := ⟨dg, src, n, seq, y.epoch, y.txSeq, x, s.dmlPort, 0, [], natBit (fieldAt dg 5 1) 0, s2.roleNow n,
          s2.prioNow n, s2.tenancyNow n, s.cred n⟩
        if seq ≤ y.seqHigh then s3.putReply c.cred ⟨2, n, .sequence, y.epoch, y.txSeq, seq, [], s.dmlPort, src⟩
        else
          let st := msgStatus dg (opsOf dg)
          if st ≠ .ok ∨ opsOf dg = some [] then s3.sendReply c st []
          else { s3 with dam := { s3.dam with cur := some c } }

/-! ### One operation of a request -/

/-- What an operation answers: its status, whether the write was accepted, whether it lost, and the body after RFLAGS. -/
structure OpRes where
  st : Status
  applied : Bool := false
  lost : Bool := false
  body : List Byte := []
deriving DecidableEq, Repr

/-- The result in the reply. -/
def OpRes.result (r : OpRes) (op : Nat) (tested : Bool) : OpResult := ⟨op, r.st, tested, r.applied, r.lost, r.body⟩

/-- How the operation of a row acts on the state. -/
abbrev OpRun := MsgCtx → WireOp → State → OpRes × State

/-- What every operation meets before its own tests: a session that has ended or lost its role, recovery mode and
provisioning mode (R355, R370, R439). -/
def State.opTest (s : State) (c : MsgCtx) (o : WireOp) : Status :=
  let y := s.sess c.session
  let wr := o.op == 2 || o.op == 8
  if y.isOpen = false ∨ y.epoch ≠ c.epoch ∨ s.role c.session = 0 then .auth
  else if s.sub.recovery then (if wr then .ok else .state)
  else if s.provisioning ∧ c.session = 1 ∧ ¬ o.op ∈ ([1, 2, 8, 9, 0xA, 0xB, 0xC, 0xE] : List Nat) then .auth
  else .ok

/-- An operation is tested and carried out. -/
def State.runOp (s : State) (run : OpRun) (c : MsgCtx) (o : WireOp) : OpRes × State :=
  let st := s.opTest c o
  if st = .ok then run c o s else ({ st := st }, s)

/-- The operations of an ATOMIC message in order, up to the first that is refused (R359). -/
def atomicRun (run : OpRun) (c : MsgCtx) : List WireOp → State → List OpResult × Option State
  | [], s => ([], some s)
  | o :: l, s =>
    let r := s.runOp run c o
    if r.1.st = .ok then
      match atomicRun run c l r.2 with
      | (rs, some t) => (r.1.result o.op true :: rs, some t)
      | (rs, none) => ((⟨.ok, false, false, List.replicate 20 0⟩ : OpRes).result o.op true :: rs, none)
    else
      (r.1.result o.op true :: l.map (fun p => (⟨r.1.st, false, false, List.replicate 20 0⟩ : OpRes).result p.op false), none)

/-- The operation of the message in progress has been handled; after the last one the reply leaves; a
management restart drops the message (R349, R454). -/
def State.advanceMsg (s : State) (c : MsgCtx) (n : Nat) (rs : List OpResult) : State :=
  let k := c.next + 1
  if s.sub.restarting then s
  else if n ≤ k then { s with dam := { s.dam with cur := none } }.sendReply c .ok rs
  else { s with dam := { s.dam with cur := some { c with next := k, results := rs } } }

/-! ### Opening a session (R354, R356, R372) -/

/-- The session begins with a new epoch: with RESUME and a lease alive it keeps what it holds, otherwise it begins with
nothing, and its snapshot is taken (R354, R372). -/
def State.beginSession (s : State) (n x epoch : Nat) (src : Peer) : State :=
  let y := s.sess n
  if y.isOpen then
    (s.setSess n { y with epoch := epoch, seqHigh := 0, txSeq := 2, kept := [], noteSeq := 1 }).renew n x src
  else
    ((s.setSess n { isOpen := true, epoch := epoch, txSeq := 2, conflicts := y.conflicts, retry := y.retry }).renew n x src).snapshot n x

/-- The body of an open reply (R354). -/
def State.openBody (s : State) (n x epoch : Nat) (nonce : List Byte) : List Byte :=
  nonce ++ beBytes 8 epoch ++ beBytes 4 (s.feN 0xC100 4 n) ++ beBytes 1 (s.role n) ++ beBytes 1 (s.prio n) ++ [0, 0] ++ beBytes 8 x

end Sys2Proof.Machine
end

