-- ==== Sys2Proof/Machine/DameelOps.lean ====
section
/-!
DEFINITION. The operations of Dameel but for domain transfers (R357 to R359, R363, R365, R366, R372).
-/
namespace Sys2Proof.Machine
open Sys2Proof

/-- An operation that is refused. -/
def refused (st : Status) (s : State) : OpRes × State := ({ st := st }, s)

/-! ### READ and WRITE (R357, R358) -/

/-- An element's value with the apply index of the write that will set it; 0 where none is pending (R357). -/
def State.readPending (s : State) (k x : Nat) : DVal × Nat :=
  match pendAt k (2 ^ 64) s.fePend with
  | some j => if x < j.apply then (j.val, j.apply) else (s.dictRead k x, 0)
  | none => (s.dictRead k x, 0)

/-- The values of a READ. -/
def State.readValues (s : State) (a : Addr) (e : DEntry) (x : Nat) (pending : Bool) : List Byte :=
  (List.range a.count).flatMap (fun i =>
    let k := a.key + i
    if pending then
      let p := s.readPending k x
      encodeVal e.ty p.1 ++ beBytes 8 p.2
    else encodeVal e.ty (s.dictRead k x))

/-- READ (R357). -/
def runRead : OpRun := fun c o s =>
  let a := addrOf o.body
  match a.entry with
  | none => refused .noEntry s
  | some e =>
    let p := natBit o.flags 0
    if e.acc = .wo then refused .access s
    else if e.ty = .dom then refused .type s
    else if 1024 < a.count * e.ty.bytes then refused .range s
    else
      ({ st := .ok, applied := true, body := beBytes 1 e.ty.code ++ [0, 0, 0] ++ s.readValues a e c.x p },
        (List.range a.count).foldl (fun (t : State) i => t.readEffect (a.key + i)) s)

/-- The body of a write's result: JSEQ, APPLY and RESULT (R357). -/
def writeBody (jseq apply res : Nat) : List Byte := beBytes 8 jseq ++ beBytes 8 apply ++ beBytes 4 res

/-- WRITE (R353, R358). -/
def runWrite : OpRun := fun c o s =>
  let a := addrOf o.body
  match a.entry with
  | none => ({ st := .noEntry, body := writeBody 0 0 0 }, s)
  | some e =>
    if a.count ≠ 1 then ({ st := .noEntry, body := writeBody 0 0 0 }, s)
    else
      let v := if fieldAt o.body 8 1 = e.ty.code then decodeVal e.ty (o.body.drop 20) else none
      let r := s.hostWrite
        { sess := c.session, x := c.x, key := a.key, val := v.getD (.num 0), apply := fieldAt o.body 12 8, tyOk := v.isSome }
      ({ st := r.1.st, applied := r.1.st == .ok, lost := r.1.lost, body := writeBody r.1.jseq r.1.apply 0 }, r.2)

/-! ### Subscriptions (R363) -/

/-- SUBSCRIBE. -/
def runSubscribe : OpRun := fun c o s =>
  let a := addrOf o.body
  let mode := fieldAt o.body 8 1
  let period := fieldAt o.body 10 2
  let y := s.sess c.session
  let l := a.entries
  if l.isEmpty then refused .noEntry s
  else if l.all (fun e => e.acc == .wo) then refused .access s
  else if 1 < mode ∨ (mode = 1 ∧ period = 0) ∨ 256 ≤ y.subs.length then refused .range s
  else
    let sub : Sub := { id := y.nextSub, idx := a.idx, sub := a.sub, elem := a.elem, count := a.count, mode := mode, period := period }
    ({ st := .ok, applied := true, body := beBytes 2 y.nextSub },
      s.setSess c.session { y with subs := y.subs ++ [sub], nextSub := y.nextSub % 65535 + 1 })

/-- UNSUBSCRIBE (R357). -/
def runUnsubscribe : OpRun := fun c o s =>
  let id := fieldAt o.body 0 2
  let y := s.sess c.session
  if y.subs.any (fun b => b.id == id) then
    ({ st := .ok, applied := true }, s.setSess c.session { y with subs := y.subs.filter (fun b => b.id != id) })
  else refused .range s

/-! ### Locks (R365) -/

/-- Two ranges of elements share one. -/
def DLock.meets (l : DLock) (a : Addr) : Bool :=
  l.idx == a.idx && (l.sub == 0xFF || a.sub == 0xFF || l.sub == a.sub) && decide (l.elem < a.elem + a.count) &&
    decide (a.elem < l.elem + l.count)

/-- What the writes of the elements of an address would be refused with on the session's rights: of every sub-index, those
that can be written count (R365, R370). -/
def State.lockRights (s : State) (n : Nat) (a : Addr) : Status :=
  let w := a.entries.filter (fun e => e.acc != .const && e.acc != .ro)
  let bad := fun (st : Status) =>
    w.any (fun e => (List.range a.count).any (fun i => s.roleTest n e (a.elem + i) == st))
  let surv := w.any (fun e => (List.range a.count).any (fun i => s.survParam (dkey e.idx e.sub (a.elem + i))))
  if w.isEmpty ∨ bad .access ∨ surv then .access else if bad .tenancy then .tenancy else .ok

/-- A write of an element would find its resource owned by another: to configure it, or to claim or release it (R32 to R36,
R365). -/
def State.heldBy (s : State) (n k : Nat) : Bool :=
  ((configRes k).map (fun r => !s.configOk r n)).getD false ||
    ((ownerRes k).map (fun r => s.ownerTest n r n != .ok && s.ownerTest n r 0 != .ok)).getD false

/-- Some element of an address belongs to a resource that another owns. -/
def State.lockBusy (s : State) (n : Nat) (a : Addr) : Bool :=
  (a.entries.filter (fun e => e.acc != .const && e.acc != .ro)).any (fun e =>
    (List.range a.count).any (fun i => s.heldBy n (dkey e.idx e.sub (a.elem + i))))

/-- LOCK. -/
def runLock : OpRun := fun c o s =>
  let a := addrOf o.body
  let n := c.session
  let y := s.sess n
  if a.entries.isEmpty then refused .noEntry s
  else
    let st := s.lockRights n a
    if st ≠ .ok then refused st s
    else if sessionIds.any (fun m => m != n && (s.sess m).locks.any (fun l => l.meets a)) then refused .locked s
    else if 64 ≤ y.locks.length then refused .range s
    else if s.lockBusy n a then refused .busy s
    else
      ({ st := .ok, applied := true, body := beBytes 2 y.nextLock },
        s.setSess n { y with
          locks := y.locks ++ [⟨y.nextLock, a.idx, a.sub, a.elem, a.count⟩]
          nextLock := y.nextLock % 65535 + 1 })

/-- Every lock of a session is released by force: logged, and the holder is told (R365). -/
def State.forceUnlock (s : State) (by_ m : Nat) : State :=
  let y := s.sess m
  if y.locks.isEmpty then s
  else
    ((s.setSess m { y with locks := [] }).logEvent 0x0030 (0x10 + by_) 0 0 (m + 256)).noteTo m
      ⟨3, 0, s.tb.sidx / 32, beBytes 1 by_⟩

/-- UNLOCK. -/
def runUnlock : OpRun := fun c o s =>
  let n := c.session
  let y := s.sess n
  let id := fieldAt o.body 0 2
  let m := fieldAt o.body 2 1
  if natBit o.flags 0 then
    if s.role n ≠ 3 then refused .access s
    else if sessionIds.contains m then ({ st := .ok, applied := true }, s.forceUnlock n m)
    else refused .range s
  else if natBit o.flags 1 then ({ st := .ok, applied := true }, s.setSess n { y with locks := [] })
  else if y.locks.any (fun l => l.id == id) then
    ({ st := .ok, applied := true }, s.setSess n { y with locks := y.locks.filter (fun l => l.id != id) })
  else refused .range s

/-! ### KEEPALIVE, JOURNAL_READ, CLOSE (R357, R366, R372) -/

/-- KEEPALIVE. -/
def runKeepalive : OpRun := fun c _ s =>
  let left := ((s.sess c.session).xEnd - c.x) * 1000 / s.rate
  ({ st := .ok, applied := true, body := beBytes 4 left ++ beBytes 8 s.tb.sidx }, s)

/-- The bytes of a value in a journal record, without their padding, and LEN (R366). -/
def JRec.value (j : JRec) : List Byte × Nat :=
  if j.kind = 1 ∨ j.kind = 2 then (beBytes 4 j.off ++ beBytes 4 j.part.length ++ beBytes 4 (crc32 j.part), 12)
  else if j.kind = 3 then (beBytes 2 j.val.toNat, 2)
  else
    let b := match dictFind (keyIdx j.key) (keySub j.key) with
      | some e => encodeVal e.ty j.val
      | none => j.val.toBytes
    (b, b.length)

/-- A journal record as JOURNAL_READ returns it (R366). -/
def JRec.bytes (j : JRec) : List Byte :=
  let v := j.value
  let b := v.1.take 12
  beBytes 8 j.jseq ++ beBytes 8 j.apply ++ beBytes 1 j.session ++ beBytes 1 j.kind ++ beBytes 2 (keyIdx j.key) ++
    beBytes 1 (keySub j.key) ++ [0] ++ beBytes 2 (keyElem j.key) ++ beBytes 2 v.2 ++ [0, 0] ++ b ++ List.replicate (12 - b.length) 0

/-- JOURNAL_READ. -/
def runJournalRead : OpRun := fun _ o s =>
  let from_ := fieldAt o.body 0 8
  let max_ := fieldAt o.body 8 1
  let l := s.sub.journal
  match l.head?, l.getLast? with
  | some a, some b =>
    if max_ = 0 ∨ 32 < max_ ∨ from_ < a.jseq ∨ b.jseq < from_ then refused .range s
    else
      let rs := (l.filter (fun j => decide (from_ ≤ j.jseq))).take max_
      ({ st := .ok, applied := true, body := beBytes 1 rs.length ++ [0, 0, 0] ++ rs.flatMap JRec.bytes }, s)
  | _, _ => refused .range s

/-- CLOSE. -/
def runClose : OpRun := fun c _ s => ({ st := .ok, applied := true }, s.closeSession c.session false)

end Sys2Proof.Machine
end

