-- ==== Sys2Proof/Machine/DameelDomain.lean ====
section
/-!
DEFINITION. Domain transfers (R360 to R362) and what the entries with DOMAIN values accept (R75, R83, R84, R192, R263, R268,
R275, R355, R394, R395, R398).
-/
namespace Sys2Proof.Machine
open Sys2Proof

/-! ### DOMAIN_READ (R362) -/

/-- VERSION of a DOMAIN entry at sample `x`: the changes counted, and those of writes that are in force by then (R362). -/
def State.versionAt (s : State) (k x : Nat) : Nat :=
  let due := byApply (s.fePend.filter (fun j => j.key == k && j.wins && decide (j.apply ≤ x)))
  (Config.versionBase k + agetD s.dam.versions k 0 + valChanges (baseVal s.dict k) due) % 2 ^ 32

/-- DOMAIN_READ. -/
def runDomainRead : OpRun := fun c o s =>
  let a := addrOf o.body
  let off := fieldAt o.body 8 4
  let len := fieldAt o.body 12 2
  match a.entry with
  | none => refused .noEntry s
  | some e =>
    if a.count ≠ 1 then refused .noEntry s
    else if e.acc = .wo then refused .access s
    else if e.ty ≠ .dom then refused .type s
    else
      let b := (s.dictRead a.key c.x).toBytes
      if len = 0 ∨ 1024 < len ∨ b.length ≤ off then refused .range s
      else
        let t := s.formVal a.key b
        ({ st := .ok, applied := true, body := beBytes 4 b.length ++ beBytes 4 (t.versionAt a.key c.x) ++ (b.drop off).take len }, t)

/-! ### The form of domain values -/

/-- The records of a set image have distinct feeds below 1,024, legal TAPS and zero reserved bytes, and end with the image
(R191, R192). -/
def csRecords (limit : Nat) : Nat → List Nat → List Byte → Bool
  | 0, _, b => b.isEmpty
  | n + 1, seen, b =>
    let f := fieldAt b 0 2
    let taps := fieldAt b 2 2
    decide (8 + 4 * taps ≤ b.length) && decide (f < 1024) && !seen.contains f && decide (0 < taps) && decide (taps ≤ limit) &&
      fieldAt b 4 4 == 0 && csRecords limit n (f :: seen) (b.drop (8 + 4 * taps))

/-- A set image passes the tests of R192. -/
def csImageOk (b : List Byte) : Bool :=
  let rate := setRate b
  decide (16 ≤ b.length) && fieldAt b 0 4 == 1 && (rate == 48000 || rate == 96000) && decide (setCount b ≤ 1024) &&
    fieldAt b 10 6 == 0 && csRecords (if rate = 96000 then 8192 else 16384) (setCount b) [] (b.drop 16)

/-- A graph has at most one NL-SURV job, which has no insert, bus or exchange range (R275). -/
def nlSurvOk (digest : List Byte) (img : Nat → List Byte) (g : List NvJob) : Bool :=
  let l := g.filter (fun j => !(img j.image).isEmpty && sha256 (img j.image) == digest)
  decide (l.length ≤ 1) && l.all (fun j => j.insCount == 0 && j.busCount == 0 && j.exchWords == 0)

/-- The triangles of a host list: three vertex numbers each. -/
def triList : Nat → List Byte → List (List Nat)
  | 0, _ => []
  | n + 1, b => if b.length < 6 then [] else [fieldAt b 0 2, fieldAt b 2 2, fieldAt b 4 2] :: triList n (b.drop 6)

/-- A vertex of set `k` at sample `x`: a member feed or an enabled virtual point (R75). -/
def State.vertexOk (s : State) (k x v : Nat) : Bool :=
  if v < 1024 then natBit (s.atKey (dkey 0x5000 7 v) x) k
  else decide (v < 1030) && natBit (s.atKey (dkey 0x5100 2 k) x) (v - 1024)

/-- A TRI_LIST passes the test of R75 at its apply index. -/
def State.triOk (s : State) (k x : Nat) (b : List Byte) : Bool :=
  b.length % 6 == 0 && decide (b.length ≤ 12336) && (triList 2056 b).all (fun t => t.eraseDups.length == 3 && t.all (s.vertexOk k x))

/-- Keyframe times strictly increase from a lower bound. -/
def timesRise : Option Nat → List Keyframe → Bool
  | _, [] => true
  | m, k :: l => (match m with
    | some t => decide (t < k.time)
    | none => true) && timesRise (some k.time) l

/-- The form of a keyframe value (R83, point 1). -/
def kfForm (b : List Byte) : Bool :=
  b.length != 0 && b.length % 24 == 0 && decide (b.length ≤ 768) &&
    (List.range (b.length / 24)).all (fun i => let r := (b.drop (24 * i)).take 24
      decide (fieldAt r 20 1 ≤ 2) && fieldAt r 21 3 == 0)

/-! ### Keyframes (R83, R84, R86) -/

/-- The tests of a keyframe write, in the order of R83; where its entry is in use (`busy`) or its block is not the next (`seq`),
BUSY and SEQUENCE have the places of R368 (log entry 193). -/
def State.kfTest (s : State) (q : WReq) (busy seq : Bool) : Status :=
  let o := keyElem q.key
  let b := q.val.toBytes
  let l := keyframesOf 32 b
  let v := q.r + 2
  if q.apply ≠ 0 ∨ kfForm b = false then .range
  else if s.atKey (dkey 0x4000 9 o) (32 * v) = 0 then .state
  else if busy ∨ s.ringFull then .busy
  else if seq ∨ timesRise (agetD s.dam.kf o {}).high l = false then .sequence
  else if decide ((l.head?.map Keyframe.time).getD 0 < 32 * (q.r + 3)) then .late
  else if decide (32 * (q.r + 65536) < (l.getLast?.map Keyframe.time).getD 0) then .range
  else if 16384 ≤ s.pendingCount then .admission
  else .ok

/-- An accepted keyframe write: its records enter the model, the record is journaled with those that entered, and a
gap-marker record follows where some were dropped. The answer is RESULT, the write's records that the FIFO holds (R84,
R86). -/
def State.kfAccept (s : State) (q : WReq) : Nat × State :=
  let o := keyElem q.key
  let l := keyframesOf 32 q.val.toBytes
  let v := q.r + 2
  let m := agetD s.dam.kf o {}
  let mine := fun (j : JRec) => keyElem j.key == o && decide (j.apply ≤ 32 * v)
  let base := kfRetire (evalPoint (v - 1)) (kfTake v o (byApply (s.dam.kfPend.filter mine)) (m.items, 0, false)).1
  let e := kfEnter base l
  let took := min l.length (64 - base.length)
  let s1 := { s with dam := { s.dam with
    kf := aput s.dam.kf o { items := e.1, high := some ((l.getLast?.map Keyframe.time).getD 0) }
    kfPend := s.dam.kfPend.filter (fun j => !mine j) } }
  let part := q.val.toBytes.take (24 * took)
  let j : JRec := { s1.recOf q (32 * v) with kind := 2, val := .bytes part, part := part }
  let s2 := s1.addRec j
  if e.2 = 0 then (took, s2)
  else
    let s3 := s2.addRec { j with kind := 3, val := .num (Int.ofNat e.2), part := [] }
    (took - 1, s3.notify 4 (dkey 0x4000 0x30 o) v (beBytes 2 e.2))

/-! ### The entries' tests of a whole value -/

/-- The form and range of a whole value, of which TRI_LIST is tested at its apply index `a`. -/
def State.domForm (s : State) (e : DEntry) (q : WReq) (a : Nat) : Bool :=
  let b := q.val.toBytes
  let i := keyIdx q.key
  if i = 0x5100 then s.triOk (keyElem q.key) a b
  else if i = 0x6200 then csImageOk b
  else if i = 0x8000 then imgOk b
  else if i = 0x8010 then graphOk s.image b && nlSurvOk s.sub.nlDigest s.image (graphJobs b)
  else if i = 0xD100 then
    if keyElem q.key = 0 then imgAccept 1 s.sub.otpKeyDigest s.sub.otpMgmt b else imgAccept 2 s.sub.otpKeyDigest s.sub.otpCtrl b
  else if i = 0xB030 then true
  else s.rangeTest e q

/-- The value is in use: a Novil image that a graph names, a graph whose commit is pending (R272). -/
def State.domBusy (s : State) (k : Nat) : Bool :=
  (keyIdx k == 0x8000 && s.imageUsed (keyElem k)) || (keyIdx k == 0x8010 && s.feN 0x8010 3 0 == 2)

/-- A domain entry that the render units use (R360). -/
def domJournaled (k : Nat) : Bool :=
  let i := keyIdx k
  i == 0x4100 || i == 0x5100 || i == 0x6200 || i == 0x8000 || i == 0x8010

/-- The tests of a whole value at its LAST block, and its apply index (R360, R368): `busy` where the block begins a transfer of
an entry in use, `seq` where it is not the transfer's next block. -/
def State.domTest (s : State) (e : DEntry) (q : WReq) (busy seq : Bool := false) : Status × Nat :=
  if keyIdx q.key = 0x4100 then (s.kfTest q busy seq, 32 * (q.r + 2))
  else
    let a := if e.acc = .rwa then (if q.apply = 0 then 32 * s.earliest e q else q.apply)
      else if domJournaled q.key then 32 * (q.r + 1) else 0
    let join := if q.apply = 0 then none else some (q.apply / 32)
    if s.domForm e q a = false ∨ applyRange e q = false then (.range, 0)
    else if s.stateForbids q then (.state, 0)
    else if busy ∨ s.domBusy q.key ∨ (startsRebuild e q.key ∧ s.resyncHolds) ∨ (domJournaled q.key ∧ s.ringFull) then (.busy, 0)
    else if e.acc = .rwa ∧ q.apply ≠ 0 ∧ s.lateAt e q join q.apply then (.late, 0)
    else if seq then (.sequence, 0)
    else if domJournaled q.key ∧ 16384 ≤ s.pendingCount then (.admission, 0)
    else (.ok, a)

/-! ### What an accepted value does -/

/-- A control region that neither unit has loaded (R459). -/
def Subsoil.freeRegion (p : Subsoil) : Nat :=
  let a := (p.loadedRegion.getD 0 none).getD p.dir.regionA
  let b := (p.loadedRegion.getD 1 none).getD p.dir.regionB
  (([0, 1, 2] : List Nat).find? (fun r => r != a && r != b)).getD 0

/-- A firmware image is stored: a management image in the slot not running, a control image in the free region (R397, R398,
R458, R459). -/
def State.storeImage (s : State) (k : Nat) (b : List Byte) : State :=
  let p := s.sub
  let s1 := (s.setFeN 0xD100 2 k 2).setFeN 0xD100 3 k (imgVersion b)
  let s2 :=
    if k = 0 then { s1 with sub := { p with mgmtSlots := lset p.mgmtSlots (1 - p.runSlot) b } }
    else
      let g := p.freeRegion
      { s1.setFeN 0xD100 4 0 (imgClass b) with sub := { p with ctrlRegions := lset p.ctrlRegions g b, stagedRegion := some g } }
  s2.logEvent 0x0050 0 0 (imgVersion b) (k + 1 + 256)

/-- An image that fails its checks leaves UPD_STATE at 3 (R398). -/
def State.refuseImage (s : State) (k : Nat) (b : List Byte) : State :=
  (s.setFeN 0xD100 2 k 3).logEvent 0x0050 0 1 (imgVersion b) (k + 1 + 2 * 256)

/-- A value that Subsoil stores takes effect; a new credential closes its session (R355, R360, R370). -/
def State.storeDomain (s : State) (k : Nat) (v : DVal) : State :=
  let e := keyElem k
  let s1 := s.setFe (keyIdx k) (keySub k) e v
  if k = dkey 0xC100 1 e ∧ s.fe k ≠ v then s1.closeSession e false else s1

/-- The whole value is accepted: the journal record of kind 2, the staged or stored value. The answer is RESULT. -/
def State.domAccept (s : State) (e : DEntry) (q : WReq) (a off : Nat) (part : List Byte) : Nat × State :=
  let k := keyElem q.key
  let i := keyIdx q.key
  let b := q.val.toBytes
  let s1 := s.markKept e
  if i = 0x4100 then s1.kfAccept q
  else if domJournaled q.key then
    let s2 := s1.addRec { s1.recOf q a with kind := 2, off := off, part := part }
    (0,
      if i = 0x6200 then { s2.setFeN 0x6210 1 0 2 with dam := { s2.dam with csStage := some (k, b) } }
      else if i = 0x5100 then s2
      else
        let s3 := if s2.lastLost then s2 else s2.setFe i (keySub q.key) k q.val
        if i = 0x8010 then s3.setFeN 0x8010 3 0 1 else s3)
  else if i = 0xD100 then (0, s1.storeImage k b)
  else if i = 0xB030 then (0, { s1.setFeN 0xB030 3 0 2 with sub := { s1.sub with islandStage := b } })
  else (0, s1.storeDomain q.key q.val)

/-! ### Blocks (R360, R361) -/

/-- A block of a transfer. -/
structure DBlock where
  xfer : Nat
  first : Bool
  last : Bool
  block : Nat
  total : Nat
  crc : Nat
  apply : Nat
  data : List Byte
deriving DecidableEq, Repr

/-- The fields of a DOMAIN_WRITE body behind its address (R360). -/
def blockOf (b : List Byte) : DBlock :=
  let f := fieldAt b 10 1
  ⟨fieldAt b 8 2, natBit f 0, natBit f 1, fieldAt b 12 4, fieldAt b 16 4, fieldAt b 20 4, fieldAt b 24 8, b.drop 32⟩

/-- A session's transfer by its XFER. -/
def Session.xferOf (y : Session) (x : Nat) : Option Xfer := y.xfers.find? (fun f => f.xfer == x)

/-- A session's transfer replaced or added. -/
def Session.setXfer (y : Session) (f : Xfer) : Session :=
  { y with xfers := y.xfers.filter (fun g => g.xfer != f.xfer) ++ [f] }

/-- The state with a transfer of a session replaced. -/
def State.setXfer (s : State) (n : Nat) (f : Xfer) : State := s.setSess n ((s.sess n).setXfer f)

/-- A running transfer is aborted, with what its entry's rule does to the staging (R361). -/
def State.abortXfer (s : State) (n : Nat) (f : Xfer) : State :=
  if f.running then (s.setXfer n { f with running := false, aborted := true, data := [] }).dropStaging f.key else s

/-- What every block of an entry meets before the block rules: NO_ENTRY, ACCESS, TENANCY, LOCKED, TYPE, SEALED (R368, R395). -/
def State.domRights (s : State) (n : Nat) (k : Nat) : Status :=
  match keyEntry k with
  | none => .noEntry
  | some e =>
    let role := s.roleTest n e (keyElem k)
    if role = .auth ∨ role = .access then role
    else if e.acc = .const ∨ e.acc = .ro then .access
    else if role = .tenancy then .tenancy
    else if s.lockedBy n k then .locked
    else if e.ty ≠ .dom then .type
    else if k = dkey 0xB030 1 0 ∧ s.unsealSeen = false then .sealed
    else .ok

/-- A FIRST block finds its entry busy: another session transfers it, an upload is being received or committed, an update or an
activation runs (R192, R360, R398). -/
def State.firstBusy (s : State) (n k : Nat) : Bool :=
  let e := keyElem k
  let i := keyIdx k
  let others := sessionIds.any (fun m => m != n && (s.sess m).xfers.any (fun f => f.running && f.key == k))
  let up := s.feN 0x6210 1 0
  others || decide (4 ≤ ((s.sess n).xfers.filter (fun f => f.running)).length) || (i == 0x6200 && (up == 1 || up == 3)) ||
    (i == 0xD100 && e == 1 && (s.ua.hl.update == 1 || s.ua.hl.update == 2 || s.ub.hl.update == 1 || s.ub.hl.update == 2)) ||
    (i == 0xD100 && e == 0 && s.sub.dir.trial && s.sub.runSlot == s.sub.dir.slot) || s.domBusy k

/-- A transfer that begins shows itself in its entry (R192, R394, R397). -/
def State.firstEffect (s : State) (k : Nat) : State :=
  let e := keyElem k
  let i := keyIdx k
  if i = 0x6200 then { (s.setFeN 0x6210 1 0 1).setFeN 0x6210 2 0 e with dam := { s.dam with csStage := none } }
  else if i = 0xD100 then s.setFeN 0xD100 2 e 1
  else if i = 0xB030 then s.setFeN 0xB030 3 0 1
  else s

/-- A refused LAST block: where the entry's rule discards the staging the transfer is aborted (R192, R361, R398); otherwise it
stands as before the block. -/
def State.domRefuse (s : State) (n : Nat) (f : Xfer) (st : Status) (b : List Byte) : State :=
  let i := keyIdx f.key
  if i = 0x6200 then s.abortXfer n f
  else if i = 0xD100 ∧ st = .range then (s.abortXfer n f).refuseImage (keyElem f.key) b
  else s

/-- The result body of a block. -/
def domBody (jseq apply res : Nat) : List Byte := writeBody jseq apply res

/-- A refused block. -/
def domRefused (st : Status) (s : State) : OpRes × State := ({ st := st, body := domBody 0 0 0 }, s)

/-- The LAST block of a transfer `f` with the value `all`; the value's CRC counts where the transfer holds every block before
it. -/
def State.lastBlock (s : State) (c : MsgCtx) (e : DEntry) (f : Xfer) (d : DBlock) (all : List Byte) (busy : Bool) :
    OpRes × State :=
  let n := c.session
  let seq : Bool := d.block != f.next
  if busy = false ∧ seq = false ∧ crc32 all ≠ d.crc then domRefused .domainAbort (s.abortXfer n f)
  else
    let q : WReq := { sess := n, x := c.x, key := f.key, val := .bytes all, apply := d.apply }
    match s.domTest e q busy seq with
    | (.ok, a) =>
      let s1 := s.setXfer n { f with next := d.block + 1, data := [], running := false, us := s.tb.us }
      let r := s1.domAccept e q a f.data.length d.data
      let j := domJournaled f.key
      ({ st := .ok, applied := true, lost := j && keyIdx f.key != 0x4100 && r.2.lastLost,
         body := domBody (if j then s.sub.jseq else 0) a r.1 }, r.2)
    | (st, _) => domRefused st (if seq then s else s.domRefuse n f st all)

/-- A further or first block of a transfer `f` that runs, with the tests in the order of R368 (R192, R360): `busy` where it is
the FIRST block for an entry in use. -/
def State.nextBlock (s : State) (c : MsgCtx) (e : DEntry) (f : Xfer) (d : DBlock) (busy : Bool) : OpRes × State :=
  let n := c.session
  let all := f.data ++ d.data
  let ring := domJournaled f.key && keyIdx f.key != 0x4100
  if d.last ∧ all.length ≠ f.total then
    domRefused .range (if keyIdx f.key = 0x6200 then s.domRefuse n f .range all else s)
  else if d.last then s.lastBlock c e f d all busy
  else if f.total < all.length then domRefused .range s
  else if busy ∨ (ring ∧ s.ringFull) then domRefused .busy s
  else if d.block ≠ f.next then domRefused .sequence s
  else if ring then
      let a := 32 * (c.x / 32 + 1)
      let s1 := s.setXfer n { f with next := d.block + 1, data := all, us := s.tb.us }
      let j : JRec :=
        { jseq := 0, apply := a, session := n, kind := 1, key := f.key, val := .bytes [], prio := s.prio n
          off := f.data.length, part := d.data }
      ({ st := .ok, applied := true, body := domBody s.sub.jseq a 0 }, s1.addRec j)
  else
    ({ st := .ok, applied := true, body := domBody 0 0 0 },
      s.setXfer n { f with next := d.block + 1, data := all, us := s.tb.us })

/-- A refused LAST block of an entry has an effect of its own: a transfer that its CRC aborts, and staging that the entry's rule
discards (R192, R360, R398). -/
def lastActs (k : Nat) (d : DBlock) (st : Status) : Bool :=
  d.last && (st == .domainAbort || keyIdx k == 0x6200 || (keyIdx k == 0xD100 && st == .range))

/-- A FIRST block; refused, it leaves everything as it was, but for what a refused LAST block of a transfer that could begin does
(R360, R368). -/
def State.firstBlock (s : State) (c : MsgCtx) (e : DEntry) (k : Nat) (d : DBlock) : OpRes × State :=
  let n := c.session
  let s1 := match (s.sess n).xferOf d.xfer with
    | some f => s.abortXfer n f
    | none => s
  let f : Xfer := { xfer := d.xfer, key := k, total := d.total, next := 0, data := [], running := true, aborted := false, us := s.tb.us }
  let busy := s1.firstBusy n k
  let r := ((if busy then s1 else s1.firstEffect k).setXfer n f).nextBlock c e f d busy
  if r.1.st = .ok ∨ (busy = false ∧ lastActs k d r.1.st) then r else (r.1, s)

/-- DOMAIN_WRITE. -/
def runDomainWrite : OpRun := fun c o s =>
  let a := addrOf o.body
  let d := blockOf o.body
  let n := c.session
  match a.entry with
  | none => domRefused .noEntry s
  | some e =>
    let k := a.key
    let m := s.modeTest n k
    let r := s.domRights n k
    if a.count ≠ 1 then domRefused .noEntry s
    else if m ≠ .ok then domRefused m s
    else if r ≠ .ok then domRefused r s
    else if d.first then s.firstBlock c e k d
    else
      match (s.sess n).xferOf d.xfer with
      | none => domRefused .sequence s
      | some f =>
        if f.aborted then domRefused .domainAbort s
        else if f.key ≠ k then domRefused .sequence s
        else if d.block + 1 = f.next then ({ st := .ok, applied := true, body := domBody 0 0 0 }, s)
        else if f.running then s.nextBlock c e f d false
        else domRefused .sequence s

/-- DOMAIN_ABORT (R361). -/
def runDomainAbort : OpRun := fun c o s =>
  match (s.sess c.session).xferOf (fieldAt o.body 0 2) with
  | some f => ({ st := .ok, applied := true }, s.abortXfer c.session f)
  | none => ({ st := .ok, applied := true }, s)

/-- DOMAIN_TRANSFER_TIMEOUT: a transfer of session `n` that has had no block for 10 s is aborted (R361). -/
def execDomainTransferTimeout (n x : Nat) (s : State) : Host.Outcome State Fault Refusal :=
  match (s.sess n).xferOf x with
  | some f => if s.frontRuns ∧ f.running ∧ 10000000 ≤ s.usSince f.us then .next (s.abortXfer n f) else .next s
  | none => .next s

end Sys2Proof.Machine
end

