-- ==== Sys2Proof/Machine/DameelFront.lean ====
section
/-!
DEFINITION. The front end's messages one at a time (R349): a request from its first operation to its reply, an open, and the
commands that stand for a host's write of one entry.
-/
namespace Sys2Proof.Machine
open Sys2Proof

/-! ### A request, operation by operation (R349) -/

/-- How the operation of an OP code acts (R357); CLOSE is the last of them. -/
def runOf (op : Nat) : OpRun :=
  match op with
  | 0x01 => runRead
  | 0x02 => runWrite
  | 0x04 => runSubscribe
  | 0x05 => runUnsubscribe
  | 0x06 => runLock
  | 0x07 => runUnlock
  | 0x08 => runDomainWrite
  | 0x09 => runDomainRead
  | 0x0A => runDomainAbort
  | 0x0B => runKeepalive
  | 0x0C => runJournalRead
  | _ => runClose

/-- Operation `i` of a begun message is handled; a management restart that it causes drops the message (R349, R454). -/
def State.handleOp (s : State) (c : MsgCtx) (i : Nat) : State :=
  let ops := (opsOf c.dg).getD []
  match ops[i]? with
  | none => s
  | some o =>
    if c.next ≠ i then s
    else if c.atomic then
      if i = 0 then
        let r := atomicRun runWrite c ops s
        (r.2.getD s).flushInt.advanceMsg c ops.length r.1
      else s.advanceMsg c ops.length c.results
    else
      let r := s.runOp (runOf o.op) c o
      r.2.flushInt.advanceMsg c ops.length (c.results ++ [r.1.result o.op true])

/-- The next operation of the message in progress. -/
def State.nextOp (s : State) : State :=
  match s.dam.cur with
  | some c => s.handleOp c c.next
  | none => s

/-- The operations of the message in progress that have not been handled, and its reply: the front end handles messages one at
a time (R349). -/
def State.finishMsg (s : State) : State :=
  match s.dam.cur with
  | some c => (List.range ((opsOf c.dg).getD []).length).foldl (fun (t : State) _ => t.nextOp) s
  | none => s

/-- The message's first operation has the OP code of the row, or the message never reaches its operations. -/
def startsWith (dg : List Byte) (code : Nat) : Bool :=
  match msgStatus dg (opsOf dg), opsOf dg with
  | .ok, some (o :: _) => o.op == code
  | _, _ => true

/-- Operation `i` of the datagram has the OP code of the row. -/
def opIs (dg : List Byte) (code i : Nat) : Bool := ((((opsOf dg).getD [])[i]?).map (fun o => o.op == code)).getD false

/-- Operation `i` of a datagram reaches the front end: with the first the message before it is finished and this one begun, the
others follow in order (R349). -/
def State.dmlStep (s : State) (code : Nat) (src : Peer) (dg : List Byte) (i : Nat) : State :=
  if s.frontRuns = false then s
  else if i = 0 then
    if startsWith dg code = false then s
    else if s.finishMsg.frontRuns then (s.finishMsg.beginMsg src dg).nextOp
    else s.finishMsg
  else
    match s.dam.cur with
    | some c => if c.dg = dg ∧ c.src = src ∧ c.next = i ∧ opIs dg code i then s.nextOp else s
    | none => s

/-- READ: the value in force, or with PENDING the one that pending writes will leave (R357). -/
def execDmlRead (src : Peer) (dg : List Byte) (i : Nat) (s : State) : Host.Outcome State Fault Refusal :=
  .next (s.dmlStep 0x01 src dg i)

/-- WRITE: a value is tested in the order of R368 and, if accepted, journaled with its apply index (R358). -/
def execDmlWrite (src : Peer) (dg : List Byte) (i : Nat) (s : State) : Host.Outcome State Fault Refusal :=
  .next (s.dmlStep 0x02 src dg i)

/-- SUBSCRIBE: a subscription to changes or to periodic values (R363). -/
def execDmlSubscribe (src : Peer) (dg : List Byte) (i : Nat) (s : State) : Host.Outcome State Fault Refusal :=
  .next (s.dmlStep 0x04 src dg i)

/-- UNSUBSCRIBE: a subscription that the session holds ends (R357). -/
def execDmlUnsubscribe (src : Peer) (dg : List Byte) (i : Nat) (s : State) : Host.Outcome State Fault Refusal :=
  .next (s.dmlStep 0x05 src dg i)

/-- LOCK: elements are reserved for the session (R365). -/
def execDmlLock (src : Peer) (dg : List Byte) (i : Nat) (s : State) : Host.Outcome State Fault Refusal :=
  .next (s.dmlStep 0x06 src dg i)

/-- UNLOCK: one lock, all of the session's, or by FORCE another session's are released (R365). -/
def execDmlUnlock (src : Peer) (dg : List Byte) (i : Nat) (s : State) : Host.Outcome State Fault Refusal :=
  .next (s.dmlStep 0x07 src dg i)

/-- DOMAIN_WRITE: one block of a domain transfer (R360). -/
def execDmlDomainWrite (src : Peer) (dg : List Byte) (i : Nat) (s : State) : Host.Outcome State Fault Refusal :=
  .next (s.dmlStep 0x08 src dg i)

/-- DOMAIN_READ: part of a domain value with its VERSION (R362). -/
def execDmlDomainRead (src : Peer) (dg : List Byte) (i : Nat) (s : State) : Host.Outcome State Fault Refusal :=
  .next (s.dmlStep 0x09 src dg i)

/-- DOMAIN_ABORT: a running transfer of the session ends without its value (R361). -/
def execDmlDomainAbort (src : Peer) (dg : List Byte) (i : Nat) (s : State) : Host.Outcome State Fault Refusal :=
  .next (s.dmlStep 0x0A src dg i)

/-- KEEPALIVE: the lease, which every message renews, and the sample index (R357). -/
def execDmlKeepalive (src : Peer) (dg : List Byte) (i : Nat) (s : State) : Host.Outcome State Fault Refusal :=
  .next (s.dmlStep 0x0B src dg i)

/-- JOURNAL_READ: up to MAX journal records from a number on (R366). -/
def execDmlJournalRead (src : Peer) (dg : List Byte) (i : Nat) (s : State) : Host.Outcome State Fault Refusal :=
  .next (s.dmlStep 0x0C src dg i)

/-- CLOSE: the session ends (R372). -/
def execDmlClose (src : Peer) (dg : List Byte) (i : Nat) (s : State) : Host.Outcome State Fault Refusal :=
  .next (s.dmlStep 0x0E src dg i)

/-- OPEN: a session begins or is resumed with a new epoch drawn at random, or is refused in a status reply (R354); a message in
progress is finished first (R349). -/
def execDmlOpen (src : Peer) (dg : List Byte) (s : State) : Host.Outcome State Fault Refusal :=
  let n := fieldAt dg 4 1
  if s.frontRuns = false ∨ s.takes 4 src dg = false then .next s
  else
    let s0 := s.finishMsg
    if s0.frontRuns = false then .next s0
    else if s0.tagOk dg = false then .next s0.authFail
    else
      let x := s0.tb.sidx
      let s1 := (s0.endLeases x).renew n x src
      if fieldAt dg 6 2 ≠ 16 ∨ fieldAt dg 8 8 ≠ 0 ∨ fieldAt dg 16 8 ≠ 0 then .next (s1.statusReply n .type 0 src)
      else if s1.role n = 0 then .next (s1.statusReply n .auth 0 src)
      else if (s1.sess n).isOpen ∧ natBit (fieldAt dg 5 1) 1 = false then .next (s1.statusReply n .busy 0 src)
      else
        let epoch := s1.freeNat % 2 ^ 64
        let s2 := s1.drawn.beginSession n x epoch src
        let body := s2.openBody n x epoch ((dg.drop 32).take 16)
        .next (s2.putReply (s0.cred n) ⟨5, n, .ok, epoch, 1, 0, [⟨0, .ok, true, true, false, body⟩], s.dmlPort, src⟩)

/-! ### Commands that are a write of one entry -/

/-- A command that stands for session `n`'s write of one entry: a message in progress is finished and the session's lease is
looked at first, and the decision is put out (R349, R372). -/
def State.entryWrite (s : State) (n key : Nat) (v : Int) (apply : Nat) : State :=
  if s.frontRuns = false then s
  else if s.finishMsg.frontRuns = false then s.finishMsg
  else
    let x := s.finishMsg.tb.sidx
    let s1 := s.finishMsg.endLeases x
    if n ∈ sessionIds ∧ (s1.sess n).isOpen then
      let r := s1.hostWrite { sess := n, x := x, key := key, val := .num v, apply := apply }
      r.2.flushInt.emit (.decision n r.1.st)
    else s1.emit (.decision n .auth)

/-- POWER_REQ: STANDBY, IDLE or READY is asked for (R444). -/
def execPowerReq (n v : Nat) (s : State) : Host.Outcome State Fault Refusal := .next (s.entryWrite n (dkey 0x1100 2 0) v 0)

/-- STORE_RESET: the store, the training results and the snapshots are erased at the next start (R461). -/
def execStoreResetWrite (n v : Nat) (s : State) : Host.Outcome State Fault Refusal :=
  .next (s.entryWrite n (dkey 0x1020 2 0) v 0)

/-- RENDER: the start or the end of rendering is scheduled (R384, R444). -/
def execRenderWrite (n v a : Nat) (s : State) : Host.Outcome State Fault Refusal := .next (s.entryWrite n (dkey 0x1100 3 0) v a)

/-- CS_COMMIT: the staged image is committed to a slot (R193). -/
def execCsCommit (n k v a : Nat) (s : State) : Host.Outcome State Fault Refusal := .next (s.entryWrite n (dkey 0x6200 2 k) v a)

/-- CS_EMPTY: a slot is emptied at once outside RENDER (R194). -/
def execCsEmpty (n k v : Nat) (s : State) : Host.Outcome State Fault Refusal := .next (s.entryWrite n (dkey 0x6200 3 k) v 0)

/-- NV_GRAPH_COMMIT: the staged graph is admitted and prepared in the shadow pages (R265, R266). -/
def execNvGraphCommit (n v a : Nat) (s : State) : Host.Outcome State Fault Refusal := .next (s.entryWrite n (dkey 0x8010 2 0) v a)

/-- UPDATE: a unit's reload is scheduled (R234). -/
def execUpdateWrite (n u v a : Nat) (s : State) : Host.Outcome State Fault Refusal := .next (s.entryWrite n (dkey 0x9030 2 u) v a)

/-- MGMT_ACTIVATE (R458). -/
def execMgmtActivate (n v : Nat) (s : State) : Host.Outcome State Fault Refusal := .next (s.entryWrite n (dkey 0xD100 5 0) v 0)

/-- CTRL_INSTALL (R459). -/
def execCtrlInstall (n v : Nat) (s : State) : Host.Outcome State Fault Refusal := .next (s.entryWrite n (dkey 0xD100 7 0) v 0)

/-- SURV_GO: a survey step is scheduled (R290). -/
def execSurvGo (n v a : Nat) (s : State) : Host.Outcome State Fault Refusal := .next (s.entryWrite n (dkey 0xA020 4 0) v a)

/-- RNG_GO: link ranging begins on a TDM port (R282). -/
def execRngGo (n t v : Nat) (s : State) : Host.Outcome State Fault Refusal := .next (s.entryWrite n (dkey 0x3C30 1 t) v 0)

/-- PORT_CONFIG_WRITE: SPEED (`fec` false) or FEC_EN of a port is written (R300). -/
def execPortConfigWrite (n p : Nat) (fec : Bool) (v : Nat) (s : State) : Host.Outcome State Fault Refusal :=
  .next (s.entryWrite n (dkey 0x3000 (if fec then 2 else 1) p) v 0)

/-- KICK: session `k`'s lease ends now (R375). -/
def execKickWrite (n k v : Nat) (s : State) : Host.Outcome State Fault Refusal := .next (s.entryWrite n (dkey 0xC100 8 k) v 0)

/-- SNAPSHOT: session `k`'s snapshot is taken (R372). -/
def execSnapshotWrite (n k v : Nat) (s : State) : Host.Outcome State Fault Refusal := .next (s.entryWrite n (dkey 0xC200 6 k) v 0)

/-- KAO_INSTALL: the staged island image is installed (R395, R426). -/
def execKaoInstall (n v : Nat) (s : State) : Host.Outcome State Fault Refusal := .next (s.entryWrite n (dkey 0xB030 2 0) v 0)

/-- The owner entry of a resource; a DMA channel has none (R34). -/
def ownerKey (r : Res) : Nat :=
  match r with
  | .tt t => dkey 0x2100 1 t
  | .gpio g => dkey 0x3800 1 g
  | .cap => dkey 0xA000 1 0
  | .tdm7 => dkey 0x3700 1 0
  | .dma _ _ => 0

/-- OWNER_ENTRY_WRITE: a session claims or releases a resource through its owner entry (R34). -/
def execOwnerEntryWrite (n : Nat) (r : Res) (v : Nat) (s : State) : Host.Outcome State Fault Refusal :=
  .next (s.entryWrite n (ownerKey r) v 0)

/-! ### Commands that a host or a core's firmware gives -/

/-- TRIGGER_ARM: START is written, by a host or through the trigger's registers (R67, R526). -/
def execTriggerArm (who : Agent) (t start : Nat) (s : State) : Host.Outcome State Fault Refusal :=
  match who with
  | .host n => .next (s.entryWrite n (dkey 0x2100 4 t) start 0)
  | a =>
    if 16 ≤ t then .next s
    else
      match s.agentId a (.tt t) with
      | some id => .next ((s.claimFor (.tt t) id).trigRegArm id t (start % 2 ^ 64))
      | none => .next (s.refuseOwn (.tt t))

/-- TRIGGER_DISARM: a trigger is disarmed (R67, R526). -/
def execTriggerDisarm (who : Agent) (t : Nat) (s : State) : Host.Outcome State Fault Refusal :=
  match who with
  | .host n => .next (s.entryWrite n (dkey 0x2100 0xA t) 1 0)
  | a =>
    if 16 ≤ t then .next s
    else
      match s.agentId a (.tt t) with
      | some id => .next ((s.claimFor (.tt t) id).disarm t)
      | none => .next (s.refuseOwn (.tt t))

/-- The sub-index of a GPIO field (R389). -/
def gpioSub (f : GpioField) : Nat :=
  match f with
  | .func => 2
  | .pol => 3
  | .out => 4

/-- GPIO_CONFIG_WRITE: a ball is configured, by a host or by an agent that acts through the management core (R36, R390). -/
def execGpioConfigWrite (who : Agent) (g : Nat) (f : GpioField) (v : Nat) (s : State) : Host.Outcome State Fault Refusal :=
  match who with
  | .host n => .next (s.entryWrite n (dkey 0x3800 (gpioSub f) g) v 0)
  | a =>
    if 24 ≤ g ∨ gpioRange f v = false then .next s
    else
      match s.agentId a (.gpio g) with
      | some id => .next ((s.claimFor (.gpio g) id).gpioSet g f v)
      | none => .next (s.refuseOwn (.gpio g))

/-- ARB_CLEAR: the arbiter's counters are cleared, by a host or by ARB_CMD.CLEAR, which only the management core writes (R238,
R527). -/
def execArbClear (who : Agent) (v : Nat) (s : State) : Host.Outcome State Fault Refusal :=
  match who with
  | .host n => .next (s.entryWrite n (dkey 0x9010 0xC 0) v 0)
  | .firmware .mgmt => .next (if v = 1 then s.arbClear else s)
  | .firmware c => .next (s.regFail c .shared 0x30030000 5 true)
  | .survey => .next s

/-- LOG_REQ: a log page is asked for, by a host or by a write of KO_LOG_REQ (R395, R430). -/
def execLogReq (who : Agent) (v : Nat) (s : State) : Host.Outcome State Fault Refusal :=
  match who with
  | .host n => .next (s.entryWrite n (dkey 0xB010 1 0) v 0)
  | .firmware .mgmt => .next (s.koLogReq (v % 2 ^ 32))
  | .firmware c => .next (s.regFail c .shared 0x30060010 5 true)
  | .survey => .next s

end Sys2Proof.Machine
end

