-- ==== Sys2Proof/Machine/Sieve.lean ====
section
/-!
DEFINITION. The task scheduler's firmware items (chapter 16, R506 to R514): pushes, pops, flows, the delay list, and the
spill to LP5 memory.
-/
namespace Sys2Proof.Machine
open Sys2Proof

/-- The list of a priority. -/
def Sieve.list (v : Sieve) (p : Nat) : SvList := agetD v.lists p {}

/-- The Sieve with a priority list replaced. -/
def Sieve.setList (v : Sieve) (p : Nat) (l : SvList) : Sieve := { v with lists := aputD v.lists p l {} }

/-- The eight priorities, the highest first. -/
def prioDown : List Nat := [7, 6, 5, 4, 3, 2, 1, 0]

/-- On-chip entries in use: list items on the chip and delayed items (R510, R511). -/
def Sieve.onchip (v : Sieve) : Nat := (prioDown.map (fun p => (v.list p).chip.length)).sum + v.delay.length

/-- Spilled items. -/
def Sieve.spilled (v : Sieve) : Nat := (prioDown.map (fun p => (v.list p).spilled.length)).sum

/-- SV_LEVEL: every item held (R512). -/
def Sieve.level (v : Sieve) : Nat := v.onchip + v.spilled

/-- The state with a unit's Sieve replaced: the level's peak and CROSSED follow (R512). -/
def State.setSv (s : State) (u : UnitId) (v : Sieve) : State :=
  let before := (s.unit u).sv.level
  let wm := s.reg (.unit u) 0x20040048
  let s1 := s.onUnit u (fun r => { r with sv := v })
  let s2 := s1.setReg (.unit u) 0x2004004C (max (s.reg (.unit u) 0x2004004C) v.level)
  if wm ≠ 0 ∧ before < wm ∧ wm ≤ v.level then s2.setStat (.unit u) svStat 1 else s2

/-- A counter of the Sieve that CNT_HOLD holds. -/
def State.svCount (s : State) (u : UnitId) (addr : Nat) : State :=
  if natBit (s.reg (.unit u) 0x20040000) 1 then s else s.countReg (.unit u) addr 1

/-- An item enters its priority list: behind the spilled items where the list has some (R511). -/
def Sieve.enter (v : Sieve) (i : SvItem) : Sieve :=
  let l := v.list i.prio
  let j := { i with stamp := v.stamp }
  let v1 := { v with stamp := v.stamp + 1 }
  if l.spilled.isEmpty then v1.setList i.prio { l with chip := l.chip ++ [j] }
  else v1.setList i.prio { l with spilled := l.spilled ++ [j] }

/-- A due time's place in the 48-bit circle, seen from a time: those already reached come first (R510). -/
def duePlace (us d : Nat) : Nat := (d + 2 ^ 47 + 2 ^ 48 - us % 2 ^ 48) % 2 ^ 48

/-- A delayed item takes its place by due time, behind those with the same (R510). -/
def delayInsert (us d : Nat) (i : SvItem) : List (Nat × SvItem) → List (Nat × SvItem)
  | [] => [(d, i)]
  | e :: l => if duePlace us d < duePlace us e.1 then (d, i) :: e :: l else e :: delayInsert us d i l

/-- The flows of the active and the pending job graph (R513). -/
def NovilArray.flowReserved (v : NovilArray) (flow : Nat) : Bool :=
  flow != 0 && (v.graph ++ ((v.next.map (·.2)).getD [])).any (fun j => j.flow == flow)

/-- The outcome of a push (R507): 3 a reserved field, 2 a reserved flow, 1 full, 0 accepted. -/
def pushOutcome (r : RUnit) (w3 : Nat) : Nat :=
  let v := r.sv
  let p := natBits w3 16 3
  if w3 / 2 ^ 20 ≠ 0 then 3
  else if r.nv.flowReserved (w3 % 65536) then 2
  else if natBit w3 19 then (if v.delay.length < 1024 ∧ v.onchip < 4096 then 0 else 1)
  else if (v.list p).spilled.isEmpty then (if v.onchip < 4096 then 0 else 1)
  else if v.spilled < 1048576 then 0
  else 1

/-- SV_PUSH: a write of SV_PUSH_3 pushes the descriptor (R507); another master receives an error response. -/
def execSvPush (c : Core) (u : UnitId) (w3 : Nat) (s : State) : Host.Outcome State Fault Refusal :=
  if c ≠ u.core then .next (s.regFail c (.unit u) 0x2004001C 5 true)
  else
    let r := s.unit u
    let o := pushOutcome r w3
    if o = 0 then
      let i : SvItem :=
        ⟨r.sv.push0 + 2 ^ 32 * r.sv.push1, r.sv.push2, w3 % 65536, natBits w3 16 3, natBit w3 19, if natBit w3 19 then s.tb.us else 0⟩
      let due := s.reg (.unit u) 0x20040024 + 2 ^ 32 * (s.reg (.unit u) 0x20040028 % 65536)
      let v := if i.delayed then { r.sv with delay := delayInsert s.tb.us due i r.sv.delay } else r.sv.enter i
      .next (s.setSv u { v with pushRes := 0 })
    else
      let s1 := s.onUnit u (fun r => { r with sv := { r.sv with pushRes := o } })
      .next ((s1.svCount u 0x20040064).setStat (.unit u) svStat 4)

/-- An item is the oldest ready one of its flow over all priorities (R508). -/
def Sieve.oldest (v : Sieve) (i : SvItem) : Bool :=
  prioDown.all (fun p => ((v.list p).chip ++ (v.list p).spilled).all (fun j =>
    j.flow != i.flow || decide (i.stamp ≤ j.stamp)))

/-- An on-chip item is eligible (R508, R509). -/
def Sieve.eligible (v : Sieve) (i : SvItem) : Bool :=
  i.flow == 0 || (decide (v.insvc.length < 256) && !v.insvc.contains i.flow && v.oldest i)

/-- The item that a pop returns: the oldest eligible one of the highest priority that has one (R508). -/
def Sieve.popItem (v : Sieve) : Option SvItem :=
  prioDown.findSome? (fun p => (v.list p).chip.find? v.eligible)

/-- The Sieve without an on-chip item, whose flow enters service (R509). -/
def Sieve.take (v : Sieve) (i : SvItem) : Sieve :=
  let l := v.list i.prio
  let v1 := v.setList i.prio { l with chip := l.chip.filter (fun j => j.stamp ≠ i.stamp) }
  if i.flow = 0 then v1 else { v1 with insvc := i.flow :: v1.insvc }

/-- Word 3 of a popped item. -/
def SvItem.word3 (i : SvItem) : Nat := i.flow + 2 ^ 16 * i.prio + (if i.delayed then 2 ^ 19 else 0) + 2 ^ 31

/-- What a read of SV_POP_0 returns, and the state after it (R508); with no eligible item, or EN 0, SV_POP_3 reads VALID 0
and word 0 is a free value (log entry 13). -/
def State.svPop (s : State) (u : UnitId) : Nat × State :=
  let v := (s.unit u).sv
  match (if natBit (s.reg (.unit u) 0x20040000) 0 then v.popItem else none) with
  | some i =>
    (i.arg % 2 ^ 32, s.setSv u { v.take i with pop1 := i.arg / 2 ^ 32, pop2 := i.func, pop3 := i.word3 })
  | none => (s.freeNat % 2 ^ 32, (s.onUnit u (fun r => { r with sv := { r.sv with pop3 := 0 } })).drawn)

/-- SV_POP: a read of SV_POP_0 by the unit's control core; another master receives an error response (R508). -/
def execSvPop (c : Core) (u : UnitId) (s : State) : Host.Outcome State Fault Refusal :=
  if c ≠ u.core then .next (s.regFail c (.unit u) 0x20040030 5 false)
  else .next ((s.svPop u).2.emit (.regValue c 0x20040030 (s.svPop u).1))

/-- SV_DONE: a flow leaves service; one that is not in service sets BAD_DONE (R509). -/
def execSvDone (c : Core) (u : UnitId) (w : Nat) (s : State) : Host.Outcome State Fault Refusal :=
  let f := w % 65536
  if c ≠ u.core then .next (s.regFail c (.unit u) 0x20040040 5 true)
  else if f ∈ (s.unit u).sv.insvc then
    .next (s.onUnit u (fun r => { r with sv := { r.sv with insvc := setDel r.sv.insvc f } }))
  else .next (s.setStat (.unit u) svStat 8)

/-- A delayed item moves at a time: its due time is reached, at a step of TB_US after its push (R510). -/
def delayDue (us : Nat) (e : Nat × SvItem) : Bool :=
  decide ((us + 2 ^ 48 - e.1 % 2 ^ 48) % 2 ^ 48 < 2 ^ 47) && decide (e.2.stamp ≠ us)

/-- The delayed items that are due move to their lists in due order (R510). -/
def Sieve.release (us : Nat) (v : Sieve) : Sieve :=
  let due := delayDue us
  (v.delay.filter due).foldl (fun v e => v.enter e.2) { v with delay := v.delay.filter (fun e => !due e) }

/-- DELAY_RELEASE: at a step of TB_US (R510). -/
def execDelayRelease (u : UnitId) (s : State) : Host.Outcome State Fault Refusal :=
  .next (s.setSv u ((s.unit u).sv.release s.tb.us))

/-- The tails of the lowest-priority lists that have on-chip items move to the spill, `n` items in all. -/
def spillFrom : List Nat → Nat → Sieve → Sieve
  | [], _, v => v
  | p :: ps, n, v =>
    let l := v.list p
    let k := min n l.chip.length
    let keep := l.chip.length - k
    let v1 := if k = 0 then v else v.setList p ⟨l.chip.take keep, l.chip.drop keep ++ l.spilled⟩
    spillFrom ps (n - k) v1

/-- SIEVE_SPILL: when the on-chip entries reach SV_SPILL_HI (R511). -/
def execSieveSpill (u : UnitId) (s : State) : Host.Outcome State Fault Refusal :=
  let v := (s.unit u).sv
  if v.onchip < s.reg (.unit u) 0x20040054 then .next s
  else .next (s.setSv u (spillFrom prioDown.reverse (min 256 (1048576 - v.spilled)) v))

/-- The list that a reload serves: one whose on-chip part is empty at once, else at SV_RELOAD_LO the highest priority that
has spilled items (R511). -/
def Sieve.reloadList (v : Sieve) (lo : Nat) : Option Nat :=
  let has := prioDown.filter (fun p => !(v.list p).spilled.isEmpty)
  match has.find? (fun p => (v.list p).chip.isEmpty) with
  | some p => some p
  | none => if v.onchip ≤ lo then has.head? else none

/-- SIEVE_RELOAD: up to 256 of the oldest spilled items come back; those whose places `ue` lists prove uncorrectable and
are lost (R511). -/
def execSieveReload (u : UnitId) (ue : List Nat) (s : State) : Host.Outcome State Fault Refusal :=
  let v := (s.unit u).sv
  match v.reloadList (s.reg (.unit u) 0x20040058) with
  | none => .next s
  | some p =>
    let l := v.list p
    let k := min 256 (min l.spilled.length (4096 - v.onchip))
    let got := (l.spilled.take k).zipIdx
    let good := (got.filter (fun e => !ue.contains e.2)).map (·.1)
    let s1 := s.setSv u (v.setList p ⟨l.chip ++ good, l.spilled.drop k⟩)
    let lost := k - good.length
    if lost = 0 then .next s1
    else
      let s2 := if natBit (s.reg (.unit u) 0x20040000) 1 then s1 else s1.countReg (.unit u) 0x20040068 lost
      .next (s2.setStat (.unit u) svStat 64)

end Sys2Proof.Machine
end

