-- ==== Sys2Proof/Machine/Registers.lean ====
section
/-!
DEFINITION. Register reads and writes (R9 to R11, R43 and the register tables of the chapters): what every register reads
as, the words that a read latches, the fields that a read clears, and what a write does.
-/
namespace Sys2Proof.Machine
open Sys2Proof

/-! ### What registers read as -/

/-- A flag as the bit of weight `w`. -/
def flag (b : Bool) (w : Nat) : Nat := if b then w else 0

/-- A word whose bit `i` is `f i`. -/
def bitWord (n : Nat) (f : Nat → Bool) : Nat := ((List.range n).map (fun i => flag (f i) (2 ^ i))).sum

/-- What an owner word reads as (R31). -/
def OwnerWord.word (w : OwnerWord) : Nat := w.owner + flag w.lastRefused (2 ^ 25)

/-- A register of an interrupt controller by its offset, but for the claim of IC_CLAIM (R524). -/
def State.icReg (s : State) (c : Core) (o : Nat) : Nat :=
  let i := s.ic c
  if o < 0x400 then
    let n := o / 4
    if n = 0 then 0
    else agetD i.srccfg n 0 + flag (isLevel c n) 0x200 + flag (decide (n ∈ i.insvc)) 0x400
  else if o < 0x420 then bitWord 32 (fun k => decide (32 * ((o - 0x400) / 4) + k ∈ i.pend))
  else if o < 0x440 then agetD i.enable ((o - 0x420) / 4) 0
  else if o = 0x440 then i.threshold
  else if o = 0x444 then i.claimed
  else if o = 0x44C then flag i.badComplete 1 + flag i.req 2
  else if 0x480 ≤ o ∧ o < 0x4C0 then
    agetD i.modCfg ((o - 0x480) / 4) 0 + flag (agetD i.groups ((o - 0x480) / 4) {}).released 0x10000
  else if o = 0x4C0 then i.timecmpLo
  else if o = 0x4C4 then i.timecmp / 2 ^ 32
  else 0

/-- A register of an exposed FIFO by its offset, but for FIFO_DATA (R480). -/
def fifoReg (q : Fifo (List Nat)) (o : Nat) : Nat :=
  if o = 0 then q.level
  else if o = 4 then q.wm
  else if o = 8 then q.peak
  else if o = 0xC then flag q.crossed 1 + flag q.above 2 + flag q.gapSeen 4 + flag q.items.isEmpty 8
  else 0

/-- A request of a unit's matrix is held back behind an earlier one with its ID at another target (R467, R468, R496). -/
def Fabric.holdback (f : Fabric) : Bool :=
  f.outstanding.any (fun o => f.outstanding.any (fun p =>
    p.req.master == o.req.master && p.req.id == o.req.id && p.target != o.target))

/-- LP_TRAIN: the word that software has written since the last training, or the result of that training, which is free
(R499). -/
def State.lpTrain (s : State) (u : UnitId) (w : Nat) : Nat :=
  let l := (s.unit u).fab.lp
  match aget? l.train w with
  | some v => v
  | none => if l.trainings = 0 then 0 else Config.lpTrain u.toNat l.trainings w % 2 ^ 32

/-- Novil registers that mirror an engine (R273, R274). -/
def State.nvRegVal (s : State) (u : UnitId) (addr : Nat) : Nat :=
  let x := (s.unit u).nv.engine ((addr - 0x20030000) / 0x1000)
  let r := s.reg (.unit u) addr
  match addr % 0x1000 with
  | 0x4 => r + flag x.job.isSome 0x100
  | 0x8 => x.job.getD 0xFF
  | 0xC => x.pc % 8192
  | 0x10 => x.slotsLast % 2 ^ 32
  | 0x14 => x.dmaLast % 2 ^ 32
  | 0x18 => x.winLast % 2 ^ 32
  | 0x2C => x.lastBlk % 2 ^ 32
  | 0x30 => x.lastBlk / 2 ^ 32 % 2 ^ 27
  | _ => r

/-- Sieve registers (R514). -/
def State.svRegVal (s : State) (u : UnitId) (addr : Nat) : Nat :=
  let v := (s.unit u).sv
  let r := s.reg (.unit u) addr
  let wm := s.reg (.unit u) 0x20040048
  match addr - 0x20040000 with
  | 0x4 => r + flag (decide (wm ≠ 0 ∧ wm ≤ v.level)) 2 + flag (decide (0 < v.spilled)) 0x10 + flag (decide (256 ≤ v.insvc.length)) 0x20
  | 0x20 => v.pushRes
  | 0x34 => v.pop1
  | 0x38 => v.pop2
  | 0x3C => v.pop3
  | 0x44 => v.level
  | 0x50 => v.onchip + 2 ^ 16 * v.delay.length
  | o =>
    if 0x80 ≤ o then (v.list ((o - 0x80) / 4)).chip.length + (v.list ((o - 0x80) / 4)).spilled.length
    else r

/-- Bus-matrix registers (R496). -/
def State.bmRegVal (s : State) (u : UnitId) (addr : Nat) : Nat :=
  let f := (s.unit u).fab
  let r := s.reg (.unit u) addr
  let o := addr - 0x20060000
  if o = 4 then r + flag f.holdback 2
  else if o = 0xC then bitWord 12 (fun m => decide (m ∈ f.draining))
  else if 0x20 ≤ o ∧ o < 0x38 then fifoReg f.errFifo (o - 0x20)
  else if 0x200 ≤ o ∧ o % 0x10 = 8 then toUnsigned 32 (agetD f.bucket ((o - 0x200) / 0x10) 4096)
  else r

/-- LP5 controller registers (R499 to R501). -/
def State.lpRegVal (s : State) (u : UnitId) (addr : Nat) : Nat :=
  let l := (s.unit u).fab.lp
  let r := s.reg (.unit u) addr
  let o := addr - 0x20070000
  let pending : Bool := match l.freq with
    | .deferred _ => true
    | _ => false
  let full : Bool := match l.freq with
    | .changing _ re => re
    | _ => false
  if o = 4 then
    r + flag pending 1 + flag (l.training || full) 2 + flag l.selfRefresh 4 + flag (l.setpoint == 1) 8 + flag l.derate 0x400
  else if 0x20 ≤ o ∧ o < 0x38 then fifoReg (s.unit u).fab.eccFifo (o - 0x20)
  else if 0x100 ≤ o ∧ o < 0x120 then agetD l.postponed ((o - 0x100) / 4) 0
  else if 0x1000 ≤ o then s.lpTrain u ((o - 0x1000) / 4)
  else r

/-- SRAM controller and DMA registers (R498). -/
def State.scRegVal (s : State) (u : UnitId) (addr : Nat) : Nat :=
  let f := (s.unit u).fab
  let r := s.reg (.unit u) addr
  let o := addr - 0x20080000
  let n := (o - 0x100) / 0x20
  let d := s.dmaCh u n
  if o = 4 then r + flag (decide (s.awakeNow u < 64)) 4 + flag (f.waking && decide (s.awakeNow u < 64)) 8
  else if o = 0x10 then bitWord 32 (fun g => decide (s.awakeNow u ≤ g))
  else if o = 0x14 then bitWord 32 (fun g => decide (s.awakeNow u ≤ 32 + g))
  else if o < 0x100 then r
  else if o % 0x20 = 0 then (s.own (.dma u n)).word
  else if o % 0x20 = 0xC then r + flag d.busy 1 + (d.cur &&& 0xFFFFE0)
  else if o % 0x20 = 0x10 then d.bytes % 2 ^ 32
  else r

/-- Residue and health registers (R240, R241). -/
def State.hlRegVal (s : State) (u : UnitId) (addr : Nat) : Nat :=
  let h := (s.unit u).hl
  let rd := (s.unit u).rd
  let q : Seal := h.last.getD ⟨0, 0, 0⟩
  match addr - 0x20090000 with
  | 0x0 =>
    h.lastHealth + 16 * rd.n 0x9000 3 u.toNat s.tb.sidx + 256 * (if h.loaded then s.unitState u else 3) + flag h.returning 0x400 +
      0x1000 * s.resyncPhase u
  | 0x4 => rd.n 0x9000 4 u.toNat s.tb.sidx
  | 0xC => q.block % 2 ^ 32
  | 0x10 => q.block / 2 ^ 32 % 2 ^ 27
  | 0x14 => q.crc % 2 ^ 32
  | 0x18 => q.crc / 2 ^ 32
  | 0x1C => q.claim
  | 0x24 => h.ceNow
  | 0x28 => rd.n 0x9000 0xB u.toNat s.tb.sidx
  | 0x2C => min 65535 h.resyncDone + 65536 * min 65535 h.resyncFails
  | 0x30 => h.resync.matchRun
  | _ => s.reg (.unit u) addr

/-- A register of a unit's space, without the effects of reading it. -/
def State.unitRegVal (s : State) (u : UnitId) (addr : Nat) : Nat :=
  match addr / 0x10000 with
  | 0x2000 =>
    if 0x20008000 ≤ addr then
      let i := (addr - 0x20008000) / 4
      toUnsigned 32 (cfTable (i / 8) ((i % 8 : Nat) - 3))
    else s.reg (.unit u) addr
  | 0x2002 =>
    if 0x20022000 ≤ addr then
      let k := (addr - 0x20022000) / 8
      if k = 0 then 0
      else toUnsigned 32 (if addr % 8 = 0 then (twiddle k).1 else (twiddle k).2)
    else s.reg (.unit u) addr
  | 0x2003 => s.nvRegVal u addr
  | 0x2004 => s.svRegVal u addr
  | 0x2005 => s.icReg u.core (addr - 0x20050000)
  | 0x2006 => s.bmRegVal u addr
  | 0x2007 => s.lpRegVal u addr
  | 0x2008 => s.scRegVal u addr
  | 0x2009 => s.hlRegVal u addr
  | _ => s.reg (.unit u) addr

/-- Timebase registers (R525). -/
def State.tbRegVal (s : State) (addr : Nat) : Nat :=
  let t := s.tb
  match addr - 0x30000000 with
  | 0x0 => flag t.en 1
  | 0x4 => s.reg .shared addr + flag s.slewing 0x10 + flag s.far 0x20
  | 0x8 => t.incrLo
  | 0xC => t.incr / 2 ^ 32
  | 0x10 => t.stepLo
  | 0x18 => t.ns
  | 0x1C => t.sec % 2 ^ 32
  | 0x20 => t.sec / 2 ^ 32
  | 0x24 => t.frac
  | 0x28 => t.sidx % 2 ^ 32
  | 0x2C => t.sidx / 2 ^ 32 % 2 ^ 32
  | 0x30 => t.us % 2 ^ 32
  | 0x34 => t.us / 2 ^ 32
  | 0x38 => t.ppsInNs
  | 0x3C => t.ppsInSec
  | 0x40 => toUnsigned 32 s.mcOffset
  | 0x44 => flag t.mclkEn 1
  | _ => 0

/-- Ring registers (R341 to R343, R316). -/
def State.ringRegVal (s : State) (p o : Nat) : Nat :=
  let tx := decide (0x200 ≤ o)
  let r := o / 0x40 % 4
  let g := s.ring p tx r
  let lvl := g.level tx (s.ringSize p tx r)
  let wm := s.ringReg p tx r 0x18
  match o % 0x40 with
  | 0x8 => if tx then 0 else s.ringReg p tx r 8
  | 0xC => g.head
  | 0x10 => g.tail
  | 0x14 => lvl
  | 0x1C => g.peak
  | 0x20 =>
    s.ringReg p tx r 0x20 + flag (decide (wm ≠ 0 ∧ wm ≤ lvl)) 2 + flag (decide (0 < g.unsig)) 4 +
      flag (!s.memAvail (s.ringMem p tx r)) 0x40
  | k => s.ringReg p tx r k

/-- Port registers (R338 to R340). -/
def State.portRegVal (s : State) (addr : Nat) : Nat :=
  let p := (addr - 0x30010000) / 0x1000
  let o := addr % 0x1000
  let q := s.port p
  if o = 0 then s.portReg p 0 &&& 0x17 ||| flag (s.tsMedium p) 8
  else if o = 4 then s.portReg p 4 + flag q.link 1 + 2 * q.speed + 16 * q.fec + flag (decide (48 ≤ q.level s.tb.now)) 0x200
  else if o = 0x14 then 100 * (stampConst q.speed q.fec).1
  else if o = 0x18 then 100 * (stampConst q.speed q.fec).2
  else if 0x100 ≤ o ∧ o < 0x300 then s.ringRegVal p o
  else if 0x800 ≤ o then bitWord 32 (fun i => q.hash.contains (32 * ((o - 0x800) / 4) + i))
  else s.portReg p o

/-- Stream-engine registers (R345). -/
def State.seRegVal (s : State) (addr : Nat) : Nat :=
  let st := s.st.rolled s.tb.us
  match addr - 0x30020000 with
  | 0x4 => s.reg .shared addr + flag (decide (48 ≤ st.level false s.tb.now)) 4 +
      flag (decide (48 ≤ st.level true s.tb.now)) 8
  | 0x8 => s.st.closed.getD 0 % 2 ^ 32
  | 0xC => s.st.closed.getD 0 / 2 ^ 32 % 2 ^ 27
  | 0x10 => st.lastX
  | 0x14 => st.lastY
  | 0x18 => s.st.maxX + 2 ^ 16 * s.st.maxY
  | 0x28 => (s.own .cap).word
  | _ => s.reg .shared addr

/-- Arbiter registers (R527). -/
def State.arbRegVal (s : State) (addr : Nat) : Nat :=
  let a := s.arb
  match addr - 0x30030000 with
  | 0x4 =>
    s.reg .shared addr + a.source.toNat + flag a.eligA 2 + flag a.eligB 4 + flag (a.hold.isSome || !a.chHold.isEmpty) 8 +
      flag ((a.hold.map (·.outage.isSome)).getD false || a.chHold.any (fun e => e.2.outage.isSome)) 0x10
  | 0x8 => a.holdLimit
  | 0x18 => a.claimA + 256 * a.claimB
  | 0x1C => a.decided % 2 ^ 32
  | 0x20 => a.decided / 2 ^ 32 % 2 ^ 27
  | 0x24 => a.switches
  | 0x28 => a.holds
  | 0x2C => a.outages
  | 0x30 => a.outageSamples % 2 ^ 32
  | 0x34 => a.outageSamples / 2 ^ 32
  | 0x38 => a.divergences
  | 0x3C => a.stagingUe
  | 0x40 => a.voteCe
  | 0x44 => a.lastEvent % 2 ^ 32
  | 0x48 => a.lastEvent / 2 ^ 32 % 2 ^ 32
  | _ => s.reg .shared addr

/-- TDM registers (R346). -/
def State.tdmRegVal (s : State) (addr : Nat) : Nat :=
  let t := (addr - 0x30040000) / 0x100
  let q := s.tdmPort t
  if addr = 0x30040800 then (s.own .tdm7).word
  else
    match addr % 0x100 with
    | 0x0 => s.reg .shared addr + flag q.run 1
    | 0x4 => q.frames % 2 ^ 32
    | 0x8 => q.start % 2 ^ 32
    | 0xC => q.start / 2 ^ 32 % 2 ^ 32
    | 0x10 => s.feN 0x3710 2 t + 256 * s.feN 0x3710 3 t
    | _ => s.reg .shared addr

/-- The next slot of the journal ring to write: the one of the next sequence number, unless software has moved it (R462). -/
def State.jrnlWr (s : State) : Nat := (s.sub.jseq + 16383 + s.reg .shared 0x30050010) % 16384

/-- Mailbox registers (R462, R463). -/
def State.mbRegVal (s : State) (addr : Nat) : Nat :=
  let o := addr - 0x30050000
  let p := s.sub
  match o with
  | 0x4 =>
    s.reg .shared addr + flag s.ringFull 1 + flag (p.evq.any Fifo.above) 4 + flag (decide (0x6400 ≤ p.junction)) 8 +
      flag (decide (0x6E00 ≤ p.junction)) 0x10 + flag p.tripLatched 0x20
  | 0x8 => p.jseq % 2 ^ 32
  | 0xC => p.jseq / 2 ^ 32 % 2 ^ 32
  | 0x10 => s.jrnlWr
  | 0x14 => s.ua.rd.jrd % 16384
  | 0x18 => s.ub.rd.jrd % 16384
  | 0x1C => min 255 p.restarts + 256 * (p.restartCause % 16)
  | _ =>
    if 0x40 ≤ o ∧ o < 0x4C then (p.evq.getD ((o - 0x40) / 4) {}).level
    else if 0x100 ≤ o then (s.own (.gpio ((o - 0x100) / 4))).word
    else s.reg .shared addr

/-- Island-port registers (R429, R430). -/
def State.koRegVal (s : State) (addr : Nat) : Nat :=
  if addr = koStat then s.reg .shared addr + flag s.kao.link 1 + flag s.kao.unsealed 8 + flag s.kao.logReq.isSome 0x10
  else s.reg .shared addr

/-- Trigger registers (R526). -/
def State.ttRegVal (s : State) (addr : Nat) : Nat :=
  let t := (addr - 0x30070000) / 0x40
  let q := s.tt t
  match addr % 0x40 with
  | 0x0 => (s.own (.tt t)).word
  | 0x4 => q.action + 256 * q.target
  | 0x8 => q.startLo
  | 0xC => q.start / 2 ^ 32
  | 0x10 => q.period
  | 0x14 => q.count
  | 0x18 => q.width
  | 0x1C => (match q.state with | .idle => 0 | .armed => 1 | .done => 2 | .missed => 3) + flag q.cfgRej 0x100
  | 0x20 => q.fired
  | _ => 0

/-- A register of the shared space, without the effects of reading it. -/
def State.sharedRegVal (s : State) (addr : Nat) : Nat :=
  match addr / 0x10000 with
  | 0x3000 => s.tbRegVal addr
  | 0x3001 => s.portRegVal addr
  | 0x3002 => s.seRegVal addr
  | 0x3003 => s.arbRegVal addr
  | 0x3004 => s.tdmRegVal addr
  | 0x3005 => s.mbRegVal addr
  | 0x3006 => s.koRegVal addr
  | _ => s.ttRegVal addr

/-- The present value of a register. -/
def State.regVal (s : State) (sp : Space) (addr : Nat) : Nat :=
  match sp with
  | .shared => s.sharedRegVal addr
  | .unit u => s.unitRegVal u addr

/-! ### Latched companions (R43 and the register tables) -/

/-- The registers that a read of another latches for the reading master. -/
def companions (addr : Nat) : List Nat :=
  if addr = 0x30000018 then [0x3000001C, 0x30000020, 0x30000024]
  else if addr = 0x3003001C then [0x30030020, 0x30030018]
  else if addr = 0x2009000C then [0x20090010, 0x20090014, 0x20090018, 0x2009001C]
  else if addr = 0x30000028 ∨ addr = 0x30000030 ∨ addr = 0x30000038 ∨ addr = 0x30020008 ∨ addr = 0x30030030 ∨
      addr = 0x30030044 ∨ addr = 0x30050008 ∨ addr = 0x20000008 then [addr + 4]
  else if 0x30040000 ≤ addr ∧ addr < 0x30040800 ∧ addr % 0x100 = 8 then [addr + 4]
  else if 0x20030000 ≤ addr ∧ addr < 0x20040000 ∧ addr % 0x1000 = 0x2C then [addr + 4]
  else []

/-- A register that reads as what the reading master latched last. -/
def isCompanion (addr : Nat) : Bool :=
  [0x3000001C, 0x30000020, 0x30000024, 0x30030020, 0x30030018, 0x20090010, 0x20090014, 0x20090018, 0x2009001C, 0x3000002C,
    0x30000034, 0x3000003C, 0x3002000C, 0x30030034, 0x30030048, 0x3005000C, 0x2000000C].contains addr ||
  (decide (0x30040000 ≤ addr ∧ addr < 0x30040800) && addr % 0x100 == 0xC) ||
  (decide (0x20030000 ≤ addr ∧ addr < 0x20040000) && addr % 0x1000 == 0x30)

/-- The key of a latched word. -/
def latchKey (m : RegMaster) (sp : Space) (addr : Nat) : Nat := m.toNat * 2 ^ 40 + regKey sp addr

/-- The word that a master has latched, 0 where it has latched none. -/
def State.latched (s : State) (m : RegMaster) (sp : Space) (addr : Nat) : Nat := agetD s.latch (latchKey m sp addr) 0

/-- A master latches the present values of registers. -/
def State.latchAll (s : State) (m : RegMaster) (sp : Space) : List Nat → State
  | [] => s
  | a :: l => ({ s with latch := aputD s.latch (latchKey m sp a) (s.regVal sp a) 0 }).latchAll m sp l

/-! ### Reads -/

/-- The unit's own masters and the management core reach a unit's registers; every master of a unit the shared ones
(R464, R465). -/
def regReach (m : RegMaster) (sp : Space) : Bool :=
  match sp, m with
  | .shared, .bridge _ => false
  | .shared, _ => true
  | .unit _, .core .mgmt => true
  | .unit u, .core c => c == u.core
  | .unit u, .dma v => u == v
  | .unit u, .bridge v => u == v

/-- An address decodes to a register of the space, or of the management core's own interrupt controller (R9, R11, R465,
R524). -/
def regDecodes (m : RegMaster) (sp : Space) (addr : Nat) : Bool :=
  addr % 4 == 0 && regReach m sp &&
    (if addr / 0x10000 = 0x0200 then
      m == .core .mgmt && sp == .shared && (regFind (addr + 0x1E050000)).isSome && (addr % 0x10000 < 0x200 ∨ 0x440 ≤ addr % 0x10000 ∨
        (0x400 ≤ addr % 0x10000 ∧ addr % 0x20 < 0x10))
    else
      match regFind addr with
      | some r => (r.space == .shared) == (sp == .shared)
      | none => false)

/-- The corrected and uncorrectable counts that the control firmware adds up as it reads them (R499): the entry of 0xE000. -/
def firmwareSum (addr : Nat) : Nat :=
  if addr = 0x20080008 then 1
  else if addr = 0x2007000C then 2
  else if addr = 0x20070010 then 3
  else if addr = 0x20070014 then 4
  else 0

/-- The fields that a read clears are cleared; a peak restarts at the present level (R10, R316, R479, R512). -/
def State.readClears (s : State) (sp : Space) (addr : Nat) : State :=
  match sp with
  | .unit u =>
    if addr = 0x2004004C then s.setReg sp addr (s.unit u).sv.level
    else if addr = 0x20060028 then s.onFab u (fun f => { f with errFifo := { f.errFifo with peak := f.errFifo.level } })
    else if addr = 0x20070028 then s.onFab u (fun f => { f with eccFifo := { f.eccFifo with peak := f.eccFifo.level } })
    else
      match regFind addr with
      | some r => if r.rc = 0 then s else s.setReg sp addr (s.reg sp addr &&& (0xFFFFFFFF ^^^ r.rc))
      | none => s
  | .shared =>
    if 0x30010000 ≤ addr ∧ addr < 0x30020000 ∧ 0x100 ≤ addr % 0x1000 ∧ addr % 0x1000 < 0x300 then
      if addr % 0x40 = 0x1C then
        let p := (addr - 0x30010000) / 0x1000
        let tx := decide (0x200 ≤ addr % 0x1000)
        let r := addr % 0x1000 / 0x40 % 4
        let g := s.ring p tx r
        s.setRing p tx r { g with peak := g.level tx (s.ringSize p tx r) }
      else s
    else if addr = 0x30020018 then { s with st := { s.st with maxX := 0, maxY := 0 } }
    else
      match regFind addr with
      | some r => if r.rc = 0 then s else s.setReg sp addr (s.reg sp addr &&& (0xFFFFFFFF ^^^ r.rc))
      | none => s

/-- A register read by a master: its value and the state after it, or none where the access receives an error response.
IC_CLAIM claims, SV_POP_0 pops, FIFO_DATA takes a word; other reads latch companions and clear read-clear fields. -/
def State.readReg (s : State) (m : RegMaster) (sp : Space) (addr : Nat) : Option (Nat × State) :=
  if regDecodes m sp addr = false then none
  else if addr / 0x10000 = 0x0200 then
    if addr = 0x02000444 then some ((s.ic .mgmt).claimed, s.setIc .mgmt (s.ic .mgmt).claim)
    else some (s.icReg .mgmt (addr - 0x02000000), s)
  else
    match sp with
    | .shared =>
      let v := if isCompanion addr then s.latched m sp addr else s.regVal sp addr
      some (v, (s.latchAll m sp (companions addr)).readClears sp addr)
    | .unit u =>
      if addr = 0x20050444 then some ((s.ic u.core).claimed, s.setIc u.core (s.ic u.core).claim)
      else if addr = 0x20040030 then (if m = .core u.core then some (s.svPop u) else none)
      else if addr = 0x20060030 ∨ addr = 0x20070030 then
        let inst := if addr = 0x20060030 then 0 else 1
        let r := fifoRead ((s.unit u).fab.fifo inst)
        some (r.1, s.onFab u (fun f => f.setFifo inst r.2))
      else
        let v := if isCompanion addr then s.latched m sp addr else s.regVal sp addr
        let s1 := (s.latchAll m sp (companions addr)).readClears sp addr
        some (v, if m = .core u.core ∧ firmwareSum addr ≠ 0 then s1.countFe 0xE000 (firmwareSum addr) u.toNat v else s1)

/-! ### Writes -/

/-- The state of an outcome that is a next state. -/
def nextOr (s : State) (o : Host.Outcome State Fault Refusal) : State :=
  match o with
  | .next t => t
  | _ => s

/-- A write by a register's access type: read-write fields take the value, ones clear write-one-to-clear fields, the rest
is ignored (R10). -/
def State.writePlain (s : State) (sp : Space) (addr v : Nat) : State :=
  match regFind addr with
  | some r =>
    let old := s.reg sp addr
    let new := (old &&& (0xFFFFFFFF ^^^ r.rw)) ||| (v &&& r.rw)
    s.setReg sp addr (new &&& (0xFFFFFFFF ^^^ (v &&& r.w1c)))
  | none => s

/-- An owner word is written (R31 to R33); a master without an owner ID is refused. -/
def State.writeOwner (s : State) (m : RegMaster) (r : Res) (v : Nat) : State :=
  match m.theCore with
  | some c => (s.ownerWrite c r (natBits v 16 8) (natBit v 24)).2
  | none => if natBits v 16 8 = 0 ∧ natBit v 24 = false then s else s.refuseOwn r

/-- A register of a core's interrupt controller is written by that core (R518, R522, R524). -/
def State.writeIc (s : State) (c : Core) (o v : Nat) : State :=
  let i := s.ic c
  if o < 0x400 then
    if o = 0 then s else s.setIc c ({ i with srccfg := aputD i.srccfg (o / 4) (v % 512) 0 }.regroup s.tb.us)
  else if o < 0x420 then nextOr s (execIcPendWrite c c ((o - 0x400) / 4) v s)
  else if o < 0x440 then
    let w := (o - 0x420) / 4
    s.setIc c { i with enable := aputD i.enable w (if w = 0 then v % 2 ^ 32 / 2 * 2 else v % 2 ^ 32) 0 }
  else if o = 0x440 then s.setIc c { i with threshold := v % 16 }
  else if o = 0x448 then nextOr s (execIcComplete c c v s)
  else if o = 0x44C then (if natBit v 0 then s.setIc c { i with badComplete := false } else s)
  else if 0x480 ≤ o ∧ o < 0x4C0 then s.setIc c { i with modCfg := aputD i.modCfg ((o - 0x480) / 4) (v % 65536) 0 }
  else if o = 0x4C0 then s.setIc c { i with timecmpLo := v % 2 ^ 32 }
  else if o = 0x4C4 then nextOr s (execIcTimecmpHiWrite c c (v % 65536) s)
  else s

/-- A register of an exposed FIFO is written (R478 to R480). -/
def Fifo.writeReg (q : Fifo (List Nat)) (o v : Nat) : Fifo (List Nat) :=
  if o = 4 then { q with wm := v % 128 }
  else if o = 0xC then { q with crossed := q.crossed && !natBit v 0, gapSeen := q.gapSeen && !natBit v 2 }
  else if o = 0x14 then
    let q1 := if natBit v 0 then q.drop else q
    if natBit v 1 then q1.flush else q1
  else q

/-- The Sieve is written by the unit's control core; any other master receives an error response (R507, R509, R514). -/
def State.writeSv (s : State) (m : RegMaster) (u : UnitId) (addr v : Nat) : Option State :=
  let x := (s.unit u).sv
  let put := fun (f : Sieve → Sieve) => s.onUnit u (fun r => { r with sv := f r.sv })
  let w := v % 2 ^ 32
  let spill : State := if 0 < x.spilled then s else s.writePlain (.unit u) addr v
  let bad : State := if 0 < x.spilled then s else s.setStat (.unit u) svStat 4
  if m ≠ .core u.core then none
  else
    some (match addr - 0x20040000 with
      | 0x10 => put (fun q => { q with push0 := w })
      | 0x14 => put (fun q => { q with push1 := w })
      | 0x18 => put (fun q => { q with push2 := w })
      | 0x1C => nextOr s (execSvPush u.core u w s)
      | 0x40 => nextOr s (execSvDone u.core u w s)
      | 0x54 => if 512 ≤ v % 4096 ∧ v % 4096 ≤ 4032 then spill else bad
      | 0x58 => if v % 4096 + 256 < s.reg (.unit u) 0x20040054 then spill else bad
      | 0x5C => spill
      | 0x60 => spill
      | _ => s.writePlain (.unit u) addr v)

/-- The bus matrix is written (R470, R480, R496). -/
def State.writeBm (s : State) (u : UnitId) (addr v : Nat) : State :=
  let o := addr - 0x20060000
  if o = 8 then nextOr s (execBmMrst u.core u v s)
  else if 0x20 ≤ o ∧ o < 0x38 then s.onFab u (fun f => { f with errFifo := f.errFifo.writeReg (o - 0x20) v })
  else s.writePlain (.unit u) addr v

/-- LP_CTRL is written: FREQ_REQ and SR_REQ act by their values, an NBR_K outside 8 to 16 is ignored and sets CFG_REJ
(R492 to R494, R500). -/
def State.writeLpCtrl (s : State) (u : UnitId) (v : Nat) : State :=
  let a := 0x20070000
  let old := s.reg (.unit u) a
  let kOk := decide (8 ≤ natBits v 8 5 ∧ natBits v 8 5 ≤ 16)
  let mask := if kOk then 0xF1F0C else 0xF000C
  let s1 := s.setReg (.unit u) a ((old &&& (0xFFFFFFFF ^^^ mask)) ||| (v &&& mask))
  let s2 := if kOk then s1 else s1.setStat (.unit u) lpStat 0x800
  let s3 := nextOr s2 (execFreqReq u.core u (v % 2) s2)
  if natBit v 1 then nextOr s3 (execSrReqEnter u.core u s3)
  else nextOr s3 (execSrReqExit u.core u s3)

/-- The LP5 controller is written (R495, R499). -/
def State.writeLp (s : State) (u : UnitId) (addr v : Nat) : State :=
  let o := addr - 0x20070000
  if o = 0 then s.writeLpCtrl u v
  else if 0x20 ≤ o ∧ o < 0x38 then s.onFab u (fun f => { f with eccFifo := f.eccFifo.writeReg (o - 0x20) v })
  else if 0x200 ≤ o ∧ o < 0x280 then
    if natBit (s.reg (.unit u) (0x20070200 + 0x10 * ((o - 0x200) / 0x10))) 31 then s else s.writePlain (.unit u) addr v
  else if 0x1000 ≤ o then
    if natBit (s.lpRegVal u lpStat) 1 then s.setStat (.unit u) lpStat 0x800
    else s.onLp u (fun l => { l with train := aput l.train ((o - 0x1000) / 4) (v % 2 ^ 32) })
  else s.writePlain (.unit u) addr v

/-- The SRAM controller and the DMA channels are written; a DMA register by its owner alone (R36, R476, R498). -/
def State.writeSc (s : State) (m : RegMaster) (u : UnitId) (addr v : Nat) : State :=
  let o := addr - 0x20080000
  let n := (o - 0x100) / 0x20
  let r : Res := .dma u n
  if o < 0x100 then s.writePlain (.unit u) addr v
  else if o % 0x20 = 0 then s.writeOwner m r v
  else if m ≠ .core u.core ∨ s.dmaMay u.core u n = false then s.refuseOwn r
  else if o % 0x20 = 4 then
    let s1 := if natBit v 0 then nextOr s (execDmaGo u.core u n s) else s
    if natBit v 1 then nextOr s1 (execDmaAbort u.core u n s1) else s1
  else if o % 0x20 = 8 then (s.claimFor r (ctrlId u)).writePlain (.unit u) addr v
  else s.writePlain (.unit u) addr v

/-- A value of a redundancy parameter of a unit, written through the unit's own register, takes effect at a sample, in
both units, which hold the parameters of both, and at its dictionary entry. -/
def State.unitParam (s : State) (u : UnitId) (sub v x : Nat) : State :=
  let j : JRec := { jseq := 0, apply := x, session := 0, kind := 5, key := dkey 0x9000 sub u.toNat, val := .num v, prio := 16 }
  let put := fun (r : Render) => { r with pend := r.pend ++ [j] }
  { (s.onRd .a put).onRd .b put with fePend := s.fePend ++ [j] }

/-- The health block is written: HL_CAP takes one of the values of HEALTH_CAP from the next block on (R240). -/
def State.writeHl (s : State) (u : UnitId) (addr v : Nat) : State :=
  if addr = 0x20090004 then
    if [2, 6, 12, 14, 15].contains (v % 16) then
      s.unitParam u 4 (v % 16) (32 * (s.tb.sidx / 32 + 1))
    else s
  else if addr = 0x20090028 then
    s.unitParam u 0xB (v % 65536) s.tb.sidx
  else s.writePlain (.unit u) addr v

/-- The bridge block is written: a heartbeat loss that is cleared can set again three blocks later (R25). -/
def State.writeBridge (s : State) (u : UnitId) (addr v : Nat) : State :=
  let s1 := s.writePlain (.unit u) addr v
  if natBit v 0 ∧ natBit (s.reg (.unit u) 0x200A0000) 0 then
    s1.onUnit u (fun r => { r with hl := { r.hl with hbFrom := max r.hl.hbFrom ((s.tb.sidx - s.relC) / 32 - s.arb.lat + 3) } })
  else s1

/-- A register of a unit's space is written; none where the write receives an error response. -/
def State.writeUnit (s : State) (m : RegMaster) (u : UnitId) (addr v : Nat) : Option State :=
  match addr / 0x10000 with
  | 0x2004 => s.writeSv m u addr v
  | 0x2005 => if m = .core u.core then some (s.writeIc u.core (addr - 0x20050000) v) else none
  | 0x2006 => some (s.writeBm u addr v)
  | 0x2007 => some (s.writeLp u addr v)
  | 0x2008 => some (s.writeSc m u addr v)
  | 0x2009 => some (s.writeHl u addr v)
  | 0x200A => some (s.writeBridge u addr v)
  | _ => some (s.writePlain (.unit u) addr v)

/-- The timebase is written by the management core (R41, R42, R53, R525). -/
def State.writeTb (s : State) (addr v : Nat) : State :=
  let w := v % 2 ^ 32
  match addr - 0x30000000 with
  | 0x0 => nextOr s (execTbCtrlEn .mgmt (natBit v 0) s)
  | 0x8 => { s with tb := { s.tb with incrLo := w } }
  | 0xC => nextOr s (execTbIncrHiWrite .mgmt v s)
  | 0x10 => { s with tb := { s.tb with stepLo := w } }
  | 0x14 => nextOr s (execTbStepHiWrite .mgmt w s)
  | 0x44 => nextOr s (execMclkEn .mgmt (natBit v 0) s)
  | _ => s.writePlain .shared addr v

/-- A ring register is written (R315, R341). -/
def State.writeRing (s : State) (p o v : Nat) : State :=
  let tx := decide (0x200 ≤ o)
  let r := o / 0x40 % 4
  let a := portBase p + o
  let en := natBit (s.ringReg p tx r 0) 0
  match o % 0x40 with
  | 0x0 => s.ringCtrl p tx r v
  | 0x4 => if en then s.setStat .shared (ringBase p tx r + 0x20) 8 else s.writePlain .shared a v
  | 0x8 =>
    if en then s.setStat .shared (ringBase p tx r + 0x20) 8
    else if tx then s
    else s.writePlain .shared a v
  | 0x10 =>
    if tx then nextOr s (execTxrTailWrite p r (v % 4096) s) else nextOr s (execRxrTailWrite p r (v % 4096) s)
  | _ => s.writePlain .shared a v

/-- A port register is written: a MAX_FRAME outside 1,518 to 9,216 is ignored and sets CFG_REJ (R338). -/
def State.writePort (s : State) (addr v : Nat) : State :=
  let p := (addr - 0x30010000) / 0x1000
  let o := addr % 0x1000
  if o = 8 then
    if 1518 ≤ v % 2 ^ 14 ∧ v % 2 ^ 14 ≤ 9216 then s.writePlain .shared addr v else s.setStat .shared (portBase p + 4) 0x80
  else if 0x100 ≤ o ∧ o < 0x300 then s.writeRing p o v
  else s.writePlain .shared addr v

/-- The arbiter is written by the management core (R527, R528). -/
def State.writeArb (s : State) (addr v : Nat) : State :=
  match addr - 0x30030000 with
  | 0x0 => if natBit v 0 then s.arbClear else s
  | 0x14 => nextOr s (execArbHoldAtHiWrite .mgmt v s)
  | _ => s.writePlain .shared addr v

/-- The journal sequence number is set; the next slot written stays where it is (R462). -/
def State.setJseq (s : State) (n : Nat) : State :=
  let s1 := { s with sub := { s.sub with jseq := n } }
  s1.setReg .shared 0x30050010 ((s.jrnlWr + 2 * 16384 + 1 - n % 16384) % 16384)

/-- The mailbox is written, by the management core but for the event queues and the owner words (R462). -/
def State.writeMb (s : State) (m : RegMaster) (addr v : Nat) : Option State :=
  let o := addr - 0x30050000
  let j := s.sub.jseq
  let w := v % 2 ^ 32
  if 0x60 ≤ o ∧ o < 0x6C then some (nextOr s (execEvqPush ((o - 0x60) / 4) w s))
  else if 0x100 ≤ o then some (s.writeOwner m (.gpio ((o - 0x100) / 4)) v)
  else if m ≠ .core .mgmt then none
  else
    match o with
    | 0x8 => some (s.setJseq (j / 2 ^ 32 * 2 ^ 32 + w))
    | 0xC => some (s.setJseq (w * 2 ^ 32 + j % 2 ^ 32))
    | 0x10 => some (s.setReg .shared addr ((v % 16384 + 2 * 16384 + 1 - j % 16384) % 16384))
    | 0x20 => some (nextOr s (execMwdtKick .mgmt w s))
    | 0x24 => some (if 100 ≤ v % 65536 ∧ v % 65536 ≤ 10000 then s.writePlain .shared addr v else s)
    | _ => some (s.writePlain .shared addr v)

/-- The island port is written by the management core (R429). -/
def State.writeKo (s : State) (addr v : Nat) : State :=
  let w := v % 2 ^ 32
  match addr - 0x30060000 with
  | 0x10 => s.koLogReq w
  | 0x14 => nextOr s (execKoImgData .mgmt w s)
  | 0x18 =>
    let s1 := if natBit v 0 then nextOr s (execKoImgStart .mgmt s) else s
    if natBit v 1 then nextOr s1 (execKoImgEnd .mgmt s1) else s1
  | _ => s.writePlain .shared addr v

/-- START_LO is staged, by an agent that may configure the trigger while it is not armed (R36, R67, R526). -/
def State.stageStart (s : State) (c : Core) (t v : Nat) : State :=
  if s.masterMay c (.tt t) = false then s.refuseOwn (.tt t)
  else
    let s1 := s.claimFor (.tt t) (s.actingId c (.tt t))
    if (s.tt t).state = .armed then s1.trigReject t else s1.setTt t { s1.tt t with startLo := v }

/-- A trigger register is written (R36, R67, R526). -/
def State.writeTt (s : State) (m : RegMaster) (addr v : Nat) : State :=
  let t := (addr - 0x30070000) / 0x40
  let w := v % 2 ^ 32
  match addr % 0x40, m.theCore with
  | 0x0, _ => s.writeOwner m (.tt t) v
  | 0x1C, _ => if natBit v 8 then s.setTt t { s.tt t with cfgRej := false } else s
  | 0x20, _ => s
  | 0x24, some c => if natBit v 0 then nextOr s (execTriggerDisarm (.firmware c) t s) else s
  | 0x4, some c => s.trigRegField c t [(.action, v % 8), (.target, natBits v 8 8)]
  | 0x8, some c => s.stageStart c t w
  | 0xC, some c => nextOr s (execTriggerArm (.firmware c) t (w * 2 ^ 32 + (s.tt t).startLo) s)
  | 0x10, some c => s.trigRegField c t [(.period, w)]
  | 0x14, some c => s.trigRegField c t [(.count, w)]
  | 0x18, some c => s.trigRegField c t [(.width, w)]
  | _, _ => s.refuseOwn (.tt t)

/-- A register of the shared space is written; none where the write receives an error response. -/
def State.writeShared (s : State) (m : RegMaster) (addr v : Nat) : Option State :=
  let mgmt := decide (m = .core .mgmt)
  match addr / 0x10000 with
  | 0x3000 => if mgmt then some (s.writeTb addr v) else none
  | 0x3001 => some (s.writePort addr v)
  | 0x3002 => some (if addr = 0x30020028 then s.writeOwner m .cap v else s.writePlain .shared addr v)
  | 0x3003 => if mgmt then some (s.writeArb addr v) else none
  | 0x3004 => some (if addr = 0x30040800 then s.writeOwner m .tdm7 v else s.writePlain .shared addr v)
  | 0x3005 => s.writeMb m addr v
  | 0x3006 => if mgmt then some (s.writeKo addr v) else none
  | _ => some (s.writeTt m addr v)

/-- A register written by a master: the state after it, or none where the access receives an error response. -/
def State.writeReg (s : State) (m : RegMaster) (sp : Space) (addr v : Nat) : Option State :=
  if regDecodes m sp addr = false then none
  else if addr / 0x10000 = 0x0200 then some (s.writeIc .mgmt (addr - 0x02000000) v)
  else
    match sp with
    | .shared => s.writeShared m addr v
    | .unit u => s.writeUnit m u addr v

/-! ### The commands -/

/-- A core's read of a register: the value, or an error response (R9, R11). -/
def State.coreRead (s : State) (c : Core) (sp : Space) (addr : Nat) : State :=
  match s.readReg (.core c) sp addr with
  | some (v, t) => t.emit (.regValue c addr v)
  | none => s.regFail c sp addr (if addr % 4 = 0 then 1 else 3) false

/-- LATCHING_READ: a read of a low word returns it and latches its companions for the reading master (R43, R525). -/
def execLatchingRead (c : Core) (sp : Space) (addr : Nat) (s : State) : Host.Outcome State Fault Refusal :=
  .next (s.coreRead c sp addr)

/-- READ_CLEAR: a read of an RC register returns its value and clears it (R10). A set by hardware is a command of its own,
so that one that follows the read is kept. -/
def execReadClear (c : Core) (sp : Space) (addr : Nat) (s : State) : Host.Outcome State Fault Refusal :=
  .next (s.coreRead c sp addr)

/-- REGISTER_WRITE: a core's write of a register acts by the register's access types, or receives an error response that
changes nothing (R9 to R11). -/
def execRegisterWrite (c : Core) (sp : Space) (addr v : Nat) (s : State) : Host.Outcome State Fault Refusal :=
  match s.writeReg (.core c) sp addr v with
  | some t => .next t
  | none => .next (s.regFail c sp addr (if addr % 4 ≠ 0 then 3 else if regDecodes (.core c) sp addr then 5 else 1) true)

end Sys2Proof.Machine
end

