-- ==== Sys2Proof/Machine/FabricAccess.lean ====
section
/-!
DEFINITION. Accesses through a unit's bus matrix (chapter 15, R464 to R469, R475, R476, R482 to R486, R490, R495; R26 and
R27): decoding, arbitration and holdback, the targets, the peer window, and the DMA channels' work.
-/
namespace Sys2Proof.Machine
open Sys2Proof

/-! ### Decoding (R464, R465) -/

/-- The address map decodes an address of the SRAM windows: history, pair memory, the program, X and Y memories of each Novil engine, and
correction SRAM (R110, R114, R189, R249, R465). -/
def windowDecodes (a : Nat) : Bool :=
  let o := (a - 0x18000000) % 0x80000
  decide (0x10000000 ≤ a ∧ a < 0x12000000) || decide (0x14000000 ≤ a ∧ a < 0x15000000) ||
    (decide (0x18000000 ≤ a ∧ a < 0x18800000) && (decide (o < 0x10000) || decide (0x20000 ≤ o ∧ o < 0x60000))) ||
    decide (0x1C000000 ≤ a ∧ a < 0x1CC00000)

/-- The target of an address (R465); 7 is the default target. -/
def busTarget (a : Nat) : Nat :=
  if a < 0x80000 then 0
  else if 0x08000000 ≤ a ∧ a < 0x08100000 then 1
  else if windowDecodes a then 2
  else if 0x20000000 ≤ a ∧ a < 0x200B0000 then 3
  else if 0x30000000 ≤ a ∧ a < 0x30080000 then 4
  else if 0x200000000 ≤ a ∧ a < 0x3C0000000 then 5
  else if 0x400000000 ≤ a ∧ a < 0x800000000 then 6
  else 7

/-- Whether a master reaches a target (R464). -/
def busReach (m t : Nat) : Bool :=
  match m with
  | 0 => true
  | 8 => t != 6
  | 9 => t == 0 || t == 1 || t == 2 || t == 3 || t == 5
  | 10 => t == 1
  | 11 => t == 1 || t == 3 || t == 5
  | _ => 1 ≤ m && m ≤ 7 && t == 5

/-- Bytes of a request: an atomic operation moves one word. -/
def burstLen (b : Burst) : Nat := b.beats * b.size

/-- The form of a request: 1 to 16 beats of up to 16 bytes within a 4 KiB page, and data of its length (R465). -/
def burstForm (b : Burst) : Bool :=
  1 ≤ b.beats && b.beats ≤ 16 && [1, 2, 4, 8, 16].contains b.size && b.addr / 4096 == (b.addr + burstLen b - 1) / 4096 &&
    (match b.kind with
      | .write d => d.length == burstLen b
      | .storeConditional d => d.length == burstLen b
      | .amo _ _ => b.beats == 1 && (b.size == 4 || b.size == 8) && b.addr % b.size == 0
      | _ => true)

/-- An exclusive or atomic access (R469). -/
def burstExcl (b : Burst) : Bool :=
  match b.kind with
  | .read | .write _ => false
  | _ => true

/-- The register master behind a master number at a unit's matrix. -/
def regMaster (u : UnitId) (m : Nat) : RegMaster :=
  if m = 8 then .dma u
  else if m = 9 then .bridge u
  else if m = 11 then .core .mgmt
  else .core u.core

/-! ### What the windows show (R110, R114, R115, R189, R249) -/

/-- The words of a pair record (R115). -/
def PairRec.word (p : PairRec) (w : Nat) : Nat :=
  match w with
  | 0 => p.d0 % 2 ^ 29 + flag p.valid (2 ^ 29) + flag p.new (2 ^ 30) + flag p.release (2 ^ 31)
  | 1 => p.d1 % 2 ^ 29 + flag p.clamp (2 ^ 29) + flag p.slope (2 ^ 30) + flag p.skipped (2 ^ 31)
  | 2 => toUnsigned 24 p.g0 + 2 ^ 24 * (p.mode % 4)
  | _ => toUnsigned 24 p.g1

/-- A word of the SRAM windows, or none where no window decodes the address (R110, R114, R249). -/
def RUnit.windowWord (r : RUnit) (a : Nat) : Option Nat :=
  let h := a - 0x10000000
  let q := a - 0x14000000
  let n := a - 0x18000000
  let o := n % 0x80000
  if a < 0x12000000 then some (toUnsigned 32 (agetD r.rd.hist (8192 * (h / 0x8000) + h % 0x8000 / 4) 0))
  else if 0x14000000 ≤ a ∧ a < 0x15000000 then
    some ((agetD r.rd.pairs (16384 * (q / 0x40000) + q % 0x40000 / 16) {}).word (q % 16 / 4))
  else if 0x18000000 ≤ a ∧ a < 0x18800000 then
    let x := r.nv.engine (n / 0x80000)
    if o < 0x10000 then some (agetD x.pmem (o / 4) 0)
    else if 0x20000 ≤ o ∧ o < 0x40000 then some (agetD x.x ((o - 0x20000) / 4) 0)
    else if 0x40000 ≤ o ∧ o < 0x60000 then some (agetD x.y ((o - 0x40000) / 4) 0)
    else none
  else none

/-- A byte of the SRAM windows; the correction SRAM's arrangement is not specified, so its bytes are free (R189). -/
def State.windowByte (s : State) (u : UnitId) (a : Nat) : Option Byte :=
  if 0x1C000000 ≤ a ∧ a < 0x1CC00000 then some (Config.cxByte u.toNat s.draws (a - 0x1C000000))
  else ((s.unit u).windowWord (a / 4 * 4)).map (fun w => (leBytes 4 w).getD (a % 4) 0)

/-- Successive bytes of the SRAM windows. -/
def State.windowBytes (s : State) (u : UnitId) (a : Nat) : Nat → Option (List Byte)
  | 0 => some []
  | n + 1 =>
    match s.windowByte u a, s.windowBytes u (a + 1) n with
    | some b, some l => some (b :: l)
    | _, _ => none

/-! ### Memory targets (R469, R483, R484) -/

/-- The memory cells of target 1 (core SRAM) or 5 (LP5 memory), and its base address. -/
def Fabric.cells (f : Fabric) (t : Nat) : List Host.Cell := if t = 1 then f.core else f.lp5mem

/-- The base address of a memory target. -/
def memBase (t : Nat) : Nat := if t = 1 then 0x08000000 else 0x200000000

/-- Bytes are written with their strobes: a byte whose strobe is off does not change (R483). -/
def strobed (l : List Host.Cell) (k : Nat) : List (Byte × Bool) → List Host.Cell
  | [] => l
  | (b, on) :: bs => strobed (if on then cellWrite l k b else l) (k + 1) bs

/-- The fabric with bytes of a memory target written. -/
def Fabric.put (f : Fabric) (t off : Nat) (d : List (Byte × Bool)) : Fabric :=
  if t = 1 then { f with core := strobed f.core off d } else { f with lp5mem := strobed f.lp5mem off d }

/-- The result of an atomic operation on a word of `w` bits. -/
def amoResult (w op old v : Nat) : Nat :=
  let lt := decide (toSigned w old < toSigned w v)
  (match op with
    | 0 => v
    | 1 => old + v
    | 2 => old ^^^ v
    | 3 => old &&& v
    | 4 => old ||| v
    | 5 => if lt then old else v
    | 6 => if lt then v else old
    | 7 => min old v
    | _ => max old v) % 2 ^ w

/-- What a target answers. -/
inductive BusRes where
  | data (d : List Byte)
  | sc (stored : Bool)
  | fail (kind : Nat)
deriving DecidableEq, Repr

/-- A write by the other unit to the last word of the bridge mailbox rings the doorbell (R516). -/
def State.doorbell (s : State) (u : UnitId) (m t off n : Nat) : State :=
  if m = 9 ∧ t = 1 ∧ off < 0x100000 ∧ 0xFFFFC < off + n then s.raiseEdge u.core 0x41 else s

/-- An access to core SRAM or LP5 memory, without its checks (R469). -/
def State.memAccess (s : State) (u : UnitId) (b : Burst) (t : Nat) : BusRes × State :=
  let off := b.addr - memBase t
  let f := (s.unit u).fab
  let old := cellReads (f.cells t) off (burstLen b)
  let store := fun (d : List (Byte × Bool)) =>
    (s.onFab u (fun f => (f.put t off d).clearResv b.master b.addr (burstLen b))).doorbell u b.master t off (burstLen b)
  match b.kind with
  | .read => (.data old, s)
  | .write d => (.data [], store d)
  | .loadReserved => (.data old, s.onFab u (fun f => { f with resv := aput f.resv b.master (b.addr / 64) }))
  | .storeConditional d =>
    let ok := aget? f.resv b.master == some (b.addr / 64)
    let clear := fun (t : State) => t.onFab u (fun f => { f with resv := adel f.resv b.master })
    (.sc ok, clear (if ok then store (d.map (fun x => (x, true))) else s))
  | .amo op v =>
    let w := 8 * b.size
    (.data old, store ((leBytes b.size (amoResult w op (leNat old) (v % 2 ^ w))).map (fun x => (x, true))))

/-- The words that an LP_ECC item carries: its header, which does not mark the end of a packet, and the two address words
(R481, R484; log entry 151). -/
def eccWords (kind addr : Nat) (wr : Bool) : List Nat :=
  [kind * 2 ^ 24 + addr / 64 % 8 * 2 ^ 16, addr % 2 ^ 32, addr / 2 ^ 32 % 8 + flag wr 8]

/-- An ECC error of LP5 memory is counted, shown and recorded with the address of its word (R484, R499 to R501). -/
def State.lpEcc (s : State) (u : UnitId) (b : Burst) : State :=
  let rec_ := fun (kind reg bit : Nat) =>
    let s1 := s.countHeld u 0x20070000 3 reg 1
    let w := eccWords kind (b.addr + 8 * b.word) (isWriteKind b.kind)
    let s2 := s1.onFab u (fun f => { f with eccFifo := f.eccFifo.push 64 w false })
    s2.setStat (.unit u) lpStat bit
  match b.ecc with
  | .none => s
  | .ce => rec_ 1 0x2007000C 0x100
  | .ue => rec_ 2 0x20070010 0x200

/-- The rows that a request to LP5 memory activates, one granule and channel after another (R483, R490). -/
def State.rowOpen (s : State) (u : UnitId) (b : Burst) : State :=
  s.rowsOpen u (b.addr / 64) (b.rows.take (granules b.addr (burstLen b)).length)

/-- Data in which the 8-byte word that ECC finds uncorrectable is exact zero (R484). -/
def wordZero (b : Burst) (d : List Byte) : List Byte :=
  (List.range d.length).map (fun i => if (b.addr + i) / 8 = b.addr / 8 + b.word then 0 else d.getD i 0)

/-- Window `w` of LP5 memory holds an address, in units of 64 KiB of the usable window (R495, R499). -/
def State.inRegion (s : State) (u : UnitId) (w a : Nat) : Bool :=
  let k := (a - 0x200000000) / 65536
  let base := s.reg (.unit u) (0x20070200 + 0x10 * w) % 2 ^ 17
  let limit := s.reg (.unit u) (0x20070204 + 0x10 * w) % 2 ^ 17
  decide (base ≤ k ∧ k ≤ limit)

/-- The regions permit an access: a window that holds its first byte admits the master, or none holds it and the master is
the control core (R495). -/
def State.regionOk (s : State) (u : UnitId) (m a : Nat) (wr : Bool) : Bool :=
  let ws := (List.range 8).filter (fun w => s.inRegion u w a)
  ws.any (fun w => natBit (s.reg (.unit u) (0x20070208 + 0x10 * w)) (m + if wr then 16 else 0)) || (ws.isEmpty && m == 0)

/-- An access to LP5 memory: an uncorrectable word is exact zero to the correction engine and the bulk delay, whose block is then a
fault, and an error response to every other reader (R153, R200, R484, R490, R495). -/
def State.lpAccess (s : State) (u : UnitId) (b : Burst) : BusRes × State :=
  let wr := isWriteKind b.kind
  if s.regionOk u b.master b.addr wr = false then (.fail 7, s)
  else
    let s1 := (s.rowOpen u b).lpEcc u b
    match b.ecc, b.kind with
    | .ue, .write _ => s1.memAccess u b 5
    | .ue, _ =>
      if b.master = 5 ∨ b.master = 6 then
        match s1.memAccess u b 5 with
        | (.data d, t) => (.data (wordZero b d), t.blockFault u (s.unit u).rd.chain 1)
        | r => r
      else (.fail 6, s1)
    | _, _ => s1.memAccess u b 5

/-- Successive 32-bit registers are read. -/
def State.regReads (s : State) (m : RegMaster) (sp : Space) (a : Nat) : Nat → BusRes × State
  | 0 => (.data [], s)
  | n + 1 =>
    match s.readReg m sp a with
    | none => (.fail 1, s)
    | some (v, t) =>
      match t.regReads m sp (a + 4) n with
      | (.data d, t1) => (.data (leBytes 4 v ++ d), t1)
      | r => r

/-- Successive 32-bit registers are written; one that refuses the master answers as read-only (R9, R10). -/
def State.regWrites (s : State) (m : RegMaster) (sp : Space) (a : Nat) (d : List (Byte × Bool)) : Nat → BusRes × State
  | 0 => (.data [], s)
  | n + 1 =>
    match s.writeReg m sp a (leNat ((d.take 4).map (·.1))) with
    | none => (.fail (if regDecodes m sp a then 5 else 1), s)
    | some t => t.regWrites m sp (a + 4) (d.drop 4) n

/-- An access to register space: aligned 32-bit accesses only (R9). -/
def State.regAccess (s : State) (u : UnitId) (b : Burst) (sp : Space) : BusRes × State :=
  let m := regMaster u b.master
  if b.size ≠ 4 ∨ b.addr % 4 ≠ 0 then (.fail 3, s)
  else
    match b.kind with
    | .write d => if d.all (·.2) then s.regWrites m sp b.addr d b.beats else (.fail 3, s)
    | _ => s.regReads m sp b.addr b.beats

/-- An access to core SRAM or the windows of a unit meets a bank group that is in retention (R474). -/
def State.retained (s : State) (u : UnitId) (a n : Nat) : Bool :=
  decide (s.awakeNow u < 64) && (List.range n).any (fun i => decide (s.awakeNow u ≤ Config.bankGroup (a + i) % 64))

/-- What ECC finds in a read of the SRAM windows is counted and shown by the block whose memory it is: object history and pair
memory (R132), the Novil memories (R247) or correction SRAM (R200); an uncorrectable pair word reads as a free value and any other
as zero (log entry 169). -/
def State.windowEcc (s : State) (u : UnitId) (b : Burst) (d : List Byte) : BusRes × State :=
  let a := b.addr
  let n := (s.unit u).rd.chain
  let zero : BusRes := .data (List.replicate d.length 0)
  let bad := b.ecc == .ue
  if b.ecc = .none then (.data d, s)
  else if a < 0x12000000 then (if bad then zero else .data d, s.histEcc u n b.ecc)
  else if a < 0x15000000 then
    if bad then (.data (leBytes d.length s.freeNat), s.drawn.siltUe u ((a - 0x14000000) / 0x40000) n) else (.data d, s.siltCe u 1)
  else if a < 0x18800000 then
    let e := (a - 0x18000000) / 0x80000
    (if bad then zero else .data d, s.nvEcc u e ((s.unit u).nv.engine e).blk b.ecc)
  else (if bad then zero else .data d, s.chainCheck u n (if bad then .cxUe 0 (.tap .now 0) else .cxCe 1))

/-- A read of core SRAM with what its ECC finds: a corrected word counts, an uncorrectable one has a free value. -/
def State.sramRead (s : State) (u : UnitId) (b : Burst) (r : BusRes × State) : BusRes × State :=
  match b.ecc, r with
  | .ce, (x, t) => (x, t.sramCe u)
  | .ue, (.data d, t) => (.data (if d.isEmpty then d else leBytes d.length s.freeNat), t.drawn)
  | _, x => x

/-- A request served at its target, other than the peer window (R464, R465). -/
def State.serve (s : State) (u : UnitId) (b : Burst) (t : Nat) : BusRes × State :=
  match t with
  | 0 =>
    if isWriteKind b.kind then (.fail 5, s)
    else (.data ((List.range (burstLen b)).map (fun i => Config.bootRom (b.addr + i))), s)
  | 1 => if s.retained u b.addr (burstLen b) then (.fail 1, s) else s.sramRead u b (s.memAccess u b 1)
  | 2 =>
    if isWriteKind b.kind then (.fail 5, s)
    else if s.retained u b.addr (burstLen b) then (.fail 1, s)
    else
      match s.windowBytes u b.addr (burstLen b) with
      | some d => (if 0x1C000000 ≤ b.addr then s.drawn else s).windowEcc u b d
      | none => (.fail 1, s)
  | 3 => s.regAccess u b (.unit u)
  | 4 => s.regAccess u b .shared
  | 5 => s.lpAccess u b
  | _ => (.fail 1, s)

/-- The answer leaves the matrix; an error is recorded (R482). -/
def State.answer (s : State) (u : UnitId) (b : Burst) (t : Nat) (r : BusRes) : State :=
  match r with
  | .data d => s.emit (.busData u b.master b.id d)
  | .sc ok => s.emit (.busSc u b.master b.id ok)
  | .fail k => s.busFail u k t b.master b.id b.addr (isWriteKind b.kind)

/-! ### The peer window (R26, R27) -/

/-- What the peer window permits at an address of the other unit (R26). -/
def peerOk (a n : Nat) (wr : Bool) : Bool :=
  if wr then 0x080F0000 ≤ a && a + n ≤ 0x08100000
  else busReach 9 (busTarget a)

/-! ### Arbitration, holdback and regulators (R466 to R468, R485, R486) -/

/-- The regulator of a request, none for a master without one (R486, R497). -/
def regulatorOf (b : Burst) : Option Nat :=
  if 1 ≤ b.master ∧ b.master ≤ 4 then some (4 * (b.master - 1) + b.engine % 4)
  else if b.master = 0 then some 16
  else if 7 ≤ b.master ∧ b.master ≤ 11 then some (b.master + 10)
  else none

/-- The regulator lets a request to LP5 memory issue (R486). -/
def State.paced (s : State) (u : UnitId) (b : Burst) : Bool := (regulatorOf b).all (s.bucketOk u)

/-- A request that issues to LP5 memory takes its length from its bucket (R486). -/
def State.spend (s : State) (u : UnitId) (b : Burst) : State :=
  match regulatorOf b with
  | none => s
  | some r => s.bucketSpend u r (burstLen b)

/-- The LP5 class of a master: 2 RT0, 1 RT1, 0 BE (R464). -/
def lpClass (m : Nat) : Nat := if m = 5 ∨ m = 6 then 2 else if (1 ≤ m ∧ m ≤ 4) ∨ m = 7 then 1 else 0

/-- The class in which a request is served after a wait: BE as RT1, RT1 as RT0 (R485). -/
def State.lpClassAt (s : State) (u : UnitId) (o : Outst) : Nat :=
  let c := lpClass o.req.master
  let age := s.reg (.unit u) 0x20070008
  let wait := (s.tb.us + 2 ^ 48 - o.us) % 2 ^ 48
  if c = 0 ∧ max 1 (natBits age 0 8) ≤ wait then 1
  else if c = 1 ∧ max 1 (natBits age 8 8) ≤ wait then 2
  else c

/-- LP5 memory takes requests: not in self-refresh, and no set-point change in progress (R492, R493). -/
def Lp5.open (l : Lp5) : Bool := !l.selfRefresh && !l.busyChange

/-- A permitted peer-window request reaches the other unit's matrix as master 9, which records its own errors. -/
def State.servePeer (s : State) (u : UnitId) (b : Burst) : State :=
  let a := b.addr - 0x400000000
  let q : Burst := { b with master := 9, addr := a }
  if burstExcl b ∨ peerOk a (burstLen b) (isWriteKind b.kind) = false then s.answer u b 6 (.fail 2)
  else
    match (if busTarget a = 5 then s.spend u.other q else s).serve u.other q (busTarget a) with
    | (.fail k, t) => (t.busFail u.other k (busTarget a) 9 b.id a (isWriteKind b.kind)).answer u b 6 (.fail 2)
    | (r, t) => t.answer u b 6 r

/-- The bridge can carry a request: the other unit is not disabled and its master 9 is not in reset (R470), the crossing is not stalled, and where the other unit's LP5
memory is addressed it takes requests and the bridge's regulator there lets the request pass (R27, R486, R492, R493). -/
def State.bridgeOk (s : State) (u : UnitId) (o : Outst) : Bool :=
  let a := o.req.addr - 0x400000000
  let q : Burst := { o.req with master := 9, addr := a }
  let held := busTarget a == 5 && !burstExcl o.req && peerOk a (burstLen o.req) (isWriteKind o.req.kind) &&
    !((s.unit u.other).fab.lp.open && s.paced u.other q)
  decide (s.unitState u.other ≠ 3) && !o.stall && !held && decide (9 ∉ (s.unit u.other).fab.draining)

/-- A request may be granted: no earlier one with its ID is outstanding at another target, its regulator and LP5 memory let
it pass, and the bridge can carry it (R27, R467, R468, R486). -/
def State.mayGrant (s : State) (u : UnitId) (before : List Outst) (o : Outst) : Bool :=
  let r := o.req
  !(before.any (fun p => p.req.master == r.master && p.req.id == r.id && p.target != o.target)) &&
    (o.target != 5 || (s.paced u r && (s.unit u).fab.lp.open)) &&
    (o.target != 6 || s.bridgeOk u o)

/-- The outstanding requests at a target that may be granted, oldest first, the first of each master. -/
def State.ready (s : State) (u : UnitId) (t : Nat) (before seen : List Outst) : List Outst → List Outst
  | [] => seen.reverse
  | o :: l =>
    let first := !(before.any (fun p => p.target == t && p.req.master == o.req.master))
    let ok : Bool := o.target == t && first && s.mayGrant u before o
    s.ready u t (before ++ [o]) (if ok then o :: seen else seen) l

/-- The priority of a master at a target (R496). -/
def State.busPrio (s : State) (u : UnitId) (t m : Nat) : Nat :=
  if m < 8 then natBits (s.reg (.unit u) (0x20060100 + 8 * t)) (4 * m) 4
  else natBits (s.reg (.unit u) (0x20060104 + 8 * t)) (4 * (m - 8)) 4

/-- Steps of the round robin from the master after the one last granted to a master. -/
def rrSteps (last m : Nat) : Nat := (m + 11 - last) % 12

/-- The master last granted at a target or class. -/
def Fabric.last (f : Fabric) (k : Nat) : Nat := agetD f.lastGrant k 11

/-- What decides between contenders: a class or priority, and the turn within it, the smaller the better. -/
def State.rank (s : State) (u : UnitId) (t : Nat) (parked : Option Nat) (o : Outst) (pos : Nat) : Nat × Nat :=
  let f := (s.unit u).fab
  let m := o.req.master
  if t = 5 then
    let c := s.lpClassAt u o
    (c, if c = 2 then pos else rrSteps (f.last (8 + c)) m)
  else (s.busPrio u t m, if parked = some m then 0 else 1 + rrSteps (f.last t) m)

/-- The better of two ranks. -/
def better (a b : Nat × Nat) : Bool := decide (b.1 < a.1) || (a.1 == b.1 && decide (a.2 < b.2))

/-- The contender of best rank, of a list with positions. -/
def State.bestOf (s : State) (u : UnitId) (t : Nat) (parked : Option Nat) : Nat → List Outst → Option (Outst × (Nat × Nat))
  | _, [] => none
  | i, o :: l =>
    let r := s.rank u t parked o i
    match s.bestOf u t parked (i + 1) l with
    | some (p, q) => if better q r then some (p, q) else some (o, r)
    | none => some (o, r)

/-- A request that another master makes in the same handshake and whose own command is still to come. -/
def announced (b : Burst) (us m : Nat) : Outst := ⟨{ b with master := m, engine := 0 }, 0, us, false⟩

/-- The request that a target grants next: the best of those outstanding, unless an announced one is better. -/
def State.pick (s : State) (u : UnitId) (t : Nat) (parked : Option Nat) (b : Burst) : Option Outst :=
  let l := s.ready u t [] [] (s.unit u).fab.outstanding
  let extra := if busTarget b.addr = t then
      (b.others.filter (fun m => !(l.any (fun o => o.req.master == m)))).map (announced b s.tb.us)
    else []
  match s.bestOf u t parked 0 (l ++ extra) with
  | some (o, _) => if l.contains o then some o else none
  | none => none

/-- The first target with a request to grant. -/
def State.pickAny (s : State) (u : UnitId) (parked : Option Nat) (b : Burst) : Option Outst :=
  ([0, 1, 2, 3, 4, 5, 6] : List Nat).findSome? (fun t => s.pick u t (if busTarget b.addr = t then parked else none) b)

/-- A request is granted and served. -/
def State.grant (s : State) (u : UnitId) (o : Outst) : State :=
  let t := o.target
  let key := if t = 5 then 8 + s.lpClassAt u o else t
  let s1 := s.onFab u (fun f => { f with
    outstanding := f.outstanding.erase o, lastGrant := aput f.lastGrant key o.req.master })
  if t = 6 then s1.servePeer u o.req
  else
    let s2 := if t = 5 then s1.spend u o.req else s1
    let r := s2.serve u o.req t
    r.2.answer u o.req t r.1

/-- Requests are granted as long as one may be. -/
def State.grants (s : State) (u : UnitId) (b : Burst) : Nat → Option Nat → State
  | 0, _ => s
  | n + 1, parked =>
    match s.pickAny u parked b with
    | some o => (s.grant u o).grants u b n none
    | none => s

/-- A request enters the matrix: refused at once with an error response, or outstanding until it is granted (R465, R466,
R469). A master that drains accepts nothing (R470). -/
def State.burst (s : State) (u : UnitId) (b : Burst) (stall : Bool) : State :=
  let t := busTarget b.addr
  let f := (s.unit u).fab
  let wrongExcl : Bool := burstExcl b && !((t == 1 || t == 5) && (b.master == 0 || b.master == 11))
  if b.master ∈ f.draining then s
  else if 12 ≤ b.master ∨ t = 7 then s.answer u b 7 (.fail 1)
  else if busReach b.master t = false then s.answer u b t (.fail (if t = 6 then 2 else 1))
  else if burstForm b = false then s.answer u b t (.fail 3)
  else if wrongExcl then s.answer u b t (.fail (if t = 6 then 2 else 3))
  else
    let parked := if f.outstanding.all (fun o => o.target != t) ∧ f.last t = b.master then some b.master else none
    let s1 := s.onFab u (fun f => { f with outstanding := f.outstanding ++ [⟨b, t, s.tb.us, stall⟩] })
    s1.grants u b (f.outstanding.length + 1) parked

/-- BURST_REQUEST: a master's request is decoded, arbitrated and served at its target, or given an error response (R464 to
R469, R482 to R486). -/
def execBurstRequest (u : UnitId) (b : Burst) (s : State) : Host.Outcome State Fault Refusal := .next (s.burst u b false)

/-- PEER_WINDOW_ACCESS: a control core's access to the other unit, which the bridge carries or cannot complete; refused
accesses receive an error response (R26, R27). -/
def execPeerWindowAccess (u : UnitId) (b : Burst) (stall : Bool) (s : State) : Host.Outcome State Fault Refusal :=
  .next (s.burst u { b with master := 0, addr := 0x400000000 + b.addr % 0x400000000 } stall)

/-- BRIDGE_TIMEOUT: a peer-window request that has been outstanding for 10 µs receives its error response (R27, R468). -/
def execBridgeTimeout (u : UnitId) (s : State) : Host.Outcome State Fault Refusal :=
  match (s.unit u).fab.outstanding.find? (fun o => o.target == 6 && decide (10 ≤ (s.tb.us + 2 ^ 48 - o.us) % 2 ^ 48)) with
  | none => .next s
  | some o =>
    let s1 := s.onFab u (fun f => { f with outstanding := f.outstanding.erase o })
    .next (s1.answer u o.req 6 (.fail 4))

/-! ### DMA channels (R475, R476) -/

/-- The descriptor in 32 bytes, or none where a reserved bit is not 0 or LEN is outside its range (R475, R476). -/
def dmaDesc (d : List Byte) : Option DmaDesc :=
  let w := fun i => leNat ((d.drop (4 * i)).take 4)
  let src := w 0 + 2 ^ 32 * w 1
  let dst := w 2 + 2 ^ 32 * w 3
  if src % 4 ≠ 0 ∨ dst % 4 ≠ 0 ∨ 2 ^ 35 ≤ src ∨ 2 ^ 35 ≤ dst ∨ w 4 < 4 ∨ 16777216 < w 4 ∨ w 4 % 4 ≠ 0 ∨
      w 5 &&& 0x7FF0001F ≠ 0 ∨ 2 ≤ w 6 ∨ w 7 ≠ 0 then none
  else some ⟨src, dst, w 4, natBits (w 5) 5 15 * 32, natBit (w 5) 31, natBit (w 6) 0⟩

/-- A request of a DMA channel. -/
def dmaBurst (n a len : Nat) (k : BurstKind) (m : MemFind) : Burst := ⟨8, n, a, len / 4, 4, k, 0, [], m.ecc, m.word, m.rows⟩

/-- A DMA request must wait: LP5 memory takes none, or the DMA controller's regulator holds it (R486, R492, R493). -/
def State.dmaWaits (s : State) (u : UnitId) (b : Burst) : Bool :=
  busTarget b.addr == 5 && !((s.unit u).fab.lp.open && s.paced u b)

/-- One request of a DMA channel, served; its data, or none where it received an error response. -/
def State.dmaAccess (s : State) (u : UnitId) (b : Burst) : Option (List Byte) × State :=
  let t := busTarget b.addr
  if busReach 8 t = false ∨ t = 7 then (none, s.answer u b t (.fail (if t = 6 then 2 else 1)))
  else
    let r := (if t = 5 then s.spend u b else s).serve u b t
    match r.1 with
    | .data d => (some d, r.2)
    | x => (none, r.2.answer u b t x)

/-- The bytes of the next step of a copy: at most one burst, within a page at both ends. -/
def dmaChunk (src dst len : Nat) : Nat := min (min 64 len) (min (4096 - src % 4096) (4096 - dst % 4096))

/-- The chain stops with ERR at its present descriptor (R476). -/
def State.dmaErr (s : State) (u : UnitId) (n : Nat) : State :=
  (s.setDma u n { s.dmaCh u n with busy := false, desc := none, part := 0, buf := [] }).setStat (.unit u) (dmaStat n) 4

/-- A descriptor has completed: its interrupt, and the next descriptor or the end of the chain (R475, R476). -/
def State.dmaNext (s : State) (u : UnitId) (n : Nat) (q : DmaDesc) : State :=
  let d := { s.dmaCh u n with desc := none, part := 0, buf := [] }
  let s1 := if q.irq then s.raiseLevel u.core (0x30 + n) else s
  if q.last then (s1.setDma u n { d with busy := false }).setStat (.unit u) (dmaStat n) 2
  else s1.setDma u n { d with cur := q.next }

/-- A descriptor's copy, burst by burst, until it has completed, an access receives an error response, or an access must wait, where the
channel keeps what has moved. -/
def State.dmaCopy (s : State) (u : UnitId) (n : Nat) (q : DmaDesc) : Nat → List MemFind → State
  | 0, _ => s
  | fuel + 1, m =>
    let d := s.dmaCh u n
    if q.len ≤ d.part then s.dmaNext u n q
    else
      let k := dmaChunk (q.src + d.part) (q.dst + d.part) (q.len - d.part)
      let rd := d.buf.isEmpty
      let b := if rd then dmaBurst n (q.src + d.part) k .read (m.headD {})
        else dmaBurst n (q.dst + d.part) k (.write (d.buf.map (fun x => (x, true)))) (m.headD {})
      if s.dmaWaits u b then s
      else
        match s.dmaAccess u b with
        | (none, s1) => s1.dmaErr u n
        | (some l, s1) =>
          let d1 := s1.dmaCh u n
          (s1.setDma u n (if rd then { d1 with buf := l } else { d1 with buf := [], part := d1.part + k, bytes := d1.bytes + k })).dmaCopy u n q
            fuel m.tail

/-- DMA_DESCRIPTOR_DONE: the present descriptor of a busy channel is carried out as far as its regulator lets it, and once all of it has
moved the chain goes on, ends with DONE, or it stops with ERR (R475, R476, R486). -/
def execDmaDescriptorDone (u : UnitId) (w : DmaStep) (s : State) : Host.Outcome State Fault Refusal :=
  let n := w.ch
  let d := s.dmaCh u n
  if 16 ≤ n ∨ d.busy = false ∨ 8 ∈ (s.unit u).fab.draining then .next s
  else
    match d.desc with
    | some q => .next (s.dmaCopy u n q (2 * q.len + 1) w.mem)
    | none =>
      match s.dmaAccess u (dmaBurst n (0x08000000 + d.cur) 32 .read (w.mem.headD {})) with
      | (none, s1) => .next (s1.dmaErr u n)
      | (some b, s1) =>
        match dmaDesc b with
        | none => .next (s1.dmaErr u n)
        | some q =>
          if busTarget q.dst = 0 ∨ busTarget q.dst = 2 then .next (s1.dmaErr u n)
          else .next ((s1.setDma u n { s1.dmaCh u n with desc := some q }).dmaCopy u n q (2 * q.len + 1) w.mem.tail)

end Sys2Proof.Machine
end

