-- ==== Sys2Proof/Machine/Notify.lean ====
section
/-!
DEFINITION. Subscriptions, notifications and discovery (R363, R364, R374), and the end of a management restart (R454).
-/
namespace Sys2Proof.Machine
open Sys2Proof

/-! ### Scans (R363, R385) -/

/-- Blocks between scans (R363). -/
def scanLen (rate : Nat) : Nat := if rate = 96000 then 96 else 48

/-- The keys that a subscription compares: every readable element that it covers. -/
def Sub.keys (b : Sub) : List Nat :=
  ((⟨b.idx, b.sub, b.elem, b.count⟩ : Addr).entries.filter (fun e => e.acc != .wo)).flatMap (fun e =>
    (List.range b.count).map (fun i => dkey e.idx e.sub (b.elem + i)))

/-- A VALUE note: type code and value; of a DOMAIN value the code alone, since only domain operations carry it (R353, R363,
R364). -/
def valueNote (k blk : Nat) (v : DVal) : Note :=
  let ty := ((dictFind (keyIdx k) (keySub k)).map (·.ty)).getD (.u 32)
  ⟨1, k, blk, beBytes 1 ty.code ++ if ty = .dom then [] else encodeVal ty v⟩

/-- One subscription's comparison at a scan: what it keeps, and the keys that it notifies. -/
def State.scanSub (s : State) (b : Sub) : Sub × List (Nat × DVal) :=
  let vals : List (Nat × DVal) := b.keys.map (fun k => (k, s.dictRead k s.tb.sidx))
  let hit :=
    if b.mode = 0 then (if b.scans = 0 then [] else vals.filter (fun p => (aget? b.last p.1) != some p.2))
    else if b.scans % max 1 b.period = 0 then vals else []
  ({ b with scans := b.scans + 1, last := if b.mode = 0 then vals else [] }, hit)

/-- One session's subscriptions at a scan. -/
def State.scanSession (s : State) (blk n : Nat) : State :=
  let y := s.sess n
  if y.isOpen = false then s
  else
    let rs := y.subs.map s.scanSub
    let s1 := s.setSess n { y with subs := rs.map (·.1) }
    (rs.flatMap (·.2)).foldl (fun (t : State) p => t.noteTo n (valueNote p.1 blk p.2)) s1

/-- Readings replace those held; none leaves them. -/
def newReadings (now old : List Nat) : List Nat := if now.isEmpty then old else now.map (min 65535)

/-- The scan of a block: the monitors are refreshed, with the voltages and speed indices that the environment gives, and every
subscription is compared (R363, R385, R447). -/
def State.scan (s : State) (volts speeds : List Nat) : State :=
  let b := s.tb.sidx / 32
  let s0 := { s with
    dam := { s.dam with scanBlk := some b }
    sub := { s.sub with
      volts := newReadings (volts.take 20) s.sub.volts, speeds := newReadings (speeds.take 24) s.sub.speeds } }
  sessionIds.foldl (fun (t : State) n => t.scanSession b n) s0.refreshMonitors

/-- SUBSCRIPTION_SCAN: a scan at a block whose index is a multiple of the scan length; a message in progress is finished first,
since the monitors do not change within one (R363, R385). -/
def execSubscriptionScan (volts speeds : List Nat) (s : State) : Host.Outcome State Fault Refusal :=
  let b := s.tb.sidx / 32
  if s.frontRuns = false ∨ b % scanLen s.rate ≠ 0 ∨ s.dam.scanBlk = some b then .next s
  else if s.finishMsg.frontRuns = false then .next s.finishMsg
  else .next (s.finishMsg.scan volts speeds)

/-- MIRROR_RESULT: a result frame arrives from the island; a message in progress is finished first, since the values of one
message come from one result (R284, R395). -/
def execMirrorResult (bad : Bool) (s : State) : Host.Outcome State Fault Refusal :=
  .next ((if bad then s else s.finishMsg).takeResult bad)

/-! ### Notification messages (R363) -/

/-- The bytes of a note in a message. -/
def noteSize (i : FItem Note) : Nat :=
  match i with
  | .item n _ => 20 + n.payload.length
  | .gap _ => 22

/-- The notes from the head of a queue that fit in a number of bytes. -/
def notesFit : Nat → List (FItem Note) → List (FItem Note)
  | _, [] => []
  | room, i :: l => if noteSize i ≤ room then i :: notesFit (room - noteSize i) l else []

/-- The address of an entry in a note, with COUNT 1; zeros where the note names none (R352, R363). -/
def noteAddr (k : Nat) : List Byte :=
  if k = 0 then List.replicate 8 0
  else beBytes 2 (keyIdx k) ++ beBytes 1 (keySub k) ++ [0] ++ beBytes 2 (keyElem k) ++ beBytes 2 1

/-- A note as bytes: CODE, the length of what follows, address, block index and payload; a gap marker is a QUEUE_GAP note with
its drop count, at a block index that the spec does not give (R363, R364, log entry 174). -/
def noteBytes (epoch seq : Nat) (i : FItem Note) : List Byte :=
  match i with
  | .item n _ => beBytes 2 n.code ++ beBytes 2 (16 + n.payload.length) ++ noteAddr n.key ++ beBytes 8 n.block ++ n.payload
  | .gap d => beBytes 2 0x000E ++ beBytes 2 18 ++ noteAddr 0 ++ beBytes 8 (Config.gapBlock epoch seq) ++ beBytes 2 d

/-- A notification message of a session: NOTE_SEQ and the notes (R350, R363). -/
def noteDatagram (cred : List Byte) (n : Nat) (y : Session) (l : List (FItem Note)) : Datagram :=
  messageOf cred 3 n 0 y.epoch y.txSeq 0 (beBytes 4 y.noteSeq ++ l.flatMap (noteBytes y.epoch y.noteSeq))

/-- NOTIFICATION_SEND: the head of session `n`'s queue leaves in one message, at most once in 10 ms (R363). -/
def execNotificationSend (n : Nat) (s : State) : Host.Outcome State Fault Refusal :=
  let y := s.sess n
  let early := match y.lastNote with
    | some t => decide (s.usSince t < 10000)
    | none => false
  if s.frontRuns = false ∨ y.isOpen = false ∨ y.queue.items = [] ∨ early = true then .next s
  else
    let l := notesFit 1420 y.queue.items
    let s1 := s.setSess n { y with
      queue := { y.queue with items := y.queue.items.drop l.length }
      txSeq := y.txSeq + 1, noteSeq := (y.noteSeq + l.length) % 2 ^ 32, lastNote := some s.tb.us }
    .next (s1.sendMsg y.peer.port (.notes n y.txSeq y.noteSeq l y.peer (noteDatagram (s.cred n) n y l)))

/-! ### Discovery (R374) -/

/-- Bytes padded with zeros, or cut, to a length. -/
def padTo (n : Nat) (b : List Byte) : List Byte := b.take n ++ List.replicate (n - b.length) 0

/-- The body of a discover reply on a port (R374). -/
def State.discoverBody (s : State) (p : Nat) : List Byte :=
  padTo 16 partNumber ++ beBytes 8 Config.serial ++ beBytes 1 (s.feN 0x1000 2 0) ++ beBytes 4 (s.feN 0x1000 8 0) ++
    beBytes 8 (s.feN 0x3000 3 p) ++ beBytes 4 (s.feN 0x3000 6 p) ++ padTo 64 (s.fe (dkey 0x1010 1 0)).toBytes

/-- A discover reply of a peer enters PEER_TABLE, which keeps the 32 most recently heard (R374). -/
def State.addPeer (s : State) (src : Peer) (body : List Byte) : State :=
  let t := s.noteForms
  let l := t.dam.peers.filter (fun e => e.2.1 != src.ip)
  ({ t with dam := { t.dam with peers := ((body, src.ip, s.tb.us) :: l).take 32 } }).noteForms

/-- A discover message is accepted for a reply after a random delay of 0 to 100 ms, at most one per second from a source
(R374). -/
def State.discovered (s : State) (src : Peer) (dg : List Byte) : State :=
  if fieldAt dg 6 2 ≠ 0 ∨ fieldAt dg 4 1 ≠ 0 then s
  else if (agetD s.dam.discSrc src.ip none).any (fun t => decide (s.usSince t < 1000000)) then s
  else
    let due := (s.tb.us + s.freeNat % 100001) % 2 ^ 48
    let s1 := s.drawn
    { s1 with dam := { s1.dam with
      discoverDue := s1.dam.discoverDue ++ [(src, due)]
      discSrc := aput s1.dam.discSrc src.ip (some s.tb.us) } }

/-- DISCOVER: a discover message is answered later, and a discover reply of a peer is recorded; a message in progress is
finished first (R349, R374). -/
def execDmlDiscover (src : Peer) (dg : List Byte) (s : State) : Host.Outcome State Fault Refusal :=
  if s.frontRuns = false then .next s
  else if s.takes 6 src dg then .next (s.finishMsg.discovered src dg)
  else if s.takes 7 src dg then .next (s.finishMsg.addPeer src ((dg.drop 32).take (fieldAt dg 6 2)))
  else .next s

/-- DISCOVER_REPLY_SEND: a discover reply whose delay has passed is sent (R374). -/
def execDiscoverReplySend (s : State) : Host.Outcome State Fault Refusal :=
  match s.dam.discoverDue.find? (fun e => decide (s.usSince e.2 < 2 ^ 47)) with
  | none => .next s
  | some e =>
    if s.frontRuns = false then .next s
    else
      let body := s.discoverBody e.1.port
      .next ({ s with dam := { s.dam with discoverDue := s.dam.discoverDue.erase e } }.sendMsg e.1.port
        (.discoverReply body e.1 (messageOf [] 7 0 0 0 0 0 body)))

/-- DISCOVER_SEND: with DISC_EN a discover leaves on every Dameel interface every 30 s (R374). -/
def execDiscoverSend (s : State) : Host.Outcome State Fault Refusal :=
  let early := match s.dam.lastDiscover with
    | some t => decide (s.usSince t < 30000000)
    | none => false
  if s.frontRuns = false ∨ s.sub.recovery ∨ s.feN 0xC000 4 0 ≠ 1 ∨ early = true then .next s
  else
    let s1 := { s with dam := { s.dam with lastDiscover := some s.tb.us } }
    .next ((([0, 1, 2, 3, 4] : List Nat).filter s.dmlOn).foldl (fun (t : State) p => t.sendMsg p (.discover p (messageOf [] 6 0 0 0 0 0 []))) s1)

/-- PEER_EXPIRY: peers without a reply for 300 s leave PEER_TABLE (R374). -/
def execPeerExpiry (s : State) : Host.Outcome State Fault Refusal :=
  let t := s.noteForms
  .next ({ t with dam := { t.dam with peers := t.dam.peers.filter (fun e => decide (s.usSince e.2.2 < 300000000)) } }).noteForms

/-! ### The end of a management restart (R438, R454, R456, R463) -/

/-- The retained area has failed its CRC: every session ends as at lease expiry, and the buffered log records, the servo's state and
the state of the exposure groups are lost (R433, R454, R463). -/
def State.retainedBad (s : State) : State :=
  let s1 := sessionIds.foldl (fun (t : State) n => if (t.sess n).isOpen then t.leaseEnd n t.tb.sidx else t)
    { s with ptp := {}, sub := { s.sub with logBuf := [] }, kao := { s.kao with misses := [0, 0, 0, 0, 0, 0, 0, 0] } }
  let s2 := (List.range 8).foldl (fun (t : State) g => t.setFeN 0x6500 7 g 0) s1
  s2.setStat .shared mbStat 0x100

/-- The device is in recovery mode after a restart: POWER_STATE is 0, the render units are unpowered, and M0 alone runs (R439). -/
def State.haltUnits (s : State) : State :=
  let s1 := { s with
    ua := {}, ub := {}, regs := s.regs.filter (fun e => e.1 / 2 ^ 32 == Space.shared.toNat)
    sub := { s.sub with power := .starting, transition := none, queuedReq := none, installDue := false } }
  ([0, 1, 2, 3] : List Nat).foldl (fun (t : State) p => t.setReg .shared (portBase p) 0) s1

/-- What a start finds that follows recovery mode without a power-on reset: the outcomes of training and of the SRAM write are not in
the restart's operands, so they are free values (log entry 205). -/
def State.lateEnv (s : State) : BootEnv :=
  let b := fun i => natBit s.freeNat i
  ⟨true, b 0, b 1, b 2, b 3, false, []⟩

/-- MANAGEMENT_RESTART_DONE: the management image is loaded again and the front end runs. Without an image that passes R436 the device
is in recovery mode; a device that was in recovery mode leaves it with the steps of R440 from the store on (R436, R438, R439, R454,
R458). -/
def execManagementRestartDone (crcOk pin : Bool) (s : State) : Host.Outcome State Fault Refusal :=
  if s.sub.restarting = false ∨ s.dieUp = false then .next s
  else
    let b := s.sub.bootSlot
    let p := s.sub
    let cause := if p.dir.trial && b.1 != p.dir.slot then 3 else p.restartCause
    let s1 := { s with sub := { p with
      restarting := false, vStopped := false, runSlot := b.1, kickUs := s.tb.us, serveUs := s.tb.us, restartCause := cause
      slotStarts := lset p.slotStarts b.1 (p.slotStarts.getD b.1 0 + 1) } }
    let s2 := if crcOk then s1 else s1.retainedBad
    if b.2 = false then .next ((s2.haltUnits.enterRecovery pin).logEvent 0x0002 0 0 0 cause)
    else if p.recovery then
      let s3 := (({ s2 with sub := { s2.sub with recovery := false } }.logRollback b.1).drawn.bootUnits b.1 s2.lateEnv).startFirmware
      .next ((s3.logEvent 0x0002 0 0 0 cause).reachReady)
    else .next (((s2.identMgmt b.1).logEvent 0x0002 0 0 0 cause).logRollback b.1)

end Sys2Proof.Machine
end

