-- ==== Sys2Proof/Machine/Dispatch.lean ====
section
/-!
DEFINITION. The dispatch: one arm per command.
-/
namespace Sys2Proof.Machine
open Sys2Proof

def exec (i : Instr) (s : State) : Host.Outcome State Fault Refusal :=
  match i with
  | .porNRelease env => Sys2Proof.Machine.execPorNRelease env s
  | .penCoreTimeout env => Sys2Proof.Machine.execPenCoreTimeout env s
  | .penLpTimeout u => Sys2Proof.Machine.execPenLpTimeout u s
  | .penSdsTimeout => Sys2Proof.Machine.execPenSdsTimeout s
  | .supplyLoss => Sys2Proof.Machine.execSupplyLoss s
  | .powerReq n v => Sys2Proof.Machine.execPowerReq n v s
  | .powerTransitionEnd => Sys2Proof.Machine.execPowerTransitionEnd s
  | .wakeEvent p f bad env => Sys2Proof.Machine.execWakeEvent p f bad env s
  | .thermalTrip sensor => Sys2Proof.Machine.execThermalTrip sensor s
  | .temperatureSample temps => Sys2Proof.Machine.execTemperatureSample temps s
  | .pmbAlert statusWord => Sys2Proof.Machine.execPmbAlert statusWord s
  | .pmbusReadback mv => Sys2Proof.Machine.execPmbusReadback mv s
  | .monitorBlockMargin u margin => Sys2Proof.Machine.execMonitorBlockMargin u margin s
  | .monitorWindowEnd => Sys2Proof.Machine.execMonitorWindowEnd s
  | .mwdtExpiry => Sys2Proof.Machine.execMwdtExpiry s
  | .mwdtKick c v => Sys2Proof.Machine.execMwdtKick c v s
  | .managementRestartDone crcOk pin => Sys2Proof.Machine.execManagementRestartDone crcOk pin s
  | .controlWatchdogExpiry u => Sys2Proof.Machine.execControlWatchdogExpiry u s
  | .controlImageLoaded u => Sys2Proof.Machine.execControlImageLoaded u s
  | .sampleTick => Sys2Proof.Machine.execSampleTick s
  | .secondBoundary => Sys2Proof.Machine.execSecondBoundary s
  | .ppsOutFall => Sys2Proof.Machine.execPpsOutFall s
  | .tbUsStep => Sys2Proof.Machine.execTbUsStep s
  | .tbIncrHiWrite c v => Sys2Proof.Machine.execTbIncrHiWrite c v s
  | .tbStepHiWrite c v => Sys2Proof.Machine.execTbStepHiWrite c v s
  | .tbCtrlEn c v => Sys2Proof.Machine.execTbCtrlEn c v s
  | .mclkEn c v => Sys2Proof.Machine.execMclkEn c v s
  | .latchingRead c sp addr => Sys2Proof.Machine.execLatchingRead c sp addr s
  | .readClear c sp addr => Sys2Proof.Machine.execReadClear c sp addr s
  | .registerWrite c sp addr v => Sys2Proof.Machine.execRegisterWrite c sp addr v s
  | .ppsInEdge incr stepNs => Sys2Proof.Machine.execPpsInEdge incr stepNs s
  | .ppsInTimeout => Sys2Proof.Machine.execPpsInTimeout s
  | .todSet sec ns => Sys2Proof.Machine.execTodSet sec ns s
  | .ptpSyncReceive offset incr stepNs => Sys2Proof.Machine.execPtpSyncReceive offset incr stepNs s
  | .ptpAnnounceReceive => Sys2Proof.Machine.execPtpAnnounceReceive s
  | .announceTimeout => Sys2Proof.Machine.execAnnounceTimeout s
  | .ptpSyncSend => Sys2Proof.Machine.execPtpSyncSend s
  | .pdelayReqSend p => Sys2Proof.Machine.execPdelayReqSend p s
  | .pdelayExchange p seq delay => Sys2Proof.Machine.execPdelayExchange p seq delay s
  | .pdelayTimeout p => Sys2Proof.Machine.execPdelayTimeout p s
  | .blockClose ue ce checks => Sys2Proof.Machine.execBlockClose ue ce checks s
  | .historyCommit u ce ue => Sys2Proof.Machine.execHistoryCommit u ce ue s
  | .lawRecordBroadcast u => Sys2Proof.Machine.execLawRecordBroadcast u s
  | .pairLawUpdate u t c => Sys2Proof.Machine.execPairLawUpdate u t c s
  | .lanePairRender u t c => Sys2Proof.Machine.execLanePairRender u t c s
  | .feedChainBlock u checks => Sys2Proof.Machine.execFeedChainBlock u checks s
  | .silenceGpioUpdate => Sys2Proof.Machine.execSilenceGpioUpdate s
  | .sealClose u => Sys2Proof.Machine.execSealClose u s
  | .computeDeadline u => Sys2Proof.Machine.execComputeDeadline u s
  | .lateCheckReport u ok => Sys2Proof.Machine.execLateCheckReport u ok s
  | .heartbeatReceive u => Sys2Proof.Machine.execHeartbeatReceive u s
  | .heartbeatLoss u => Sys2Proof.Machine.execHeartbeatLoss u s
  | .arbiterDecision copies => Sys2Proof.Machine.execArbiterDecision copies s
  | .sampleRelease bad => Sys2Proof.Machine.execSampleRelease bad s
  | .writeApply => Sys2Proof.Machine.execWriteApply s
  | .layoutSwitch => Sys2Proof.Machine.execLayoutSwitch s
  | .filterSwitch => Sys2Proof.Machine.execFilterSwitch s
  | .renderBegin => Sys2Proof.Machine.execRenderBegin s
  | .renderEnd => Sys2Proof.Machine.execRenderEnd s
  | .rateChange v => Sys2Proof.Machine.execRateChange v s
  | .resyncStart u => Sys2Proof.Machine.execResyncStart u s
  | .resyncPhaseAdvance u => Sys2Proof.Machine.execResyncPhaseAdvance u s
  | .sealMatch u => Sys2Proof.Machine.execSealMatch u s
  | .resyncAbort u => Sys2Proof.Machine.execResyncAbort u s
  | .promoteApply u => Sys2Proof.Machine.execPromoteApply u s
  | .updateApply u => Sys2Proof.Machine.execUpdateApply u s
  | .dmlOpen src dg => Sys2Proof.Machine.execDmlOpen src dg s
  | .dmlDiscover src dg => Sys2Proof.Machine.execDmlDiscover src dg s
  | .discoverReplySend => Sys2Proof.Machine.execDiscoverReplySend s
  | .discoverSend => Sys2Proof.Machine.execDiscoverSend s
  | .peerExpiry => Sys2Proof.Machine.execPeerExpiry s
  | .dmlRead src dg k => Sys2Proof.Machine.execDmlRead src dg k s
  | .dmlWrite src dg k => Sys2Proof.Machine.execDmlWrite src dg k s
  | .dmlSubscribe src dg k => Sys2Proof.Machine.execDmlSubscribe src dg k s
  | .dmlUnsubscribe src dg k => Sys2Proof.Machine.execDmlUnsubscribe src dg k s
  | .dmlLock src dg k => Sys2Proof.Machine.execDmlLock src dg k s
  | .dmlUnlock src dg k => Sys2Proof.Machine.execDmlUnlock src dg k s
  | .dmlDomainWrite src dg k => Sys2Proof.Machine.execDmlDomainWrite src dg k s
  | .dmlDomainRead src dg k => Sys2Proof.Machine.execDmlDomainRead src dg k s
  | .dmlDomainAbort src dg k => Sys2Proof.Machine.execDmlDomainAbort src dg k s
  | .domainTransferTimeout n x => Sys2Proof.Machine.execDomainTransferTimeout n x s
  | .dmlKeepalive src dg k => Sys2Proof.Machine.execDmlKeepalive src dg k s
  | .dmlJournalRead src dg k => Sys2Proof.Machine.execDmlJournalRead src dg k s
  | .dmlClose src dg k => Sys2Proof.Machine.execDmlClose src dg k s
  | .leaseEnd n => Sys2Proof.Machine.execLeaseEnd n s
  | .revertRetry n => Sys2Proof.Machine.execRevertRetry n s
  | .kickWrite n k v => Sys2Proof.Machine.execKickWrite n k v s
  | .snapshotWrite n k v => Sys2Proof.Machine.execSnapshotWrite n k v s
  | .subscriptionScan volts speeds => Sys2Proof.Machine.execSubscriptionScan volts speeds s
  | .notificationSend n => Sys2Proof.Machine.execNotificationSend n s
  | .ownerEntryWrite n r v => Sys2Proof.Machine.execOwnerEntryWrite n r v s
  | .ownerClaim c r id rel => Sys2Proof.Machine.execOwnerClaim c r id rel s
  | .ownerRelease c r => Sys2Proof.Machine.execOwnerRelease c r s
  | .renderWrite n v a => Sys2Proof.Machine.execRenderWrite n v a s
  | .storeResetWrite n v => Sys2Proof.Machine.execStoreResetWrite n v s
  | .configStoreSave => Sys2Proof.Machine.execConfigStoreSave s
  | .eventLogFlush => Sys2Proof.Machine.execEventLogFlush s
  | .eventRateSecond => Sys2Proof.Machine.execEventRateSecond s
  | .evqPush q w => Sys2Proof.Machine.execEvqPush q w s
  | .journalSlotRead u => Sys2Proof.Machine.execJournalSlotRead u s
  | .csCommit n k v a => Sys2Proof.Machine.execCsCommit n k v a s
  | .csRebuildDone u => Sys2Proof.Machine.execCsRebuildDone u s
  | .csSwitch => Sys2Proof.Machine.execCsSwitch s
  | .csEmpty n k v => Sys2Proof.Machine.execCsEmpty n k v s
  | .nvGraphCommit n v a => Sys2Proof.Machine.execNvGraphCommit n v a s
  | .nvGraphSwitch u => Sys2Proof.Machine.execNvGraphSwitch u s
  | .updateWrite n u v a => Sys2Proof.Machine.execUpdateWrite n u v a s
  | .mgmtActivate n v => Sys2Proof.Machine.execMgmtActivate n v s
  | .mgmtConfirm => Sys2Proof.Machine.execMgmtConfirm s
  | .ctrlInstall n v => Sys2Proof.Machine.execCtrlInstall n v s
  | .arbClear who v => Sys2Proof.Machine.execArbClear who v s
  | .arbHoldAtHiWrite c v => Sys2Proof.Machine.execArbHoldAtHiWrite c v s
  | .frameReceive p f bad stages ovf => Sys2Proof.Machine.execFrameReceive p f bad stages ovf s
  | .rxrTailWrite p r v => Sys2Proof.Machine.execRxrTailWrite p r v s
  | .txrTailWrite p r v => Sys2Proof.Machine.execTxrTailWrite p r v s
  | .frameTransmit p => Sys2Proof.Machine.execFrameTransmit p s
  | .ringEnWrite p tx r en => Sys2Proof.Machine.execRingEnWrite p tx r en s
  | .ringModerationExpiry p tx r => Sys2Proof.Machine.execRingModerationExpiry p tx r s
  | .linkChange p up phy => Sys2Proof.Machine.execLinkChange p up phy s
  | .autoNegotiationDone p stage partner fec => Sys2Proof.Machine.execAutoNegotiationDone p stage partner fec s
  | .portConfigWrite n p fec v => Sys2Proof.Machine.execPortConfigWrite n p fec v s
  | .modAbsFall p => Sys2Proof.Machine.execModAbsFall p s
  | .sfpIdRead p idPage diag => Sys2Proof.Machine.execSfpIdRead p idPage diag s
  | .sfpDiagPoll p diag => Sys2Proof.Machine.execSfpDiagPoll p diag s
  | .modAbsRise p => Sys2Proof.Machine.execModAbsRise p s
  | .streamPacketReceive p f stages ovf => Sys2Proof.Machine.execStreamPacketReceive p f stages ovf s
  | .egressPacketSend k => Sys2Proof.Machine.execEgressPacketSend k s
  | .sapReceive p b => Sys2Proof.Machine.execSapReceive p b s
  | .sapAnnounce => Sys2Proof.Machine.execSapAnnounce s
  | .sapSessionExpiry => Sys2Proof.Machine.execSapSessionExpiry s
  | .tdmFrame t din => Sys2Proof.Machine.execTdmFrame t din s
  | .tdmStart t => Sys2Proof.Machine.execTdmStart t s
  | .tdmStop t => Sys2Proof.Machine.execTdmStop t s
  | .rngGo n t v => Sys2Proof.Machine.execRngGo n t v s
  | .rangingDone t ns => Sys2Proof.Machine.execRangingDone t ns s
  | .rangingNoEcho t => Sys2Proof.Machine.execRangingNoEcho t s
  | .triggerArm who t start => Sys2Proof.Machine.execTriggerArm who t start s
  | .triggerDisarm who t => Sys2Proof.Machine.execTriggerDisarm who t s
  | .triggerFire t => Sys2Proof.Machine.execTriggerFire t s
  | .gpioPulseEnd g => Sys2Proof.Machine.execGpioPulseEnd g s
  | .gpioConfigWrite who g f v => Sys2Proof.Machine.execGpioConfigWrite who g f v s
  | .survGo n v a => Sys2Proof.Machine.execSurvGo n v a s
  | .surveyStep => Sys2Proof.Machine.execSurveyStep s
  | .surveyResultCopy => Sys2Proof.Machine.execSurveyResultCopy s
  | .novilJobStart u e => Sys2Proof.Machine.execNovilJobStart u e s
  | .novilTransferComplete u e => Sys2Proof.Machine.execNovilTransferComplete u e s
  | .nvNop c => Sys2Proof.Machine.execNvNop c s
  | .nvBr c cond target => Sys2Proof.Machine.execNvBr c cond target s
  | .nvCall c cond target => Sys2Proof.Machine.execNvCall c cond target s
  | .nvRet c => Sys2Proof.Machine.execNvRet c s
  | .nvLoop c lcs target => Sys2Proof.Machine.execNvLoop c lcs target s
  | .nvEnd c => Sys2Proof.Machine.execNvEnd c s
  | .nvDmaw c => Sys2Proof.Machine.execNvDmaw c s
  | .nvAdd c dd da db => Sys2Proof.Machine.execNvAdd c dd da db s
  | .nvSub c dd da db => Sys2Proof.Machine.execNvSub c dd da db s
  | .nvAnd c dd da db => Sys2Proof.Machine.execNvAnd c dd da db s
  | .nvOr c dd da db => Sys2Proof.Machine.execNvOr c dd da db s
  | .nvXor c dd da db => Sys2Proof.Machine.execNvXor c dd da db s
  | .nvShl c dd da db => Sys2Proof.Machine.execNvShl c dd da db s
  | .nvShr c dd da db => Sys2Proof.Machine.execNvShr c dd da db s
  | .nvShrl c dd da db => Sys2Proof.Machine.execNvShrl c dd da db s
  | .nvMin c dd da db => Sys2Proof.Machine.execNvMin c dd da db s
  | .nvMax c dd da db => Sys2Proof.Machine.execNvMax c dd da db s
  | .nvAbs c dd da => Sys2Proof.Machine.execNvAbs c dd da s
  | .nvNeg c dd da => Sys2Proof.Machine.execNvNeg c dd da s
  | .nvAdds c dd da db => Sys2Proof.Machine.execNvAdds c dd da db s
  | .nvSubs c dd da db => Sys2Proof.Machine.execNvSubs c dd da db s
  | .nvCmp c da db => Sys2Proof.Machine.execNvCmp c da db s
  | .nvMul c dd da db => Sys2Proof.Machine.execNvMul c dd da db s
  | .nvLdi c dd v => Sys2Proof.Machine.execNvLdi c dd v s
  | .nvLdh c dd v => Sys2Proof.Machine.execNvLdh c dd v s
  | .nvAddi c dd v => Sys2Proof.Machine.execNvAddi c dd v s
  | .nvCmpi c dd v => Sys2Proof.Machine.execNvCmpi c dd v s
  | .nvShli c dd v => Sys2Proof.Machine.execNvShli c dd v s
  | .nvShri c dd v => Sys2Proof.Machine.execNvShri c dd v s
  | .nvAndi c dd v => Sys2Proof.Machine.execNvAndi c dd v s
  | .nvLoad c m d ptr upd => Sys2Proof.Machine.execNvLoad c m d ptr upd s
  | .nvStore c m d ptr upd => Sys2Proof.Machine.execNvStore c m d ptr upd s
  | .nvMoveToSpecial c d sp => Sys2Proof.Machine.execNvMoveToSpecial c d sp s
  | .nvMoveFromSpecial c d sp => Sys2Proof.Machine.execNvMoveFromSpecial c d sp s
  | .nvSta c aa dd sh rm => Sys2Proof.Machine.execNvSta c aa dd sh rm s
  | .nvClra c aa => Sys2Proof.Machine.execNvClra c aa s
  | .nvAdda c aa ab => Sys2Proof.Machine.execNvAdda c aa ab s
  | .nvSuba c aa ab => Sys2Proof.Machine.execNvSuba c aa ab s
  | .nvLda c aa dd sh => Sys2Proof.Machine.execNvLda c aa dd sh s
  | .nvShra c aa sh rm => Sys2Proof.Machine.execNvShra c aa sh rm s
  | .nvNega c aa => Sys2Proof.Machine.execNvNega c aa s
  | .nvDma c ptr => Sys2Proof.Machine.execNvDma c ptr s
  | .nvMac c m => Sys2Proof.Machine.execNvMac c m s
  | .nvMsu c m => Sys2Proof.Machine.execNvMsu c m s
  | .nvMpy c m => Sys2Proof.Machine.execNvMpy c m s
  | .nvMpyn c m => Sys2Proof.Machine.execNvMpyn c m s
  | .burstRequest u b => Sys2Proof.Machine.execBurstRequest u b s
  | .peerWindowAccess u b stall => Sys2Proof.Machine.execPeerWindowAccess u b stall s
  | .bridgeTimeout u => Sys2Proof.Machine.execBridgeTimeout u s
  | .bmMrst c u mask => Sys2Proof.Machine.execBmMrst c u mask s
  | .masterDrainEnd u m => Sys2Proof.Machine.execMasterDrainEnd u m s
  | .dmaGo c u n => Sys2Proof.Machine.execDmaGo c u n s
  | .dmaAbort c u n => Sys2Proof.Machine.execDmaAbort c u n s
  | .dmaDescriptorDone u w => Sys2Proof.Machine.execDmaDescriptorDone u w s
  | .fifoDataRead c u inst => Sys2Proof.Machine.execFifoDataRead c u inst s
  | .fifoDropPkt c u inst => Sys2Proof.Machine.execFifoDropPkt c u inst s
  | .fifoFlush c u inst => Sys2Proof.Machine.execFifoFlush c u inst s
  | .scrubPass u found => Sys2Proof.Machine.execScrubPass u found s
  | .sramWakeDone u => Sys2Proof.Machine.execSramWakeDone u s
  | .refreshDue u ch busy => Sys2Proof.Machine.execRefreshDue u ch busy s
  | .postponedRefresh u ch => Sys2Proof.Machine.execPostponedRefresh u ch s
  | .periodicTraining u begin_ => Sys2Proof.Machine.execPeriodicTraining u begin_ s
  | .freqReq c u v => Sys2Proof.Machine.execFreqReq c u v s
  | .freqChangeDone u ok => Sys2Proof.Machine.execFreqChangeDone u ok s
  | .srReqEnter c u => Sys2Proof.Machine.execSrReqEnter c u s
  | .srReqExit c u => Sys2Proof.Machine.execSrReqExit c u s
  | .svPush c u v => Sys2Proof.Machine.execSvPush c u v s
  | .svPop c u => Sys2Proof.Machine.execSvPop c u s
  | .svDone c u v => Sys2Proof.Machine.execSvDone c u v s
  | .delayRelease u => Sys2Proof.Machine.execDelayRelease u s
  | .sieveSpill u => Sys2Proof.Machine.execSieveSpill u s
  | .sieveReload u ue => Sys2Proof.Machine.execSieveReload u ue s
  | .icClaim c => Sys2Proof.Machine.execIcClaim c s
  | .icComplete by_ c src => Sys2Proof.Machine.execIcComplete by_ c src s
  | .icPendWrite by_ c w v => Sys2Proof.Machine.execIcPendWrite by_ c w v s
  | .icTimecmpHiWrite by_ c v => Sys2Proof.Machine.execIcTimecmpHiWrite by_ c v s
  | .moderationRelease c g => Sys2Proof.Machine.execModerationRelease c g s
  | .wfiWake c => Sys2Proof.Machine.execWfiWake c s
  | .mirrorResult bad => Sys2Proof.Machine.execMirrorResult bad s
  | .expoIntervalMissed => Sys2Proof.Machine.execExpoIntervalMissed s
  | .koLinkLost => Sys2Proof.Machine.execKoLinkLost s
  | .logReq who v => Sys2Proof.Machine.execLogReq who v s
  | .logRequestTimeout => Sys2Proof.Machine.execLogRequestTimeout s
  | .logPageReceive bad => Sys2Proof.Machine.execLogPageReceive bad s
  | .koImgStart c => Sys2Proof.Machine.execKoImgStart c s
  | .koImgData c v => Sys2Proof.Machine.execKoImgData c v s
  | .koImgEnd c => Sys2Proof.Machine.execKoImgEnd c s
  | .kaoInstall n v => Sys2Proof.Machine.execKaoInstall n v s
  | .timeWordSend => Sys2Proof.Machine.execTimeWordSend s
  | .kaolinStart powerOn => Sys2Proof.Machine.execKaolinStart powerOn s
  | .kaolinWatchdogExpiry => Sys2Proof.Machine.execKaolinWatchdogExpiry s
  | .senseReading c steps off => Sys2Proof.Machine.execSenseReading c steps off s
  | .combinerReturn c => Sys2Proof.Machine.execCombinerReturn c s
  | .intervalResult rest => Sys2Proof.Machine.execIntervalResult rest s
  | .suppressionEnd c fam => Sys2Proof.Machine.execSuppressionEnd c fam s
  | .minuteRecord fate => Sys2Proof.Machine.execMinuteRecord fate s
  | .statusFrame => Sys2Proof.Machine.execStatusFrame s
  | .rawSample k volts bad full => Sys2Proof.Machine.execRawSample k volts bad full s
  | .timeStrobe ticks bad => Sys2Proof.Machine.execTimeStrobe ticks bad s
  | .logRequestReceive bad => Sys2Proof.Machine.execLogRequestReceive bad s
  | .imageBlockReceive bad => Sys2Proof.Machine.execImageBlockReceive bad s
  | .consoleId => Sys2Proof.Machine.execConsoleId s
  | .consoleKey => Sys2Proof.Machine.execConsoleKey s
  | .consoleTime => Sys2Proof.Machine.execConsoleTime s
  | .consoleStatus => Sys2Proof.Machine.execConsoleStatus s
  | .consoleLog n => Sys2Proof.Machine.execConsoleLog n s
  | .consoleUnknown => Sys2Proof.Machine.execConsoleUnknown s
  | .porNAssert => Sys2Proof.Machine.execPorNAssert s
  | .kaoSupplyLoss => Sys2Proof.Machine.execKaoSupplyLoss s
  | .kaoUnsealChange level => Sys2Proof.Machine.execKaoUnsealChange level s
  | .ingressStreamTimeout k => Sys2Proof.Machine.execIngressStreamTimeout k s
  | .statusFrameReceive bad => Sys2Proof.Machine.execStatusFrameReceive bad s
  | .refreshDerateChange u hot => Sys2Proof.Machine.execRefreshDerateChange u hot s

end Sys2Proof.Machine
end

