-- ==== Sys2Proof/WellFormed.lean ====
section
/-!
DEFINITION. Well-formed commands: every number that names a place (a port, a ring, a trigger, a channel, a session) names
one that the device has, and every field of a Novil instruction lies in its range (R28, R253, R254, R338, R464, R498, R524).
-/
namespace Sys2Proof
open Sys2Proof.Machine

/-- The resource exists (R28). -/
def resExists : Res → Bool
  | .tt t => t < 16
  | .gpio g => g < 24
  | .dma _ n => n < 16
  | _ => true

/-- The agent exists: a host session is one of 1 to 16 (R29). -/
def agentOk : Agent → Bool
  | .host n => 1 ≤ n && n ≤ 16
  | _ => true

/-- The request comes from a master that the matrix has, with an ID and an address that it can carry (R464, R467). -/
def burstOk (b : Burst) : Bool := b.master < 12 && b.id < 16 && b.addr < 2 ^ 35 && b.engine < 4 && b.others.all (fun m => decide (m < 12))

/-- A command is well-formed. -/
def wellFormed : Instr → Bool
  | .porNRelease _ => true
  | .penCoreTimeout _ => true
  | .penLpTimeout _ => true
  | .penSdsTimeout => true
  | .supplyLoss => true
  | .powerReq n v => n ≤ 16 && v < 2 ^ 64
  | .powerTransitionEnd => true
  | .wakeEvent p _ _ _ => p < 5
  | .thermalTrip sensor => sensor < 12
  | .temperatureSample temps => temps.length == 12
  | .pmbAlert statusWord => statusWord < 2 ^ 16
  | .pmbusReadback _ => true
  | .monitorBlockMargin _ _ => true
  | .monitorWindowEnd => true
  | .mwdtExpiry => true
  | .mwdtKick _ v => v < 2 ^ 32
  | .managementRestartDone _ _ => true
  | .controlWatchdogExpiry _ => true
  | .controlImageLoaded _ => true
  | .sampleTick => true
  | .secondBoundary => true
  | .ppsOutFall => true
  | .tbUsStep => true
  | .tbIncrHiWrite _ v => v < 2 ^ 32
  | .tbStepHiWrite _ v => v < 2 ^ 32
  | .tbCtrlEn _ _ => true
  | .mclkEn _ _ => true
  | .latchingRead _ _ addr => addr < 2 ^ 35
  | .readClear _ _ addr => addr < 2 ^ 35
  | .registerWrite _ _ addr v => addr < 2 ^ 35 && v < 2 ^ 32
  | .ppsInEdge _ _ => true
  | .ppsInTimeout => true
  | .todSet sec ns => sec < 2 ^ 48 && ns < 1000000000
  | .ptpSyncReceive _ _ _ => true
  | .ptpAnnounceReceive => true
  | .announceTimeout => true
  | .ptpSyncSend => true
  | .pdelayReqSend p => p < 5
  | .pdelayExchange p _ _ => p < 5
  | .pdelayTimeout p => p < 5
  | .blockClose _ _ _ => true
  | .historyCommit _ _ _ => true
  | .lawRecordBroadcast _ => true
  | .pairLawUpdate _ t _ => t < 64
  | .lanePairRender _ t _ => t < 64
  | .feedChainBlock _ _ => true
  | .silenceGpioUpdate => true
  | .sealClose _ => true
  | .computeDeadline _ => true
  | .lateCheckReport _ _ => true
  | .heartbeatReceive _ => true
  | .heartbeatLoss _ => true
  | .arbiterDecision copies => copies ≤ 3
  | .sampleRelease _ => true
  | .writeApply => true
  | .layoutSwitch => true
  | .filterSwitch => true
  | .renderBegin => true
  | .renderEnd => true
  | .rateChange v => v < 2 ^ 32
  | .resyncStart _ => true
  | .resyncPhaseAdvance _ => true
  | .sealMatch _ => true
  | .resyncAbort _ => true
  | .promoteApply _ => true
  | .updateApply _ => true
  | .dmlOpen src _ => src.port < 5
  | .dmlDiscover src _ => src.port < 5
  | .discoverReplySend => true
  | .discoverSend => true
  | .peerExpiry => true
  | .dmlRead src _ i => src.port < 5 && i < 256
  | .dmlWrite src _ i => src.port < 5 && i < 256
  | .dmlSubscribe src _ i => src.port < 5 && i < 256
  | .dmlUnsubscribe src _ i => src.port < 5 && i < 256
  | .dmlLock src _ i => src.port < 5 && i < 256
  | .dmlUnlock src _ i => src.port < 5 && i < 256
  | .dmlDomainWrite src _ i => src.port < 5 && i < 256
  | .dmlDomainRead src _ i => src.port < 5 && i < 256
  | .dmlDomainAbort src _ i => src.port < 5 && i < 256
  | .domainTransferTimeout n _ => n ≤ 16
  | .dmlKeepalive src _ i => src.port < 5 && i < 256
  | .dmlJournalRead src _ i => src.port < 5 && i < 256
  | .dmlClose src _ i => src.port < 5 && i < 256
  | .leaseEnd n => n ≤ 16
  | .revertRetry n => n ≤ 16
  | .kickWrite n k v => n ≤ 16 && k ≤ 16 && v < 2 ^ 64
  | .snapshotWrite n k v => n ≤ 16 && k ≤ 16 && v < 2 ^ 64
  | .subscriptionScan _ _ => true
  | .notificationSend n => n ≤ 16
  | .ownerEntryWrite n r v => n ≤ 16 && resExists r && v < 2 ^ 64
  | .ownerClaim _ r id _ => resExists r && id < 256
  | .ownerRelease _ r => resExists r
  | .renderWrite n v _ => n ≤ 16 && v < 2 ^ 64
  | .storeResetWrite n v => n ≤ 16 && v < 2 ^ 64
  | .configStoreSave => true
  | .eventLogFlush => true
  | .eventRateSecond => true
  | .evqPush q w => q < 3 && w < 2 ^ 32
  | .journalSlotRead _ => true
  | .csCommit n k v _ => n ≤ 16 && k < 32 && v < 2 ^ 64
  | .csRebuildDone _ => true
  | .csSwitch => true
  | .csEmpty n k v => n ≤ 16 && k < 32 && v < 2 ^ 64
  | .nvGraphCommit n v _ => n ≤ 16 && v < 2 ^ 64
  | .nvGraphSwitch _ => true
  | .updateWrite n u v _ => n ≤ 16 && u < 2 && v < 2 ^ 64
  | .mgmtActivate n v => n ≤ 16 && v < 2 ^ 64
  | .mgmtConfirm => true
  | .ctrlInstall n v => n ≤ 16 && v < 2 ^ 64
  | .arbClear who v => agentOk who && v < 2 ^ 64
  | .arbHoldAtHiWrite _ v => v < 2 ^ 32
  | .frameReceive p _ _ stages _ => p < 5 && stages ≤ 64
  | .rxrTailWrite p r v => p < 5 && r < 4 && v < 2 ^ 32
  | .txrTailWrite p r v => p < 5 && r < 4 && v < 2 ^ 32
  | .frameTransmit p => p < 5
  | .ringEnWrite p _ r _ => p < 5 && r < 4
  | .ringModerationExpiry p _ r => p < 5 && r < 4
  | .linkChange p _ _ => p < 5
  | .autoNegotiationDone p _ _ _ => p < 5
  | .portConfigWrite n p _ v => n ≤ 16 && p < 5 && v < 2 ^ 64
  | .modAbsFall p => p < 4
  | .sfpIdRead p _ _ => p < 4
  | .sfpDiagPoll p _ => p < 4
  | .modAbsRise p => p < 4
  | .streamPacketReceive p _ stages _ => p < 5 && stages ≤ 64
  | .egressPacketSend i => i < 128
  | .sapReceive p _ => p < 5
  | .sapAnnounce => true
  | .sapSessionExpiry => true
  | .tdmFrame t din => t < 8 && din.all (fun w => decide (w < 2 ^ 32))
  | .tdmStart t => t < 8
  | .tdmStop t => t < 8
  | .rngGo n t v => n ≤ 16 && t < 8 && v < 2 ^ 64
  | .rangingDone t _ => t < 8
  | .rangingNoEcho t => t < 8
  | .triggerArm who t start => agentOk who && t < 16 && start < 2 ^ 64
  | .triggerDisarm who t => agentOk who && t < 16
  | .triggerFire t => t < 16
  | .gpioPulseEnd g => g < 24
  | .gpioConfigWrite who g _ v => agentOk who && g < 24 && v < 2 ^ 64
  | .survGo n v _ => n ≤ 16 && v < 2 ^ 64
  | .surveyStep => true
  | .surveyResultCopy => true
  | .novilJobStart _ e => e < 16
  | .novilTransferComplete _ e => e < 16
  | .nvNop c => c.e < 16 && NvInsn.wf (.control 0 0 0 0)
  | .nvBr c cond target => c.e < 16 && NvInsn.wf (.control 1 cond 0 target)
  | .nvCall c cond target => c.e < 16 && NvInsn.wf (.control 2 cond 0 target)
  | .nvRet c => c.e < 16 && NvInsn.wf (.control 3 0 0 0)
  | .nvLoop c lcs target => c.e < 16 && NvInsn.wf (.control 4 0 lcs target)
  | .nvEnd c => c.e < 16 && NvInsn.wf (.control 5 0 0 0)
  | .nvDmaw c => c.e < 16 && NvInsn.wf (.control 6 0 0 0)
  | .nvAdd c dd da db => c.e < 16 && NvInsn.wf (.alu 0 dd da db)
  | .nvSub c dd da db => c.e < 16 && NvInsn.wf (.alu 1 dd da db)
  | .nvAnd c dd da db => c.e < 16 && NvInsn.wf (.alu 2 dd da db)
  | .nvOr c dd da db => c.e < 16 && NvInsn.wf (.alu 3 dd da db)
  | .nvXor c dd da db => c.e < 16 && NvInsn.wf (.alu 4 dd da db)
  | .nvShl c dd da db => c.e < 16 && NvInsn.wf (.alu 5 dd da db)
  | .nvShr c dd da db => c.e < 16 && NvInsn.wf (.alu 6 dd da db)
  | .nvShrl c dd da db => c.e < 16 && NvInsn.wf (.alu 7 dd da db)
  | .nvMin c dd da db => c.e < 16 && NvInsn.wf (.alu 8 dd da db)
  | .nvMax c dd da db => c.e < 16 && NvInsn.wf (.alu 9 dd da db)
  | .nvAbs c dd da => c.e < 16 && NvInsn.wf (.alu 10 dd da 0)
  | .nvNeg c dd da => c.e < 16 && NvInsn.wf (.alu 11 dd da 0)
  | .nvAdds c dd da db => c.e < 16 && NvInsn.wf (.alu 12 dd da db)
  | .nvSubs c dd da db => c.e < 16 && NvInsn.wf (.alu 13 dd da db)
  | .nvCmp c da db => c.e < 16 && NvInsn.wf (.alu 14 0 da db)
  | .nvMul c dd da db => c.e < 16 && NvInsn.wf (.alu 15 dd da db)
  | .nvLdi c dd v => c.e < 16 && NvInsn.wf (.imm 0 dd v)
  | .nvLdh c dd v => c.e < 16 && NvInsn.wf (.imm 1 dd v)
  | .nvAddi c dd v => c.e < 16 && NvInsn.wf (.imm 2 dd v)
  | .nvCmpi c dd v => c.e < 16 && NvInsn.wf (.imm 3 dd v)
  | .nvShli c dd v => c.e < 16 && NvInsn.wf (.imm 4 dd v)
  | .nvShri c dd v => c.e < 16 && NvInsn.wf (.imm 5 dd v)
  | .nvAndi c dd v => c.e < 16 && NvInsn.wf (.imm 6 dd v)
  | .nvLoad c m d ptr upd => c.e < 16 && NvInsn.wf (.ldst false m d ptr upd)
  | .nvStore c m d ptr upd => c.e < 16 && NvInsn.wf (.ldst true m d ptr upd)
  | .nvMoveToSpecial c d sp => c.e < 16 && NvInsn.wf (.move false d sp)
  | .nvMoveFromSpecial c d sp => c.e < 16 && NvInsn.wf (.move true d sp)
  | .nvSta c aa dd sh rm => c.e < 16 && NvInsn.wf (.acc 0 aa dd sh rm 0)
  | .nvClra c aa => c.e < 16 && NvInsn.wf (.acc 1 aa 0 0 false 0)
  | .nvAdda c aa ab => c.e < 16 && NvInsn.wf (.acc 2 aa 0 0 false ab)
  | .nvSuba c aa ab => c.e < 16 && NvInsn.wf (.acc 3 aa 0 0 false ab)
  | .nvLda c aa dd sh => c.e < 16 && NvInsn.wf (.acc 4 aa dd sh false 0)
  | .nvShra c aa sh rm => c.e < 16 && NvInsn.wf (.acc 5 aa 0 sh rm 0)
  | .nvNega c aa => c.e < 16 && NvInsn.wf (.acc 6 aa 0 0 false 0)
  | .nvDma c ptr => c.e < 16 && NvInsn.wf (.dma ptr)
  | .nvMac c m => c.e < 16 && NvInsn.wf (.mac 0 m)
  | .nvMsu c m => c.e < 16 && NvInsn.wf (.mac 1 m)
  | .nvMpy c m => c.e < 16 && NvInsn.wf (.mac 2 m)
  | .nvMpyn c m => c.e < 16 && NvInsn.wf (.mac 3 m)
  | .burstRequest _ b => burstOk b
  | .peerWindowAccess _ b _ => burstOk b
  | .bridgeTimeout _ => true
  | .bmMrst _ _ mask => mask < 2 ^ 32
  | .masterDrainEnd _ m => m < 12
  | .dmaGo _ _ n => n < 16
  | .dmaAbort _ _ n => n < 16
  | .dmaDescriptorDone _ w => w.ch < 16
  | .fifoDataRead _ _ inst => inst < 2
  | .fifoDropPkt _ _ inst => inst < 2
  | .fifoFlush _ _ inst => inst < 2
  | .scrubPass _ _ => true
  | .sramWakeDone _ => true
  | .refreshDue _ ch _ => ch < 8
  | .postponedRefresh _ ch => ch < 8
  | .periodicTraining _ _ => true
  | .freqReq _ _ v => v < 2 ^ 32
  | .freqChangeDone _ _ => true
  | .srReqEnter _ _ => true
  | .srReqExit _ _ => true
  | .svPush _ _ v => v < 2 ^ 32
  | .svPop _ _ => true
  | .svDone _ _ v => v < 2 ^ 32
  | .delayRelease _ => true
  | .sieveSpill _ => true
  | .sieveReload _ _ => true
  | .icClaim _ => true
  | .icComplete _ _ src => src < 256
  | .icPendWrite _ _ w v => w < 8 && v < 2 ^ 32
  | .icTimecmpHiWrite _ _ v => v < 2 ^ 32
  | .moderationRelease _ g => g < 16
  | .wfiWake _ => true
  | .mirrorResult _ => true
  | .expoIntervalMissed => true
  | .koLinkLost => true
  | .logReq who v => agentOk who && v < 2 ^ 64
  | .logRequestTimeout => true
  | .logPageReceive _ => true
  | .koImgStart _ => true
  | .koImgData _ v => v < 2 ^ 32
  | .koImgEnd _ => true
  | .kaoInstall n v => n ≤ 16 && v < 2 ^ 64
  | .timeWordSend => true
  | .kaolinStart _ => true
  | .kaolinWatchdogExpiry => true
  | .senseReading c _ _ => c < 4
  | .combinerReturn c => c < 4
  | .intervalResult _ => true
  | .suppressionEnd c fam => c < 4 && fam < 3
  | .minuteRecord _ => true
  | .statusFrame => true
  | .rawSample _ _ _ _ => true
  | .timeStrobe _ _ => true
  | .logRequestReceive _ => true
  | .imageBlockReceive _ => true
  | .consoleId => true
  | .consoleKey => true
  | .consoleTime => true
  | .consoleStatus => true
  | .consoleLog _ => true
  | .consoleUnknown => true
  | .porNAssert => true
  | .kaoSupplyLoss => true
  | .kaoUnsealChange _ => true
  | .ingressStreamTimeout i => i < 128
  | .statusFrameReceive _ => true
  | .refreshDerateChange _ _ => true

end Sys2Proof
end

