-- ==== Sys2Proof/Safety.lean ====
section
/-!
DEFINITION. The words that statements about the block use: its byte memories, the invariant of its maps and memories, and what a
command must leave alone.
-/
namespace Sys2Proof.Machine
open Sys2Proof

/-- The memories that the block holds as bytes (R310, R468): management SRAM, and each unit's core SRAM and LP5 memory. -/
inductive MemId where
  | mgmt | core (u : UnitId) | lp5 (u : UnitId)
deriving DecidableEq, Repr

/-- The cells of a memory. -/
def State.cellsOf (s : State) : MemId → List Host.Cell
  | .mgmt => s.sub.mgmtMem
  | .core u => (s.unit u).fab.core
  | .lp5 u => (s.unit u).fab.lp5mem

/-- The byte that a memory holds at an offset. -/
def State.byteOf (s : State) (m : MemId) (a : Nat) : Byte := cellRead (s.cellsOf m) a

/-- Every byte of every memory reads as before. -/
def State.sameBytes (s t : State) : Prop := ∀ m a, t.byteOf m a = s.byteOf m a

/-- Every byte of every memory but one reads as before, and that one outside a range of offsets. -/
def State.sameBytesBut (m : MemId) (lo n : Nat) (s t : State) : Prop :=
  ∀ m' a, (m' = m → a < lo ∨ lo + n ≤ a) → t.byteOf m' a = s.byteOf m' a

/-- Every register that the plain map keeps reads as before, but those listed. -/
def State.sameRegsBut (l : List (Space × Nat)) (s t : State) : Prop :=
  ∀ sp a, a < 2 ^ 32 → (sp, a) ∉ l → t.reg sp a = s.reg sp a

/-- A unit's maps that are read by key keep their keys strictly rising, and its byte memories have their canonical form. -/
def RUnit.canonical (r : RUnit) : Bool :=
  asorted r.fab.dma && asorted r.fab.lp.postponed && asorted r.fab.resv && asorted r.sv.lists && asorted r.nv.eng &&
  asorted r.rd.acc && asorted r.rd.laws && asorted r.rd.pairs && Memory.wf r.fab.core && Memory.wf r.fab.lp5mem

/-- Maps that are read by key keep their keys strictly rising, so that a read finds what the last write put there, every
byte memory has its canonical form, the configuration store and the tag area have two copies each (R434), there are five ports with their rings, eight TDM ports, four island channels, four capture
channels and eight exposure groups (R157, R286, R299, R310, R315, R332, R405), no internal write waits for the end of a message
(R359), and no interrupt controller has source 0 pending, which does not exist (R515). -/
def State.canonical (s : State) : Bool :=
  asorted s.regs && asorted s.latch && asorted s.dict && s.sub.stores.all (fun c => asorted c.vals) && s.sub.stores.length == 2 && s.sub.tags.length == 2 && asorted s.owners && asorted s.gpio &&
  asorted s.trig && asorted s.dam.sessions && asorted s.dam.rebuilds && s.dam.intDue.isEmpty && asorted s.arb.released &&
  s.ports.length == 5 && s.ports.all (fun q => q.rx.length == 4 && q.tx.length == 4) && s.tdm.length == 8 &&
  s.tdm.all (fun q => asorted q.input) && asorted s.st.legs && s.isl.chans.length == 4 && s.kao.misses.length == 8 && s.surv.cap.length == 4 && Memory.wf s.sub.mgmtMem && s.ua.canonical && s.ub.canonical &&
  !s.icM.pend.contains 0 && !s.icA.pend.contains 0 && !s.icB.pend.contains 0

/-- The newest event record has a code. -/
def State.logged (s : State) (code : Nat) : Prop := ∃ r, s.sub.logBuf.getLast? = some r ∧ r.code = code

/-- The log's room and rate allow one more record of a code (R457). -/
def State.mayLog (s : State) (code : Nat) : Bool := decide (agetD s.sub.logRate code 0 < 10) && decide (s.sub.logBuf.length < 1024)

/-- A write of one number entry by session `n` with APPLY passes every test of the front end now, with apply index `a`: the
front end runs and is in the middle of no message, no lease has passed, and the session is open (R349, R355, R368, R372). -/
def State.acceptsWrite (s : State) (n key : Nat) (v : Int) (apply a : Nat) : Bool :=
  s.frontRuns && s.dam.cur.isNone && s.dam.intDue.isEmpty && sessionIds.all (fun k => !s.leaseDue k s.tb.sidx) && decide (n ∈ sessionIds) && (s.sess n).isOpen &&
    decide (s.modeTest n key = .ok) &&
    decide (s.writeTest { sess := n, x := s.tb.sidx, key := key, val := .num v, apply := apply } = (.ok, a))

/-- The items of a priority list, on the chip and spilled, oldest first (R506, R511). -/
def Sieve.items (v : Sieve) (p : Nat) : List SvItem := (v.list p).chip ++ (v.list p).spilled

/-- The memory and the offset that a request addresses: core SRAM or LP5 memory (R465). -/
def burstPlace (u : UnitId) (b : Burst) : MemId × Nat :=
  if busTarget b.addr = 1 then (.core u, b.addr - 0x08000000) else (.lp5 u, b.addr - 0x200000000)

/-- A request that a target accepts and that nothing delays or harms: its master reaches the target and does not drain, its
form is legal, no other request waits or arrives, no ECC error meets it, core SRAM is awake, and LP5 memory takes and permits
the request (R464 to R470, R474, R484, R486, R492, R493, R495). -/
def State.passes (s : State) (u : UnitId) (b : Burst) : Bool :=
  let f := (s.unit u).fab
  let t := busTarget b.addr
  decide (b.master < 12) && busReach b.master t && burstForm b && decide (b.master ∉ f.draining) && f.outstanding.isEmpty &&
    b.others.isEmpty && decide (b.ecc = .none) &&
    ((t == 1 && decide (64 ≤ s.awakeNow u)) ||
      (t == 5 && s.paced u b && f.lp.open && s.regionOk u b.master b.addr (isWriteKind b.kind)))

/-- `n` bytes of a memory from an offset. -/
def State.bytesOf (s : State) (m : MemId) (a n : Nat) : List Byte := (List.range n).map (fun i => s.byteOf m (a + i))

/-! ### Novil engines -/

/-- The engine that an instruction issues on. -/
def State.nvAt (s : State) (c : NvIssue) : Novil := (s.unit c.u).nv.engine c.e

/-- The engine runs job `j` of its unit's graph, no ECC error meets the issue, and the job's code at the program counter
holds instruction `i` (R253, R254, R264). -/
def State.holds (s : State) (c : NvIssue) (i : NvInsn) (j : NvJob) : Bool :=
  let x := s.nvAt c
  decide (c.e < 16) && decide (c.fetch = .none ∧ c.op1 = .none ∧ c.op2 = .none ∧ c.words = []) && decide (x.job = some j.id) &&
    decide ((s.unit c.u).nv.graph.find? (fun k => k.id == j.id) = some j) && decide (x.pc < imgCode (s.image j.image)) &&
    decide ((nvDecode (agetD x.pmem (8192 * x.page + (j.pBase + x.pc) % 8192) 0)).map NvInsn.canon = some i.canon)

/-- The instruction issues: the engine holds it, it fits the job's budget, and the loop buffer permits it (R256, R258,
R270). -/
def State.issues (s : State) (c : NvIssue) (i : NvInsn) (j : NvJob) : Bool :=
  let x := s.nvAt c
  s.holds c i j && decide (x.slots + i.cost x ≤ j.budget) && (i.bufferFault x).isNone

/-- The engine past the fetch of an instruction. -/
def Novil.issued (x : Novil) (i : NvInsn) : Novil := { x with pc := x.pc + 1, slots := x.slots + i.cost x }

/-- The state with the engine as an instruction leaves it, after the loop passes that end there (R257); nothing else
changes. -/
def State.engineNext (s : State) (c : NvIssue) (y : Novil) : State := s.onNv c.u (fun v => v.setEngine c.e y.passes)

/-- Z and N of a flag register are those of a value, and the sticky flags SV and AV are those of another flag register. -/
def flagsOf (fl old : Nat) (r : Int) : Prop :=
  natBit fl 0 = decide (r = 0) ∧ natBit fl 1 = decide (r < 0) ∧ natBit fl 4 = natBit old 4 ∧ natBit fl 5 = natBit old 5

/-- A command is an instruction that writes a value, wrapped to 32 bits, into a data register, with Z and N from it, V where
`v` says so and else V and C free, and changes nothing else. -/
def nvWrites (c : NvIssue) (cmd : Instr) (i : NvInsn) (dd : Nat) (f : Novil → Int) (v : Novil → Option Bool) : Prop :=
  ∀ (s : State) j, s.issues c i j = true → ∃ fl, flagsOf fl (s.nvAt c).fl (wrapS 32 (f (s.nvAt c))) ∧
    (∀ b, v (s.nvAt c) = some b → natBit fl 3 = b) ∧
    exec cmd s = .next (s.engineNext c { (s.nvAt c).issued i with
      d := lset (s.nvAt c).d dd (wrapS 32 (f (s.nvAt c))), fl := fl })

/-- A command is an instruction whose only effect is on the engine, and it completes. -/
def nvMakes (c : NvIssue) (cmd : Instr) (i : NvInsn) (f : Novil → Novil) : Prop :=
  ∀ (s : State) j, s.issues c i j = true → exec cmd s = .next (s.engineNext c (f ((s.nvAt c).issued i)))

/-- The pointers of a MAC instruction's loads lie where its job may read: X's in a declared region, and with YE the other in a
declared region or the parameter page of Y, or with PB in the code (R248, R255). -/
def macReads (rs : List NvRegion) (code : Nat) (x : Novil) (m : MacOp) : Bool :=
  let y := if m.xe then x.bump m.xp else x
  let a := x.p.getD m.xp 0
  let b := y.p.getD m.yp 0
  (!m.xe || (inRegion rs 0 (a % 32768)).isSome) &&
    (!m.ye || (if m.pb then decide (b % 8192 < code)
      else decide (0x7F00 ≤ b % 32768) || (inRegion rs 1 (b % 32768)).isSome))

/-- A command is a MAC instruction of a function code: it completes with every choice of its loads. The accumulator takes the
operation of itself and the exact product, modulo 2^72 with AV; each load waits for the transfers that owe its word, brings the
word and moves its pointer on (R251, R255, R261). -/
def nvMacs (c : NvIssue) (cmd : MacOp → Instr) (fn : Nat) (f : Int → Int → Int) : Prop :=
  ∀ (m : MacOp) (s : State) j, s.issues c (.mac fn m) j = true →
    macReads (imgRegions (s.image j.image)) (imgCode (s.image j.image)) (s.nvAt c) m = true →
    exec (cmd m) s = .next (s.engineNext c (
      let x := (s.nvAt c).issued (.mac fn m)
      let v := f (x.areg m.aa) (x.dreg m.da * x.dreg m.db)
      let a := j.phys 0 (x.p.getD m.xp 0 % 32768)
      let x1 := if m.xe then x.await false a else x
      let x2 := if m.xe then x1.bump m.xp else x1
      let b := j.phys 1 (x2.p.getD m.yp 0 % 32768)
      let x3 := if m.ye && !m.pb then x2.await true b else x2
      let x4 := if m.ye then x3.bump m.yp else x3
      let wx : Nat := agetD x1.x a 0
      let wy : Nat := if m.pb then agetD x.pmem (8192 * x.page + (j.pBase + x2.p.getD m.yp 0 % 8192) % 8192) 0 else agetD x3.y b 0
      let d1 := if m.xe then lset x.d m.xd (wrapS 32 (wx : Int)) else x.d
      { x4 with
        a := lset x.a m.aa (wrapS 72 v)
        fl := if wrapS 72 v = v then x.fl else (x.fl &&& 0xDF) ||| 32
        d := if m.ye then lset d1 (8 + m.yd) (wrapS 32 (wy : Int)) else d1 }))

/-- The job of an engine has stopped (cause 1) or faulted (causes 2 to 7) at a program counter: it has ended in its block, its
engine is free, and the status and count registers show it (R270, R271, R273). -/
def State.jobStopped (s t : State) (c : NvIssue) (j : NvJob) (cause : Nat) : Prop :=
  (t.nvAt c).job = none ∧ (t.nvAt c).xfers = [] ∧ agetD (t.unit c.u).nv.ended j.id 0 = (s.nvAt c).blk + 1 ∧
    natBit (t.reg (.unit c.u) (nvReg c.e 4)) (if cause = 1 then 0 else 1) = true ∧
    (s.reg (.unit c.u) (nvReg c.e 4) % 4 = 0 →
      t.reg (.unit c.u) (nvReg c.e 0x24) = j.id + 256 * cause + 4096 * ((s.nvAt c).pc % 8192)) ∧
    agetD (if cause = 1 then (t.unit c.u).nv.stops else (t.unit c.u).nv.faults) j.id 0 =
      min 0xFFFFFFFF (agetD (if cause = 1 then (s.unit c.u).nv.stops else (s.unit c.u).nv.faults) j.id 0 + 1) ∧
    t.unit c.u.other = s.unit c.u.other ∧ s.sameBytes t

/-! ### Dameel messages -/

/-- The state in which operation `i` of a datagram is handled: before the first, the message before it is finished and this one
begun (R349). -/
def State.atOp (s : State) (src : Peer) (dg : List Byte) (i : Nat) : State :=
  if i = 0 then s.finishMsg.beginMsg src dg else s

/-- Operation `i` of a datagram from `src` is `o`, of the row with an OP code, of a message `c` that has begun and is not
ATOMIC, and its session stands (R349, R355, R359, R370, R439). -/
def State.opRuns (s : State) (src : Peer) (dg : List Byte) (i code : Nat) (c : MsgCtx) (o : WireOp) : Bool :=
  let u := s.atOp src dg i
  s.frontRuns && (i != 0 || (s.finishMsg.frontRuns && startsWith dg code)) && u.frontRuns && u.canonical && decide (u.dam.cur = some c) &&
    decide (c.dg = dg ∧ c.src = src ∧ c.next = i ∧ c.atomic = false ∧ o.op = code ∧ ((opsOf dg).getD [])[i]? = some o) &&
    decide (c.session ∈ sessionIds) && decide (u.opTest c o = .ok)

/-- An operation has been answered with a result: after the last one the reply has left, where its port sends, with the results
of all, before that the message waits for its next operation (R347, R349, R351). -/
def answered (t : State) (c : MsgCtx) (r : OpResult) : Prop :=
  if ((opsOf c.dg).getD []).length ≤ c.next + 1 then
    let m : Reply := ⟨2, c.session, .ok, c.epoch, c.tx, c.seq, c.results ++ [r], c.udp, c.src⟩
    t.dam.cur = none ∧ (t.txOn c.src.port = true → t.out.head? = some (.reply m (m.datagram c.cred)))
  else t.dam.cur = some { c with next := c.next + 1, results := c.results ++ [r] }

/-- The result of an operation that was carried out. -/
def okResult (op : Nat) (body : List Byte) : OpResult := ⟨op, .ok, true, true, false, body⟩

/-- What no operation of Dameel but a write changes: registers but the frame counters of sent replies, byte memories, render
units and the timebase. -/
def State.sameBlock (s t : State) : Prop :=
  s.sameRegsBut (([0, 1, 2, 3, 4] : List Nat).map (fun p => (.shared, portBase p + 0x24))) t ∧ t.ua = s.ua ∧ t.ub = s.ub ∧ t.tb = s.tb ∧ t.sub.mgmtMem = s.sub.mgmtMem

end Sys2Proof.Machine
end

