-- ==== Sys2Proof/Certificates/Slice0/Obligations.lean ====
section
/-!
DEFINITION. The statements for the provers. Each says that a command is answered with a next state, what that state holds,
and what it leaves alone, for every state and operands that meet the hypotheses.
-/
open Sys2Proof Sys2Proof.Machine

/-- A step takes the command at the front of the queue: it is `exec` of that command on the state with the queue's rest, and
on an empty queue the block idles (log entry 15). -/
def Obligations.StepRunsTheFrontCommand : Prop :=
  (∀ (c : Instr) (s : State) (rest : List Instr), s.pending = c :: rest → step s = exec c { s with pending := rest }) ∧
  (∀ s : State, s.pending = [] → step s = .next s)

/-- Every command is answered with a next state, whatever the state, so the block never stops; and a command changes everything but
the queue: after a step the queue is the rest of the queue before it. -/
def Obligations.EveryStepAnswersAndTakesOneCommand : Prop :=
  (∀ s : State, ∃ t, step s = .next t) ∧
  (∀ s t : State, step s = .next t → t.pending = s.pending.tail)


/-- Every step keeps the canonical form of the maps and byte memories. -/
def Obligations.StepKeepsCanonicalForm : Prop :=
  ∀ s t : State, s.canonical = true → step s = .next t → t.canonical = true

/-- The state at reset has the canonical form, no command waits, nothing has been put out, POR_N is low, and the timebase
holds the reset values of its registers: TB_INCR 2 ns, TB_STEP 0, TB_US 0. -/
def Obligations.ResetStateIsCanonicalAndQuiet : Prop :=
  State.reset.canonical = true ∧ State.reset.pending = [] ∧ State.reset.out = [] ∧ State.reset.sub.porN = false ∧
  State.reset.tb.incr = 0x200000000 ∧ State.reset.tb.stepLo = 0 ∧ State.reset.tb.us = 0 ∧
  ∀ m a, State.reset.byteOf m a = 0

/-- The pins and supplies (R440 to R443, R531, R540, R541).
Ends of transitions, trips and wakes (R318, R442 to R444, R452, R474). -/
def Obligations.SupplyResetAndPowerStates : Prop :=
  ((∀ env s, s.sub.porN = false → ∃ t, exec (.porNRelease env) s = .next t ∧ t.sub.porN = true ∧ t.sub.penCore = true ∧
     t.isl = s.isl ∧ t.sub.otpKeyDigest = s.sub.otpKeyDigest ∧
     (env.coreRails = false → t.sub.power = .starting ∧ t.sub.coreUp = false ∧ t.ua = {} ∧ t.ub = {}) ∧
     (env.coreRails = true → s.sub.bootSlot.2 = false → t.sub.recovery = true ∧ t.sub.power = .starting ∧
       t.ua.hl.loaded = false ∧ t.ub.hl.loaded = false) ∧
     (env.coreRails = true → s.sub.bootSlot.2 = true →
       (t.sub.power = .ready ↔ t.ua.hl.loaded = true ∨ t.ub.hl.loaded = true) ∧ t.sub.penSds = true ∧ t.sub.penLp = true ∧ t.sub.vset = 750 ∧ t.sub.vPend = true)) ∧
   (∀ s, ∃ t, exec .porNAssert s = .next t ∧ t.sub.porN = false ∧ t.sub.power = .starting ∧ t.regs = [] ∧ t.dict = [] ∧
     t.ua = {} ∧ t.ub = {} ∧ t.isl = s.isl ∧ t.sub.stores = s.sub.stores ∧ t.sub.tags = s.sub.tags ∧ t.sub.mgmtSlots = s.sub.mgmtSlots ∧
     t.sub.ctrlRegions = s.sub.ctrlRegions ∧ t.sub.logFlash = s.sub.logFlash ∧ t.out = s.out) ∧
   (∀ s, ∃ t, exec .supplyLoss s = .next t ∧ t.sub.power = .off ∧ t.regs = [] ∧ t.dict = [] ∧ t.ua = {} ∧ t.ub = {} ∧
     t.isl = s.isl ∧ t.sub.stores = s.sub.stores ∧ t.sub.tags = s.sub.tags ∧ t.sub.logFlash = s.sub.logFlash ∧ t.out = s.out) ∧
   (∀ env s, s.sub.porN = true → s.sub.penCore = true → s.sub.coreUp = false → ∃ t, exec (.penCoreTimeout env) s = .next t ∧
     (3 ≤ s.sub.penCoreFails + 1 → t = { s with sub := { s.sub with
       penCore := false, penCoreFails := s.sub.penCoreFails + 1, tripN := true } }) ∧
     (s.sub.penCoreFails + 1 < 3 → env.coreRails = false →
       t.sub.penCore = true ∧ t.sub.penCoreFails = s.sub.penCoreFails + 1 ∧ t.sub.power = .starting ∧ t.sub.tripN = false)) ∧
   (∀ u s, s.sub.penLp = true → s.sub.power = .ready → ∃ t, exec (.penLpTimeout u) s = .next t ∧
     (t.unit u).hl.loaded = false ∧ t.unit u.other = s.unit u.other ∧ s.sameBytes t ∧
     (t.sub.power = .ready ↔ (s.unit u.other).hl.loaded = true) ∧ (s.mayLog 0x0021 = true → t.logged 0x0021)) ∧
   (∀ s, s.sub.penSds = true → ∃ t, exec .penSdsTimeout s = .next t ∧ t.sub.sdsFailed = true ∧ t.sub.power = s.sub.power ∧
     t = { s with sub := t.sub } ∧ t.sub.mgmtMem = s.sub.mgmtMem ∧ (s.mayLog 0x0012 = true → t.logged 0x0012))) ∧
  ((∀ s, s.sub.transition = none → s.sub.power = .ready → ∃ t, exec .powerTransitionEnd s = .next t ∧ t = s) ∧
   (∀ s p, s.sub.transition = some p → s.sub.queuedReq = none → s.sub.installDue = false → ∃ t, exec .powerTransitionEnd s = .next t ∧
     t.sub.power = p ∧ t.sub.transition = none ∧ t.sub.queuedReq = none ∧
     (p = .ready → t.ua.fab.awakeTo = 64 ∧ t.ub.fab.awakeTo = 64) ∧ t.regs = s.regs ∧ t.dict = s.dict ∧ s.sameBytes t) ∧
   (∀ s p v, s.sub.transition = some p → s.sub.queuedReq = some v → v = 0 ∨ 3 < v → s.sub.installDue = false → ∃ t,
     exec .powerTransitionEnd s = .next t ∧ t.sub.power = p ∧ t.sub.transition = none) ∧
   (∀ s p g, s.sub.transition = some p → p ≠ .standby → s.sub.queuedReq = none → s.sub.installDue = true →
     s.sub.stagedRegion = some g → s.sub.tripLatched = false → ∃ t, exec .powerTransitionEnd s = .next t ∧
     t.sub.transition = none ∧ t.sub.installDue = false ∧
     (s.sub.ctrlOk g = true → t.sub.power = .ready ∧ t.ua.hl.loaded = true ∧ t.ub.hl.loaded = true ∧
       t.sub.dir.regionA = g ∧ t.sub.dir.regionB = g)) ∧
   (∀ s sensor, s.sub.power ≠ .off → s.sub.power ≠ .standby → s.sub.porN = true → ∃ t, exec (.thermalTrip sensor) s = .next t ∧
     t.sub.power = .idle ∧ t.sub.transition = none ∧ t.sub.queuedReq = none ∧ t.sub.tripN = true ∧ t.sub.tripLatched = true ∧
     t.ua.fab.awakeTo = 0 ∧ t.ub.fab.awakeTo = 0 ∧ natBit (t.reg .shared mbStat) 6 = true ∧ t.tb = s.tb ∧ s.sameBytes t) ∧
   (∀ p f bad env s i, s.sub.power = .standby → p = 0 ∨ p = 4 → baseVal s.sub.aonWake (dkey 0x3000 0xC p) = .num 1 →
     s.lineDrop p f bad = none ∨ (s.lineDrop p f bad = some i ∧ 3 ≤ i) → s.wakeMatch p f ≠ 0 →
     ∃ t, exec (.wakeEvent p f bad env) s = .next t ∧ t.sub.wakeReason = s.wakeMatch p f ∧ t.sub.porN = true ∧
       t.sub.penCore = true ∧ t.isl = s.isl ∧ t.out = s.out))


/-- Temperatures, regulator readbacks and completion margins (R447 to R451, R538).
Watchdogs, restarts and reloaded images (R453, R454, R459, R462). -/
def Obligations.MonitorsWatchdogsAndReloads : Prop :=
  ((∀ temps s, 0 < temps.length → s.dieUp = true → ∃ t, exec (.temperatureSample temps) s = .next t ∧
     t.sub.temps = (temps.take 12).map (satS 16) ∧ t = { s with sub := t.sub } ∧ t.sub.power = s.sub.power ∧
     (0x6400 ≤ t.sub.junction → t.sub.warnOn = true) ∧ (t.sub.junction ≤ 0x6200 → t.sub.warnOn = false) ∧
     (0x6200 < t.sub.junction → t.sub.junction < 0x6400 → t.sub.warnOn = s.sub.warnOn) ∧
     (0x6E00 ≤ t.sub.junction → t.sub.critOn = true) ∧ (t.sub.junction ≤ 0x6C00 → t.sub.critOn = false)) ∧
   (∀ w s, s.mayLog 0x0012 = true → s.frontRuns = true → ∃ t, exec (.pmbAlert w) s = .next t ∧ t.logged 0x0012 ∧ t = { s with sub := t.sub } ∧
     ∀ r, t.sub.logBuf.getLast? = some r → r.data0 = w % 65536) ∧
   (∀ mv s, s.sub.vPend = true → s.frontRuns = true → ∃ t, exec (.pmbusReadback mv) s = .next t ∧ t.sub.vset = s.sub.vset ∧
     (((mv : Int) - s.sub.vset).natAbs ≤ 10 → t = { s with sub := { s.sub with vPend := false, vTries := 0 } }) ∧
     (10 < ((mv : Int) - s.sub.vset).natAbs → s.sub.vTries < 2 →
       t = { s with sub := { s.sub with vTries := s.sub.vTries + 1 }
                    out := .voutCommand (Config.voutWord Config.voutMode s.sub.vset % 65536) :: s.out }) ∧
     (10 < ((mv : Int) - s.sub.vset).natAbs → 2 ≤ s.sub.vTries →
       t.sub.vStopped = true ∧ t.sub.vPend = false ∧ natBit (t.reg .shared mbStat) 7 = true)) ∧
   (∀ u blk margin sec rest s, s.rendering = true → (s.unit u).hl.margins = (blk, margin, sec) :: rest → s.sub.win.count.length = 2 →
     s.sub.winNext.count.length = 2 → ∃ t, exec (.monitorBlockMargin u margin) s = .next t ∧ (t.unit u).hl.margins = rest ∧
     (sec = s.sub.winSec → t.sub.win = s.sub.win.add s.rate u.toNat margin ∧ t.sub.winNext = s.sub.winNext ∧
       t.sub.win.count.getD u.toNat 0 = s.sub.win.count.getD u.toNat 0 + 1) ∧
     (sec ≠ s.sub.winSec → t.sub.win = s.sub.win ∧ t.sub.winNext = s.sub.winNext.add s.rate u.toNat margin) ∧ s.sameBytes t ∧
     (2 ≤ marginClass s.rate margin → natBit (t.reg (.unit u) 0x20090008) 9 = true) ∧
     (2 ≤ marginClass s.rate margin → s.sub.vStopped = false → s.sub.lastRaiseUs = none → s.sub.vset < 850 →
       t.sub.vset = s.sub.vset + 10 ∧ t.sub.vPend = true) ∧
     (marginClass s.rate margin < 2 → t.sub.vset = s.sub.vset ∧ t.sub.logBuf = s.sub.logBuf)) ∧
   (∀ s, s.rendering = true → s.sub.winSec ≠ s.tb.sec → ∃ t, exec .monitorWindowEnd s = .next t ∧ t.sub.win = s.sub.winNext ∧
     t.sub.winNext = {} ∧ t.sub.winSec = s.tb.sec ∧ t.sub.slowLast = s.sub.win.slow ∧ t.ua.hl.ceLast = s.ua.hl.ceNow ∧
     t.ub.hl.ceNow = 0 ∧ s.sameBytes t ∧
     (s.sub.goodWindows < 59 → t.sub.vset = s.sub.vset) ∧
     (59 ≤ s.sub.goodWindows → s.sub.win.good = true → s.sub.junction < 0x6400 → 650 < s.sub.vset → s.sub.vStopped = false →
       t.sub.vset = s.sub.vset - 10)) ∧
   (∀ s, s.rendering = true → s.sub.winSec = s.tb.sec → exec .monitorWindowEnd s = .next s)) ∧
  ((∀ s, s.frontRuns = true → s.reg .shared 0x30050024 * 1000 ≤ (s.tb.us + 2 ^ 48 - s.sub.kickUs) % 2 ^ 48 →
     ∃ t, exec .mwdtExpiry s = .next t ∧ t.sub.restarting = true ∧ t.sub.restartCause = 0 ∧
       t.sub.restarts = min 255 (s.sub.restarts + 1) ∧ t.icM = { pend := t.icM.pend } ∧ t.dam.cur = none ∧ t.sub.vPend = false ∧
       (∀ n, n ∈ t.icM.pend → n < 128 ∧ isLevel .mgmt n = true) ∧
       (natBit (s.reg .shared mbStat) 6 = true → 0x10 ∈ t.icM.pend) ∧
       (∀ u, aget? (t.unit u).fab.resv 11 = none ∨ s.canonical = false) ∧
       t = { s with icM := t.icM, dam := { s.dam with cur := none }, sub := t.sub, ua := t.ua, ub := t.ub } ∧
       (∀ u, t.unit u = { s.unit u with fab := { (s.unit u).fab with resv := (t.unit u).fab.resv } }) ∧
       t.sub.journal = s.sub.journal) ∧
   (∀ s, ∃ t, exec (.mwdtKick .mgmt 0x4B49) s = .next t ∧ t = { s with sub := { s.sub with kickUs := s.tb.us } }) ∧
   (∀ v s, v ≠ 0x4B49 → exec (.mwdtKick .mgmt v) s = .next s) ∧
   (∀ u s, (s.unit u).hl.loaded = true → ∃ t, exec (.controlWatchdogExpiry u) s = .next t ∧ (t.unit u).hl.loaded = false ∧
     (t.unit u).hl.loading = true ∧ t.unit u.other = s.unit u.other ∧ (t.unit u).rd = (s.unit u).rd ∧ s.sameBytes t ∧
     (s.mayLog 0x0021 = true → t.logged 0x0021)) ∧
   (∀ u s, (s.unit u).hl.loading = true → ∃ t, exec (.controlImageLoaded u) s = .next t ∧ (t.unit u).hl.loading = false ∧
     t.unit u.other = s.unit u.other ∧
     ((s.unit u).hl.update ≠ 1 → ∀ g, g = (match u with | .a => s.sub.dir.regionA | .b => s.sub.dir.regionB) →
       (s.sub.ctrlOk g = true → (t.unit u).hl.loaded = true ∧ (t.unit u).hl.need = s.rendering) ∧
       (s.sub.ctrlOk g = false → (t.unit u).hl.loaded = (s.unit u).hl.loaded)) ∧
     ((s.unit u).hl.update = 1 → ((t.unit u).hl.update = 2 ∨ (t.unit u).hl.update = 4))) ∧
   (∀ crcOk pin s, s.sub.restarting = true → s.dieUp = true → ∃ t, exec (.managementRestartDone crcOk pin) s = .next t ∧
     t.sub.restarting = false ∧ t.sub.runSlot = s.sub.bootSlot.1 ∧ t.sub.vStopped = false ∧
     (t.sub.restartCause = if s.sub.dir.trial && s.sub.bootSlot.1 != s.sub.dir.slot then 3 else s.sub.restartCause) ∧
     (s.sub.bootSlot.2 = false → t.sub.recovery = true ∧ t.sub.power = .starting ∧ t.ua = {} ∧ t.ub = {}) ∧
     (s.sub.bootSlot.2 = true → t.sub.recovery = false) ∧
     (crcOk = true → s.sub.bootSlot.2 = true → s.sub.recovery = false →
       t.ua = s.ua ∧ t.ub = s.ub ∧ t.tb = s.tb ∧ t.arb = s.arb ∧ t.sub.journal = s.sub.journal ∧ t.dam.sessions = s.dam.sessions) ∧
     (crcOk = false → s.sub.bootSlot.2 = true → s.sub.recovery = false →
       t.ptp = {} ∧ t.kao.misses = [0, 0, 0, 0, 0, 0, 0, 0] ∧ natBit (t.reg .shared mbStat) 8 = true)))
/-- Host writes of single entries that act at once: power requests, STORE_RESET, port configuration, ranging, log and island
requests (R282, R300, R349, R358, R368, R395, R443, R444, R461). An accepted write answers OK; one that finds a message in
progress acts after that message is finished. -/
def Obligations.AcceptedWritesActAtOnce : Prop :=
  (∀ n v s, s.acceptsWrite n (dkey 0x1100 2 0) v 0 0 = true → ∃ t, exec (.powerReq n v) s = .next t ∧
    t.out.head? = some (.decision n .ok) ∧ s.sameBytes t ∧
    (s.sub.transition.isSome = true → t.sub.queuedReq = some v ∧ t.sub.transition = s.sub.transition) ∧
    (s.sub.transition = none → v = 2 → s.sub.power = .ready → t.sub.transition = some .idle ∧ t.ua.fab.awakeTo = 0) ∧
    (s.sub.transition = none → v = 3 → s.sub.power = .idle → t.sub.transition = some .ready ∧ t.ub.fab.waking = true) ∧
    (s.sub.transition = none → v = 1 → s.sub.power = .ready → t.sub.transition = some .standby ∧ t.sub.storeDirty = false ∧
      t.sub.penLp = false ∧ t.sub.penCore = false)) ∧
  (∀ n s, s.acceptsWrite n (dkey 0x1020 2 0) 1 0 0 = true → ∃ t, exec (.storeResetWrite n 1) s = .next t ∧
    t.out.head? = some (.decision n .ok) ∧ t.sub.storeResetNext = true ∧ t.sub.stores = s.sub.stores ∧ s.sameBytes t) ∧
  (∀ n p fec v s, s.canonical = true → s.acceptsWrite n (dkey 0x3000 (if fec then 2 else 1) p) v 0 0 = true → ∃ t,
    exec (.portConfigWrite n p fec v) s = .next t ∧ t.out.head? = some (.decision n .ok) ∧
    baseVal t.dict (dkey 0x3000 (if fec then 2 else 1) p) = .num v ∧ t.ua = s.ua ∧ t.ub = s.ub) ∧
  (∀ n p s, p < s.tdm.length → s.acceptsWrite n (dkey 0x3C30 1 p) 1 0 0 = true → ∃ t, exec (.rngGo n p 1) s = .next t ∧
    t.out.head? = some (.decision n .ok) ∧ (t.tdmPort p).rng.state = 1 ∧ s.sameBytes t) ∧
  (∀ n v s, s.canonical = true → s.acceptsWrite n (dkey 0xB010 1 0) v 0 0 = true → ∃ t, exec (.logReq (.host n) v) s = .next t ∧
    t.out.head? = some (.decision n .ok) ∧ t.kao.logReq = some s.tb.us ∧ baseVal t.dict (dkey 0xB010 3 0) = .num 1) ∧
  (∀ n s, s.canonical = true → s.acceptsWrite n (dkey 0xB030 2 0) 1 0 0 = true → ∃ t, exec (.kaoInstall n 1) s = .next t ∧
    t.out.head? = some (.decision n .ok) ∧ t.sub.islandStage = [] ∧ baseVal t.dict (dkey 0xB030 3 0) = .num 3) ∧
  (∀ n v s, s.frontRuns = true → s.finishMsg.frontRuns = true → s.finishMsg.dam.cur = none →
    exec (.powerReq n v) s = exec (.powerReq n v) s.finishMsg ∧
    exec (.storeResetWrite n v) s = exec (.storeResetWrite n v) s.finishMsg ∧
    exec (.logReq (.host n) v) s = exec (.logReq (.host n) v) s.finishMsg ∧
    exec (.kaoInstall n v) s = exec (.kaoInstall n v) s.finishMsg ∧
    (∀ p fec, exec (.portConfigWrite n p fec v) s = exec (.portConfigWrite n p fec v) s.finishMsg) ∧
    (∀ p, exec (.rngGo n p v) s = exec (.rngGo n p v) s.finishMsg))

/-- Host writes that enter the journal: RENDER, correction and graph commits, UPDATE and SURV_GO get the next journal number
and the apply index of their test (R20, R193, R234, R266, R290, R358, R384). -/
def Obligations.AcceptedWritesEnterTheJournal : Prop :=
  ∀ (n v apply a : Nat) (s : State) (c : Instr) (key : Nat),
    (c = .renderWrite n v apply ∧ key = dkey 0x1100 3 0) ∨ (∃ k, c = .csCommit n k v apply ∧ key = dkey 0x6200 2 k) ∨
    (c = .nvGraphCommit n v apply ∧ key = dkey 0x8010 2 0) ∨ (∃ u, c = .updateWrite n u v apply ∧ key = dkey 0x9030 2 u) ∨
    (c = .survGo n v apply ∧ key = dkey 0xA020 4 0) → s.acceptsWrite n key v apply a = true →
    ∃ t j, exec c s = .next t ∧ t.out.head? = some (.decision n .ok) ∧ t.sub.journal.getLast? = some j ∧
      j.jseq = s.sub.jseq ∧ t.sub.jseq = s.sub.jseq + 1 ∧ j.apply = a ∧ j.session = n ∧ j.key = key ∧ j.val = .num v ∧
      t.tb = s.tb ∧ s.sameBytes t

/-- Host writes of the administrator: slots emptied, images activated and installed, sessions kicked, snapshots (R194, R372,
R375, R458, R459).
Owned resources: owner entries, owner words, triggers and balls (R32, R33, R34, R36, R67, R390). -/
def Obligations.AdministratorAndOwnerWrites : Prop :=
  ((∀ n k s, s.canonical = true → s.acceptsWrite n (dkey 0x6200 3 k) 1 0 (32 * (s.tb.sidx / 32 + 1)) = true → ∃ t,
     exec (.csEmpty n k 1) s = .next t ∧ t.out.head? = some (.decision n .ok) ∧ baseVal t.dict (dkey 0x6200 4 k) = .num 0) ∧
   (∀ n s, s.acceptsWrite n (dkey 0xD100 5 0) 1 0 0 = true → ∃ t, exec (.mgmtActivate n 1) s = .next t ∧
     t.out.head? = some (.decision n .ok) ∧ t.sub.restarting = true ∧ t.sub.dir.slot = 1 - s.sub.runSlot ∧
     t.sub.dir.trial = true ∧ t.sub.restartCause = 1 ∧
     (∀ u, (t.unit u).hl = (s.unit u).hl ∧ (t.unit u).rd = (s.unit u).rd ∧ (t.unit u).nv = (s.unit u).nv)) ∧
   (∀ n g s, s.sub.stagedRegion = some g → s.sub.transition.isSome = true → s.acceptsWrite n (dkey 0xD100 7 0) 1 0 0 = true → ∃ t,
     exec (.ctrlInstall n 1) s = .next t ∧ t.out.head? = some (.decision n .ok) ∧ t.sub.installDue = true ∧
     t.sub.transition = s.sub.transition) ∧
   (∀ n g s, s.sub.stagedRegion = some g → s.sub.transition = none → s.sub.tripLatched = false → s.acceptsWrite n (dkey 0xD100 7 0) 1 0 0 = true → ∃ t,
     exec (.ctrlInstall n 1) s = .next t ∧ t.out.head? = some (.decision n .ok) ∧
     (s.sub.ctrlOk g = true → t.sub.power = .ready ∧ t.ua.hl.loaded = true ∧ t.ub.hl.loaded = true ∧
       t.sub.dir.regionA = g ∧ t.sub.dir.regionB = g) ∧
     (s.sub.ctrlOk g = false → t.sub.power = .starting ∧ t.ua.hl.loaded = false ∧ t.ub.hl.loaded = false ∧ t.sub.dir = s.sub.dir)) ∧
   (∀ n k s, s.canonical = true → s.acceptsWrite n (dkey 0xC100 8 k) 1 0 0 = true → ∃ t, exec (.kickWrite n k 1) s = .next t ∧
     t.out.head? = some (.decision n .ok) ∧ (t.sess k).isOpen = false) ∧
   (∀ n k s, s.acceptsWrite n (dkey 0xC200 6 k) 1 0 0 = true → ∃ t, exec (.snapshotWrite n k 1) s = .next t ∧
     t.out.head? = some (.decision n .ok) ∧
     ∃ vals, t.sub.snapshots = aputD s.sub.snapshots k vals [] ∧
       ∀ key ∈ s.snapKeys k, aget? vals key = some (valueAt s.dict s.fePend key s.tb.sidx))) ∧
  ((∀ n r v s, s.canonical = true → resExists r = true → s.acceptsWrite n (ownerKey r) v 0 0 = true → ∃ t,
     exec (.ownerEntryWrite n r v) s = .next t ∧ t.out.head? = some (.decision n .ok) ∧ (t.own r).owner = v ∧ s.sameBytes t) ∧
   (∀ n k start s, s.canonical = true → s.acceptsWrite n (dkey 0x2100 4 k) start 0 0 = true → ∃ t,
     exec (.triggerArm (.host n) k start) s = .next t ∧ t.out.head? = some (.decision n .ok) ∧ (t.tt k).state = .armed ∧
     (t.tt k).start = start ∧ (t.tt k).fired = 0) ∧
   (∀ n k s, s.canonical = true → s.acceptsWrite n (dkey 0x2100 0xA k) 1 0 0 = true → s.tb.sidx < (s.tt k).nextIdx →
     (s.tt k).state = .armed → ∃ t, exec (.triggerDisarm (.host n) k) s = .next t ∧ t.out.head? = some (.decision n .ok) ∧
     (t.tt k).state = .idle) ∧
   (∀ n g v s, s.canonical = true → s.acceptsWrite n (dkey 0x3800 4 g) v 0 0 = true → ∃ t,
     exec (.gpioConfigWrite (.host n) g .out v) s = .next t ∧ t.out.head? = some (.decision n .ok) ∧ (t.ball g).out = (v == 1)))

/-- Ticks and steps of the timebase (R40, R44, R49 to R51, R53, R486, R504, R505). The increment lies in the range of R41. -/
def Obligations.TimebaseTicks : Prop :=
  (∀ s, s.tbRuns = true → ∃ t, exec .sampleTick s = .next t ∧ t.tb.sidx = (s.tb.sidx + 1) % 2 ^ 64 ∧
    t.tb.mclkRun = s.tb.mclkEn ∧ t.tb.incr = s.tb.incr ∧ (s.rendering = false → t.tb.offset = s.tb.offset) ∧
    (s.rendering = true → t.tb.offset = slewed s.tb s.rate) ∧ s.sameBytes t ∧
    t = { s with tb := t.tb, out := t.out, ua := t.ua, ub := t.ub, icM := t.icM, icA := t.icA, icB := t.icB } ∧
    t.ua = { s.ua with fab := { s.ua.fab with bucket := t.ua.fab.bucket } } ∧
    t.ub = { s.ub with fab := { s.ub.fab with bucket := t.ub.fab.bucket } }) ∧
  (∀ s, s.tbRuns = true → 0 < s.tb.incr → s.rendering = false → s.tb.frac < nsUnit → s.tb.ns < 1000000000 →
    s.tb.now + (s.tb.ticksTo (tickTime s.rate s.tb.offset s.nextIdx)) * s.tb.incr < 2 ^ 48 * secUnit →
    ∃ t, exec .sampleTick s = .next t ∧ tickTime s.rate s.tb.offset s.nextIdx ≤ (t.tb.now : Int)) ∧
  (∀ s, s.tbRuns = true → 0x1FF7CED92 ≤ s.tb.incr → s.tb.incr ≤ 0x20083126E → s.tb.ns < 1000000000 → s.tb.frac < nsUnit →
    ¬ s.ticksToSample < s.tb.ticksToSecond → ∃ t, exec .secondBoundary s = .next t ∧
      t.tb.sec = (s.tb.sec + 1) % 2 ^ 48 ∧ t.tb.ns * nsUnit + t.tb.frac < s.tb.incr ∧ t.tb.pps = true ∧ t.tb.sidx = s.tb.sidx) ∧
  (∀ s, s.tbRuns = true → 0x1FF7CED92 ≤ s.tb.incr → s.tb.incr ≤ 0x20083126E → s.tb.pps = true →
    s.tb.now % secUnit + s.tb.ppsLeft + s.tb.incr ≤ secUnit → s.tb.ns < 1000000000 → s.tb.frac < nsUnit → s.tb.sec < 2 ^ 48 →
    ¬ s.ticksToSample < (s.tb.ppsLeft + s.tb.incr - 1) / s.tb.incr →
    ∃ t, exec .ppsOutFall s = .next t ∧ t.tb.pps = false ∧ t.tb.ppsLeft = 0 ∧ t.tb.sec = s.tb.sec ∧ t.tb.sidx = s.tb.sidx) ∧
  (∀ s, s.tbRuns = true → 0x1FF7CED92 ≤ s.tb.incr → s.tb.incr ≤ 0x20083126E → s.tb.usAcc < 1000 * nsUnit →
    ∃ t, exec .tbUsStep s = .next t ∧ t.tb.us = (s.tb.us + 1) % 2 ^ 48 ∧ t.tb.usAcc < s.tb.incr ∧
      ((s.ic .mgmt).timecmp ≤ t.tb.us → 0x19 ∉ (s.ic .mgmt).insvc → 0x19 ∈ (t.ic .mgmt).pend))

/-- Register writes that steer the timebase (R41, R42, R50, R53, R525).
Writes of the timebase's registers by a master other
than the management core receive an error response and change nothing else (R462, R525). -/
def Obligations.TimebaseRegisterWrites : Prop :=
  ((∀ v s, 0x1FF7CED92 ≤ v % 256 * 2 ^ 32 + s.tb.incrLo → v % 256 * 2 ^ 32 + s.tb.incrLo ≤ 0x20083126E →
     ∃ t, exec (.tbIncrHiWrite .mgmt v) s = .next t ∧ t.tb.incr = v % 256 * 2 ^ 32 + s.tb.incrLo ∧ t.tb.sidx = s.tb.sidx ∧
       t.regs = s.regs ∧ s.sameBytes t) ∧
   (∀ v s, v % 256 * 2 ^ 32 + s.tb.incrLo < 0x1FF7CED92 ∨ 0x20083126E < v % 256 * 2 ^ 32 + s.tb.incrLo →
     ∃ t, exec (.tbIncrHiWrite .mgmt v) s = .next t ∧ t.tb = s.tb ∧ natBit (t.reg .shared tbStat) 0 = true ∧ s.sameBytes t) ∧
   (∀ v s ns, ns = toSigned 64 (v % 2 ^ 32 * 2 ^ 32 + s.tb.stepLo) →
     0 ≤ (s.nextTick.tb.sec : Int) * 1000000000 + s.nextTick.tb.ns + ns → s.rendering = false →
     ((s.nextTick.tb.now : Int) + ns * nsUnit).toNat < 2 ^ 48 * secUnit →
     ∃ t, exec (.tbStepHiWrite .mgmt v) s = .next t ∧ t.tb.stepLo = 0 ∧
       (t.tb.now : Int) = s.nextTick.tb.now + ns * nsUnit ∧ t.tb.offset = 0 ∧ t.tb.sidx = t.tb.now * s.rate / secUnit % 2 ^ 64 ∧ s.sameBytes t) ∧
   (∀ v s ns, ns = toSigned 64 (v % 2 ^ 32 * 2 ^ 32 + s.tb.stepLo) →
     (s.nextTick.tb.sec : Int) * 1000000000 + s.nextTick.tb.ns + ns < 0 →
     ∃ t, exec (.tbStepHiWrite .mgmt v) s = .next t ∧ t.tb.stepLo = 0 ∧ natBit (t.reg .shared tbStat) 1 = true ∧
       t.tb.sidx = s.tb.sidx ∧ s.sameBytes t) ∧
   (∀ v s, v = true ∨ s.rendering = false → exec (.tbCtrlEn .mgmt v) s = .next { s with tb := { s.tb with en := v } }) ∧
   (∀ s, s.rendering = true → ∃ t, exec (.tbCtrlEn .mgmt false) s = .next t ∧ t.tb = s.tb ∧ natBit (t.reg .shared tbStat) 3 = true) ∧
   (∀ v s, ∃ t, exec (.mclkEn .mgmt v) s = .next t ∧ t = { s with tb := t.tb } ∧ t.tb.mclkEn = v ∧ (v = false → t.tb.mclkRun = false) ∧
     t.tb.sidx = s.tb.sidx ∧ t.tb.now = s.tb.now)) ∧
  (∀ c v b s, c ≠ Core.mgmt →
     exec (.tbIncrHiWrite c v) s = .next (s.regFail c .shared 0x3000000C 5 true) ∧
     exec (.tbStepHiWrite c v) s = .next (s.regFail c .shared 0x30000014 5 true) ∧
     exec (.tbCtrlEn c b) s = .next (s.regFail c .shared 0x30000000 5 true) ∧
     exec (.mclkEn c b) s = .next (s.regFail c .shared 0x30000044 5 true) ∧
     exec (.mwdtKick c v) s = .next (s.regFail c .shared 0x30050020 5 true))


/-- PPS_IN, the time of day and PTP: reference events, roles and the lock state (R45 to R47, R70). -/
def Obligations.PtpEventsMoveTheLockState : Prop :=
  (∀ incr stepNs s, s.tbRuns = true → s.feN 0x2010 1 0 ≠ 1 → ∃ t, exec (.ppsInEdge incr stepNs) s = .next t ∧
    natBit (t.reg .shared tbStat) 2 = true ∧ t.tb.ppsInNs = (s.tbAdvance 1).tb.ns ∧ t.ptp = s.ptp ∧ s.sameBytes t) ∧
  (∀ s, s.tbRuns = true → s.feN 0x2010 1 0 = 1 → s.ptp.lock = .acquiring → s.ptp.goodRun = 15 → s.ptp.tod = none →
    (secondOffset (s.tbAdvance 1).tb).natAbs ≤ 1000 * nsUnit →
    ∃ t, exec (.ppsInEdge none none) s = .next t ∧ t.ptp.lock = .locked ∧ natBit (t.reg .shared tbStat) 2 = true) ∧
  (∀ s, s.feN 0x2010 1 0 = 1 → s.ptp.lock = .acquiring ∨ s.ptp.lock = .locked → ∃ t, exec .ppsInTimeout s = .next t ∧
    t.ptp.lock = .holdover ∧ t = { s with ptp := t.ptp }) ∧
  (∀ sec ns s, sec < 2 ^ 48 → ns < 1000000000 → exec (.todSet sec ns) s = .next { s with ptp := { s.ptp with tod := some (sec, ns) } }) ∧
  (∀ sec ns s, 1000000000 ≤ ns → exec (.todSet sec ns) s = .next s) ∧
  (∀ offset incr stepNs s, s.ptp.lock = .holdover → exec (.ptpSyncReceive offset incr stepNs) s = .next s) ∧
  (∀ offset s, s.feN 0x2010 1 0 = 0 → s.tbRuns = true → s.ptp.lock ≠ .holdover → s.rxOn s.ptpPort = true →
    ∃ t, exec (.ptpSyncReceive offset none none) s = .next t ∧ t.ptp.offset = offset ∧ t.tb = s.tb ∧
    (s.ptp.lock = .locked → 1000 * 2 ^ 16 < offset.natAbs → 3 ≤ s.ptp.badRun → t.ptp.lock = .acquiring) ∧
    (s.ptp.lock = .acquiring → offset.natAbs ≤ 1000 * 2 ^ 16 → s.ptp.goodRun = 15 → t.ptp.lock = .locked) ∧
    t = { s with ptp := t.ptp }) ∧
  (∀ s, s.feN 0x2010 1 0 = 0 → s.rxOn s.ptpPort = true → ∃ t, exec .ptpAnnounceReceive s = .next t ∧ t.ptp.leader = some (s.freeNat % 2 ^ 64) ∧
    (s.ptp.lock = .holdover → t.ptp.lock = .acquiring) ∧ (s.ptp.lock ≠ .holdover → t.ptp.lock = s.ptp.lock) ∧
    t = { s with ptp := t.ptp, draws := t.draws }) ∧
  (∀ s, s.feN 0x2010 1 0 = 0 → ∃ t, exec .announceTimeout s = .next t ∧ t = { s with ptp := t.ptp } ∧
    (s.ptp.onBackup = false → s.feN 0x2010 5 0 ≠ 255 → t.ptp.onBackup = true ∧ t.ptp.lock = s.ptp.lock) ∧
    (s.ptp.onBackup = true → s.ptp.lock ≠ .freerun → t.ptp.lock = .holdover ∧ t.ptp.onBackup = false)) ∧
  (∀ s, s.feN 0x2010 1 0 = 1 → s.tbRuns = true → s.txOn (s.feN 0x2010 4 0) = true → ∃ t, exec .ptpSyncSend s = .next t ∧
    t.ptp.syncSeq = (s.ptp.syncSeq + 1) % 65536 ∧
    t.out = .ptpSync (s.feN 0x2010 4 0) s.ptp.syncSeq (s.txStamp (s.feN 0x2010 4 0)).1 (s.txStamp (s.feN 0x2010 4 0)).2 :: s.out ∧
    t = { s with ptp := t.ptp, out := t.out, regs := t.regs } ∧
    s.sameRegsBut [(.shared, portBase (s.feN 0x2010 4 0) + 0x24)] t)
/-- Registers: reads return the present value, latch companions and clear read-clear registers; plain writes follow the
access types; accesses that decode to no register receive an error response, which the matrix records, and change nothing else (R9 to R11, R43, R482, R525). So does a write to a Sieve by any other master than the unit's control core (R507). Every access that decodes, by a master that the
rules admit, completes. -/
def Obligations.RegisterAccesses : Prop :=
  (∀ c sp addr v s, addr % 4 ≠ 0 ∨ regDecodes (.core c) sp addr = false →
    let k := if addr % 4 = 0 then 1 else 3
    exec (.latchingRead c sp addr) s = .next (s.regFail c sp addr k false) ∧
    exec (.readClear c sp addr) s = .next (s.regFail c sp addr k false) ∧
    exec (.registerWrite c sp addr v) s = .next (s.regFail c sp addr k true)) ∧
  (∀ (c : Core) (sp : Space) (addr k : Nat) (wr : Bool) (s : State), ∃ t, s.regFail c sp addr k wr = t ∧ t.out = .regError c addr :: s.out ∧ s.sameBytes t ∧ t.dict = s.dict ∧
    (c = .mgmt → sp = .shared → t = s.emit (.regError c addr)) ∧
    (∀ u, c.unit = some u → sp ≠ .unit u.other → (t.unit u).fab.errFifo =
      (s.unit u).fab.errFifo.push 64 (errWords k (regTarget addr) 0 0 addr wr) true ∧ natBit (t.reg (.unit u) 0x20060004) 0 = true ∧
      t.unit u.other = s.unit u.other) ∧
    (∀ u, c.unit = some u → sp = .unit u.other → (t.unit u).fab.errFifo =
      (s.unit u).fab.errFifo.push 64 (errWords 2 6 0 0 (0x400000000 + addr) wr) true ∧ t.unit u.other = s.unit u.other) ∧
    (∀ u, c = .mgmt → sp = .unit u → (t.unit u).fab.errFifo =
      (s.unit u).fab.errFifo.push 64 (errWords k (regTarget addr) 11 0 addr wr) true ∧ t.unit u.other = s.unit u.other)) ∧
  (∀ c s, s.canonical = true → ∃ t, exec (.latchingRead c .shared 0x30000018) s = .next t ∧
    t.out.head? = some (.regValue c 0x30000018 (s.regVal .shared 0x30000018)) ∧
    (∀ a ∈ [0x3000001C, 0x30000020, 0x30000024], t.latched (.core c) .shared a = s.regVal .shared a) ∧
    t = { s with latch := t.latch, out := t.out }) ∧
  (∀ c s a, a = 0x3000001C ∨ a = 0x30000020 ∨ a = 0x30000024 → ∃ t, exec (.latchingRead c .shared a) s = .next t ∧
    t.out.head? = some (.regValue c a (s.latched (.core c) .shared a)) ∧ t = { s with out := t.out }) ∧
  (∀ u s a, s.canonical = true → a = 0x20000010 ∨ a = 0x20000014 ∨ a = 0x20021010 ∨ a = 0x20021014 ∨ a = 0x20021018 → ∃ t,
    exec (.readClear u.core (.unit u) a) s = .next t ∧ t.out.head? = some (.regValue u.core a (s.reg (.unit u) a)) ∧
    (s.reg (.unit u) a < 2 ^ 32 → t.reg (.unit u) a = 0) ∧ t = { s with regs := t.regs, out := t.out } ∧
    ∀ sp b, regKey sp b ≠ regKey (.unit u) a → t.reg sp b = s.reg sp b) ∧
  (∀ u v s, s.canonical = true → ∃ t, exec (.registerWrite u.core (.unit u) 0x20000004 v) s = .next t ∧ t = { s with regs := t.regs } ∧
    (∀ i, i < 32 → natBit (t.reg (.unit u) 0x20000004) i = (natBit (s.reg (.unit u) 0x20000004) i && !(natBit v i && decide (i < 6)))) ∧
    ∀ sp b, regKey sp b ≠ regKey (.unit u) 0x20000004 → t.reg sp b = s.reg sp b) ∧
  (∀ u v s, s.canonical = true → s.reg (.unit u) 0x20000000 < 4 → ∃ t, exec (.registerWrite u.core (.unit u) 0x20000000 v) s = .next t ∧
    t = { s with regs := t.regs } ∧ t.reg (.unit u) 0x20000000 = v % 4 ∧
    ∀ sp b, regKey sp b ≠ regKey (.unit u) 0x20000000 → t.reg sp b = s.reg sp b) ∧
  (∀ c u o v s, c ≠ u.core → o < 0x10000 →
    ∃ k, exec (.registerWrite c (.unit u) (0x20040000 + o) v) s = .next (s.regFail c (.unit u) (0x20040000 + o) k true)) ∧
  (∀ c sp addr s, regDecodes (.core c) sp addr = true → addr / 0x10000 ≠ 0x0200 →
    addr ∉ [0x20050444, 0x20040030, 0x20060030, 0x20070030] → ∃ t, exec (.latchingRead c sp addr) s = .next t ∧
    exec (.readClear c sp addr) s = .next t ∧
    t.out.head? = some (.regValue c addr (if isCompanion addr then s.latched (.core c) sp addr else s.regVal sp addr)) ∧
    (∀ a ∈ companions addr, asorted s.latch = true → t.latched (.core c) sp a = s.regVal sp a) ∧ s.sameBytes t ∧
    t.sub = s.sub ∧ t.tb = s.tb ∧ t.arb = s.arb ∧
    (∀ r, s.canonical = true → regFind addr = some r → r.rc ≠ 0 → ¬ (0x30010000 ≤ addr ∧ addr < 0x30020000) →
      addr ∉ [0x2004004C, 0x20060028, 0x20070028, 0x30020018] → t.reg sp addr = s.reg sp addr &&& (0xFFFFFFFF ^^^ r.rc)) ∧
    (s.canonical = true → ∀ sp' b, regKey sp' b ≠ regKey sp addr → t.reg sp' b = s.reg sp' b)) ∧
  (∀ c sp addr s, regDecodes (.core c) sp addr = true → (addr = 0x20040030 → ∃ u, sp = .unit u ∧ c = u.core) → ∃ t v w,
    s.readReg (.core c) sp addr = some (v, w) ∧ t = w.emit (.regValue c addr v) ∧ exec (.latchingRead c sp addr) s = .next t ∧
    exec (.readClear c sp addr) s = .next t) ∧
  (∀ c sp addr v s, regDecodes (.core c) sp addr = true →
    (∀ u, sp = .unit u → addr / 0x10000 = 0x2004 ∨ addr / 0x10000 = 0x2005 → c = u.core) →
    (sp = .shared → addr / 0x10000 = 0x3000 ∨ addr / 0x10000 = 0x3003 ∨ addr / 0x10000 = 0x3006 → c = .mgmt) →
    (sp = .shared → addr / 0x10000 = 0x3005 → c = .mgmt ∨ (0x30050060 ≤ addr ∧ addr < 0x3005006C) ∨ 0x30050100 ≤ addr) →
    ∃ t, s.writeReg (.core c) sp addr v = some t ∧ exec (.registerWrite c sp addr v) s = .next t) ∧
  (∀ c sp addr v s r, s.canonical = true → regDecodes (.core c) sp addr = true → regFind addr = some r →
    ((∃ u, sp = .unit u) ∧ 0x20000000 ≤ addr ∧ addr < 0x20040000) ∨ (sp = .shared ∧ 0x30020000 ≤ addr ∧ addr < 0x30030000 ∧ addr ≠ 0x30020028) ∨
      (sp = .shared ∧ 0x30040000 ≤ addr ∧ addr < 0x30050000 ∧ addr ≠ 0x30040800) →
    ∃ t, exec (.registerWrite c sp addr v) s = .next t ∧ t = { s with regs := t.regs } ∧
      (∀ i, i < 32 → natBit (t.reg sp addr) i =
        ((if natBit r.rw i then natBit v i else natBit (s.reg sp addr) i) && !(natBit v i && natBit r.w1c i))) ∧
      ∀ sp' b, regKey sp' b ≠ regKey sp addr → t.reg sp' b = s.reg sp' b)

/-- R517: which sources are deliverable, what a read of IC_CLAIM returns and does, and what a write of IC_COMPLETE does. -/
def Obligations.ClaimReturnsTheHighestDeliverableSource : Prop :=
  (∀ (i : IntCtl) src, i.deliverable src = true ↔
    src ∈ i.pend ∧ natBit (agetD i.enable (src / 32) 0) (src % 32) = true ∧ i.threshold < agetD i.srccfg src 0 % 16 ∧
      src ∉ i.insvc ∧ ∀ g, i.modGroup src = some g → (agetD i.groups g {}).released = true) ∧
  (∀ c s, s.canonical = true → (∀ src, (s.ic c).deliverable src = false) →
    exec (.icClaim c) s = .next (s.emit (.regValue c (icBase c + 0x444) 0))) ∧
  (∀ c s src, s.canonical = true → (s.ic c).deliverable src = true →
    (∀ p, (s.ic c).deliverable p = true → agetD (s.ic c).srccfg p 0 % 16 < agetD (s.ic c).srccfg src 0 % 16 ∨
      (agetD (s.ic c).srccfg p 0 % 16 = agetD (s.ic c).srccfg src 0 % 16 ∧ src ≤ p)) →
    ∃ t, exec (.icClaim c) s = .next t ∧ t.out = .regValue c (icBase c + 0x444) src :: s.out ∧ src ∉ (t.ic c).pend ∧
      src ∈ (t.ic c).insvc ∧ (∀ p, p ≠ src → (p ∈ (t.ic c).pend ↔ p ∈ (s.ic c).pend) ∧ (p ∈ (t.ic c).insvc ↔ p ∈ (s.ic c).insvc)) ∧
      (t.ic c).deliverable src = false) ∧
  (∀ c s src, src % 256 ∈ (s.ic c).insvc → ∃ t, exec (.icComplete c c src) s = .next t ∧ src % 256 ∉ (t.ic c).insvc ∧
    (t.ic c).badComplete = (s.ic c).badComplete) ∧
  (∀ c s src, src % 256 ∉ (s.ic c).insvc →
    exec (.icComplete c c src) s = .next (s.setIc c { s.ic c with badComplete := true })) ∧
  (∀ (i : IntCtl) src, agetD i.srccfg src 0 % 16 = 0 → i.deliverable src = false)

/-- Pending bits, completion of level sources, the machine timer, moderation and WFI, and the control core's CSRs (R504, R515, R518,
R520, R522, R523). -/
def Obligations.InterruptControllerCommands : Prop :=
  (∀ c s src, src % 256 ∈ (s.ic c).insvc → isLevel c (src % 256) = true → (s.setIc c { s.ic c with
      insvc := setDel (s.ic c).insvc (src % 256) }).asserted c (src % 256) = true →
    ∃ t, exec (.icComplete c c src) s = .next t ∧ src % 256 ∈ (t.ic c).pend ∧ src % 256 ∉ (t.ic c).insvc ∧ t.regs = s.regs) ∧
  (∀ c s v k, 0 < k → k < 16 → natBit v k = true → ∃ t, exec (.icPendWrite c c 0 v) s = .next t ∧ k ∈ (t.ic c).pend ∧
    (∀ p ∈ (s.ic c).pend, p ∈ (t.ic c).pend) ∧ (∀ p ∈ (t.ic c).pend, p ∈ (s.ic c).pend ∨ (0 < p ∧ p < 16 ∧ natBit v p = true))) ∧
  (∀ c s w v, 0 < w → exec (.icPendWrite c c w v) s = .next s) ∧
  (∀ c s v, ∃ t, exec (.icTimecmpHiWrite c c v) s = .next t ∧ (t.ic c).timecmp = v % 65536 * 2 ^ 32 + (s.ic c).timecmpLo ∧
    ((t.ic c).timecmp ≤ s.tb.us → 0x19 ∉ (s.ic c).insvc → 0x19 ∈ (t.ic c).pend) ∧
    (s.tb.us < (t.ic c).timecmp → (t.ic c).pend = (s.ic c).pend)) ∧
  (∀ c s g since, (agetD (s.ic c).groups g {}).since = some since →
    natBits (agetD (s.ic c).groups g {}).cfg 0 8 ≤ (s.tb.us + 2 ^ 48 - since) % 2 ^ 48 →
    ∃ t, exec (.moderationRelease c g) s = .next t ∧ (agetD (t.ic c).groups g {}).released = true ∧
      (t.ic c).pend = (s.ic c).pend ∧ ∀ p, (s.ic c).deliverable p = true → (t.ic c).deliverable p = true) ∧
  (∀ c s, (s.ic c).claimed ≠ 0 → exec (.wfiWake c) s = .next (s.emit (.coreWake c))) ∧
  (∀ c s, (s.ic c).claimed = 0 → exec (.wfiWake c) s = .next s) ∧
  (∀ a c s v, a ≠ c → exec (.icComplete a c v) s = .next (s.icRefuse a c 0x448) ∧
    exec (.icPendWrite a c 0 v) s = .next (s.icRefuse a c 0x400) ∧
    exec (.icTimecmpHiWrite a c v) s = .next (s.icRefuse a c 0x4C4)) ∧
  (∀ (u : UnitId) (s : State), s.csr u 0x7C0 = some u.toNat ∧ s.csr u 0xC01 = some s.tb.us ∧
    ∀ n, 32 * (n + s.latency) ≤ s.tb.sidx + 32 → s.tb.sidx < 32 * (n + s.latency) → s.csr u 0x7C1 = some n)

/-- The masters that R29 and R30 let use an owner ID, and the owner words of R32 and R33, for every master, resource and ID: a claim
or a release is accepted or refused, a refusal leaves OWNER and is shown, and no other owner word changes. CLAIM_ID is eight bits
wide, and a resource that does not exist has no owner word. -/
def Obligations.OwnerWordsFollowClaimsAndReleases : Prop :=
  (∀ c r id s, s.canonical = true → resValid r = true → id % 256 ≠ 0 →
    idOfMaster c (id % 256) = true → idOfRes r (id % 256) = true → (s.own r).owner = 0 ∨ (s.own r).owner = id % 256 →
    ∃ t, exec (.ownerClaim c r id false) s = .next t ∧ t.own r = ⟨id % 256, false⟩ ∧ t = { s with owners := t.owners } ∧
      ∀ r', resKey r' ≠ resKey r → t.own r' = s.own r') ∧
  (∀ c r id s, s.canonical = true → resValid r = true → id % 256 ≠ 0 →
    idOfMaster c (id % 256) = false ∨ idOfRes r (id % 256) = false ∨ ((s.own r).owner ≠ 0 ∧ (s.own r).owner ≠ id % 256) →
    ∃ t, exec (.ownerClaim c r id false) s = .next t ∧ t.own r = ⟨(s.own r).owner, true⟩ ∧ t = { s with owners := t.owners } ∧
      ∀ r', resKey r' ≠ resKey r → t.own r' = s.own r') ∧
  (∀ c r id s, s.canonical = true → resValid r = true → id % 256 ≠ 0 →
    ∃ t, exec (.ownerClaim c r id true) s = .next t ∧ t.own r = ⟨(s.own r).owner, true⟩ ∧ t = { s with owners := t.owners } ∧
      ∀ r', resKey r' ≠ resKey r → t.own r' = s.own r') ∧
  (∀ c r id s, resValid r = true → id % 256 = 0 → exec (.ownerClaim c r id false) s = .next s ∧
    exec (.ownerClaim c r id true) s = exec (.ownerRelease c r) s) ∧
  (∀ c r s, s.canonical = true → resValid r = true → (s.own r).owner = 0 ∨ idOfMaster c (s.own r).owner = true →
    ∃ t, exec (.ownerRelease c r) s = .next t ∧ t.own r = ⟨0, false⟩ ∧ t = { s with owners := t.owners } ∧
      ∀ r', resKey r' ≠ resKey r → t.own r' = s.own r') ∧
  (∀ c r s, s.canonical = true → resValid r = true → (s.own r).owner ≠ 0 → idOfMaster c (s.own r).owner = false →
    ∃ t, exec (.ownerRelease c r) s = .next t ∧ t.own r = ⟨(s.own r).owner, true⟩ ∧ t = { s with owners := t.owners } ∧
      ∀ r', resKey r' ≠ resKey r → t.own r' = s.own r') ∧
  (∀ c r id b s, resValid r = false → exec (.ownerClaim c r id b) s = .next (s.regFail c .shared 0 1 true) ∧
    exec (.ownerRelease c r) s = .next (s.regFail c .shared 0 1 true)) ∧
  (∀ id, id < 256 → (idOfMaster .mgmt id = true ↔ (1 ≤ id ∧ id ≤ 0x10) ∨ id = 0x20 ∨ id = 0x30) ∧
    (idOfMaster .ua id = true ↔ id = 0x21) ∧ (idOfMaster .ub id = true ↔ id = 0x22)) ∧
  (∀ (s : State) n r, s.ownerTest n r n = (if idOfRes r n = false then Status.access else
    if (s.own r).owner = 0 ∨ (s.own r).owner = n then Status.ok else Status.busy))

/-- R477: an item that arrives while every stage of a FIFO is occupied is dropped, the loss is counted in a gap marker, and
GAP is set whenever a marker forms and stays until 1 is written to it. -/
def Obligations.FullFifoRecordsALossInAGapMarker : Prop :=
  (∀ (α : Type) depth (f : Fifo α) (pre : List (FItem α)) (v : α) last (w : α) l, f.dropping = false → f.items = pre ++ [FItem.item w l] → depth ≤ f.items.length →
    (f.push depth v last).items = pre ++ [FItem.gap 2] ∧ (f.push depth v last).gapSeen = true) ∧
  (∀ (α : Type) depth (f : Fifo α) (pre : List (FItem α)) (v : α) last n, f.dropping = false → f.items = pre ++ [FItem.gap n] → depth ≤ f.items.length →
    (f.push depth v last).items = pre ++ [FItem.gap (min 65535 (n + 1))] ∧ (f.push depth v last).gapSeen = f.gapSeen) ∧
  (∀ (α : Type) depth (f : Fifo α) (v : α) last, f.dropping = false → f.items.length < depth →
    (f.push depth v last).items = f.items ++ [FItem.item v last] ∧ (f.push depth v last).gapSeen = f.gapSeen) ∧
  (∀ (α : Type) (f : Fifo α) n l, f.items = FItem.gap n :: l → f.pop.items = l) ∧
  (∀ (f : Fifo (List Nat)) v, (f.writeReg 0xC v).gapSeen = (f.gapSeen && !natBit v 2)) ∧
  (∀ (f : Fifo (List Nat)), natBit (fifoReg f 0xC) 2 = f.gapSeen)

/-- R478: DROP_PKT discards from stage 0 through the first item that ends a packet, markers with the items; without one it
discards everything and then what arrives until an end item has been discarded. FLUSH discards everything and ends a pending
DROP_PKT. Both as the unit's control core and the management core command them for the exposed FIFOs. -/
def Obligations.DropPacketAndFlush : Prop :=
  (∀ (α : Type) (f : Fifo α) (pre : List (FItem α)) (v : α) rest, f.items = pre ++ .item v true :: rest → (∀ w, FItem.item w true ∉ pre) →
    f.drop.items = rest ∧ f.drop.dropping = false) ∧
  (∀ (α : Type) (f : Fifo α), (∀ w, FItem.item w true ∉ f.items) → f.drop.items = [] ∧ f.drop.dropping = true) ∧
  (∀ (α : Type) depth (f : Fifo α) (v : α) last, f.dropping = true → (f.push depth v last).items = f.items ∧
    (f.push depth v last).dropping = !last) ∧
  (∀ (α : Type) (f : Fifo α), f.flush.items = [] ∧ f.flush.dropping = false) ∧
  (∀ c u inst s, c ≠ u.other.core → inst < 2 → ∃ t t', exec (.fifoDropPkt c u inst) s = .next t ∧ exec (.fifoFlush c u inst) s = .next t' ∧
    (t.unit u).fab.fifo inst = ((s.unit u).fab.fifo inst).drop ∧ (t'.unit u).fab.fifo inst = ((s.unit u).fab.fifo inst).flush ∧
    t.unit u.other = s.unit u.other ∧ t'.unit u.other = s.unit u.other ∧ s.sameBytes t ∧ s.sameBytes t' ∧ t.regs = s.regs)

/-- FIFO_DATA returns the words of the item at stage 0 one by one, a marker in one word, and 0 from an empty FIFO (R480,
R481). -/
def Obligations.FifoDataReadsWordByWord : Prop :=
  (∀ c u inst s, inst < 2 → ((s.unit u).fab.fifo inst).items = [] → ∃ t, exec (.fifoDataRead c u inst) s = .next t ∧
    t.out = .regValue c (fifoBase inst + 0x10) 0 :: s.out ∧ t.unit u = s.unit u) ∧
  (∀ c u inst s n l, inst < 2 → ((s.unit u).fab.fifo inst).items = FItem.gap n :: l → ∃ t, exec (.fifoDataRead c u inst) s = .next t ∧
    t.out = .regValue c (fifoBase inst + 0x10) (2 ^ 31 + n) :: s.out ∧ ((t.unit u).fab.fifo inst).items = l) ∧
  (∀ c u inst s w last l, inst < 2 → ((s.unit u).fab.fifo inst).items = .item w last :: l → ∃ t, exec (.fifoDataRead c u inst) s = .next t ∧
    t.out = .regValue c (fifoBase inst + 0x10) (w.getD ((s.unit u).fab.fifo inst).rdPos 0) :: s.out ∧
    (((s.unit u).fab.fifo inst).rdPos + 1 < w.length → ((t.unit u).fab.fifo inst).items = .item w last :: l ∧
      ((t.unit u).fab.fifo inst).rdPos = ((s.unit u).fab.fifo inst).rdPos + 1) ∧
    (w.length ≤ ((s.unit u).fab.fifo inst).rdPos + 1 → ((t.unit u).fab.fifo inst).items = l ∧ ((t.unit u).fab.fifo inst).rdPos = 0))


/-- Push, pop and done of the Sieve (R507 to R509): a push appends its item to the list of its priority; a pop takes the
oldest eligible item of the highest priority that has one; a done ends its flow's service; refusals set their bits. -/
def Obligations.SieveItemsArePushedAndPopped : Prop :=
  (∀ (u : UnitId) (s : State) w, s.canonical = true → w < 2 ^ 19 → (s.unit u).nv.flowReserved (w % 65536) = false →
    (((s.unit u).sv.list (natBits w 16 3)).spilled = [] ∧ (s.unit u).sv.onchip < 4096) ∨
      (((s.unit u).sv.list (natBits w 16 3)).spilled ≠ [] ∧ (s.unit u).sv.spilled < 1048576) →
    ∃ t i, exec (.svPush u.core u w) s = .next t ∧ i.arg = (s.unit u).sv.push0 + 2 ^ 32 * (s.unit u).sv.push1 ∧
      i.func = (s.unit u).sv.push2 ∧ i.flow = w % 65536 ∧ i.prio = natBits w 16 3 ∧ i.delayed = false ∧
      (t.unit u).sv.items i.prio = (s.unit u).sv.items i.prio ++ [i] ∧ (t.unit u).sv.pushRes = 0 ∧
      (∀ p, p ≠ i.prio → (t.unit u).sv.items p = (s.unit u).sv.items p) ∧ (t.unit u).sv.delay = (s.unit u).sv.delay ∧
      (t.unit u).sv.level = (s.unit u).sv.level + 1 ∧ s.sameBytes t ∧
      State.sameRegsBut [(.unit u, svStat), (.unit u, 0x2004004C)] s t ∧ t.unit u.other = s.unit u.other) ∧
  (∀ (u : UnitId) (s : State) w, s.canonical = true → w < 2 ^ 20 → natBit w 19 = true →
    (s.unit u).nv.flowReserved (w % 65536) = false → (s.unit u).sv.delay.length < 1024 → (s.unit u).sv.onchip < 4096 →
    ∃ t i, exec (.svPush u.core u w) s = .next t ∧ i.arg = (s.unit u).sv.push0 + 2 ^ 32 * (s.unit u).sv.push1 ∧
      i.func = (s.unit u).sv.push2 ∧ i.flow = w % 65536 ∧ i.prio = natBits w 16 3 ∧ i.delayed = true ∧ i.stamp = s.tb.us ∧
      (t.unit u).sv.delay = delayInsert s.tb.us (s.reg (.unit u) 0x20040024 + 2 ^ 32 * (s.reg (.unit u) 0x20040028 % 65536)) i
        (s.unit u).sv.delay ∧ (t.unit u).sv.pushRes = 0 ∧ (t.unit u).sv.lists = (s.unit u).sv.lists ∧
      (t.unit u).sv.level = (s.unit u).sv.level + 1 ∧ s.sameBytes t ∧ t.unit u.other = s.unit u.other) ∧
  (∀ (u : UnitId) (s : State) w, s.canonical = true → 2 ^ 20 ≤ w → ∃ t, exec (.svPush u.core u w) s = .next t ∧
    (t.unit u).sv = { (s.unit u).sv with pushRes := 3 } ∧ natBit (t.reg (.unit u) svStat) 2 = true) ∧
  (∀ (u : UnitId) (s : State) w, s.canonical = true → w < 2 ^ 20 → (s.unit u).nv.flowReserved (w % 65536) = true →
    ∃ t, exec (.svPush u.core u w) s = .next t ∧ (t.unit u).sv = { (s.unit u).sv with pushRes := 2 } ∧
      natBit (t.reg (.unit u) svStat) 2 = true) ∧
  (∀ (u : UnitId) (s : State) w, s.canonical = true → w < 2 ^ 20 → (s.unit u).nv.flowReserved (w % 65536) = false →
    4096 ≤ (s.unit u).sv.onchip → 1048576 ≤ (s.unit u).sv.spilled →
    ∃ t, exec (.svPush u.core u w) s = .next t ∧ (t.unit u).sv = { (s.unit u).sv with pushRes := 1 } ∧
      natBit (t.reg (.unit u) svStat) 2 = true) ∧
  (∀ (v : Sieve) i, v.popItem = some i → ∃ p pre post, p < 8 ∧ (v.list p).chip = pre ++ i :: post ∧ v.eligible i = true ∧
    (∀ j ∈ pre, v.eligible j = false) ∧ ∀ q, p < q → q < 8 → ∀ j ∈ (v.list q).chip, v.eligible j = false) ∧
  (∀ (u : UnitId) (s : State) i, natBit (s.reg (.unit u) 0x20040000) 0 = true → (s.unit u).sv.popItem = some i →
    ∃ t, exec (.svPop u.core u) s = .next t ∧ t.out = .regValue u.core 0x20040030 (i.arg % 2 ^ 32) :: s.out ∧
      (t.unit u).sv.pop1 = i.arg / 2 ^ 32 ∧ (t.unit u).sv.pop2 = i.func ∧
      (t.unit u).sv.pop3 = i.flow + 2 ^ 16 * i.prio + (if i.delayed then 2 ^ 19 else 0) + 2 ^ 31 ∧
      (i.flow ≠ 0 → i.flow ∈ (t.unit u).sv.insvc) ∧ (t.unit u).sv.delay = (s.unit u).sv.delay ∧ s.sameBytes t) ∧
  (∀ (u : UnitId) (s : State), natBit (s.reg (.unit u) 0x20040000) 0 = false ∨ (s.unit u).sv.popItem = none →
    ∃ t, exec (.svPop u.core u) s = .next t ∧ (t.unit u).sv = { (s.unit u).sv with pop3 := 0 } ∧ t.regs = s.regs) ∧
  (∀ (u : UnitId) (s : State) f, f < 65536 → f ∈ (s.unit u).sv.insvc → ∃ t, exec (.svDone u.core u f) s = .next t ∧
    (∀ g, g ∈ (t.unit u).sv.insvc ↔ g ∈ (s.unit u).sv.insvc ∧ g ≠ f) ∧ t.regs = s.regs ∧
      (t.unit u).sv.lists = (s.unit u).sv.lists) ∧
  (∀ (u : UnitId) (s : State) f, s.canonical = true → f < 65536 → f ∉ (s.unit u).sv.insvc →
    ∃ t, exec (.svDone u.core u f) s = .next t ∧ t.unit u = s.unit u ∧ natBit (t.reg (.unit u) svStat) 3 = true) ∧
  (∀ (c : Core) (u : UnitId) (s : State) v, c ≠ u.core → exec (.svPush c u v) s = .next (s.regFail c (.unit u) 0x2004001C 5 true) ∧
    exec (.svPop c u) s = .next (s.regFail c (.unit u) 0x20040030 5 false) ∧ exec (.svDone c u v) s = .next (s.regFail c (.unit u) 0x20040040 5 true))

/-- The delay list, the spill and the reload of the Sieve (R510, R511): a due item enters its list; a spill moves tails
and a reload brings the oldest spilled items back, both without changing the order of any list. -/
def Obligations.SieveDelaySpillAndReloadKeepOrder : Prop :=
  (∀ (u : UnitId) (s : State), (∀ e ∈ (s.unit u).sv.delay, e.2.prio < 8) → ∃ t, exec (.delayRelease u) s = .next t ∧
    (∀ e ∈ (t.unit u).sv.delay, e ∈ (s.unit u).sv.delay ∧
      (2 ^ 47 ≤ (s.tb.us + 2 ^ 48 - e.1 % 2 ^ 48) % 2 ^ 48 ∨ e.2.stamp = s.tb.us)) ∧
    (∀ e ∈ (s.unit u).sv.delay, 2 ^ 47 ≤ (s.tb.us + 2 ^ 48 - e.1 % 2 ^ 48) % 2 ^ 48 ∨ e.2.stamp = s.tb.us → e ∈ (t.unit u).sv.delay) ∧
    (t.unit u).sv.level = (s.unit u).sv.level ∧
    (∀ p, ∃ l, (t.unit u).sv.items p = (s.unit u).sv.items p ++ l ∧ l.map (fun i => (i.arg, i.func, i.flow)) =
      (((s.unit u).sv.delay.filter (fun e => delayDue s.tb.us e && e.2.prio == p)).map
        (fun e => (e.2.arg, e.2.func, e.2.flow)))) ∧
    s.sameBytes t ∧ t.unit u.other = s.unit u.other) ∧
  (∀ (u : UnitId) (s : State), s.reg (.unit u) 0x20040054 ≤ (s.unit u).sv.onchip → ∃ t, exec (.sieveSpill u) s = .next t ∧
    (∀ p, (t.unit u).sv.items p = (s.unit u).sv.items p) ∧ (t.unit u).sv.delay = (s.unit u).sv.delay ∧
    (t.unit u).sv.onchip + min (min 256 (1048576 - (s.unit u).sv.spilled)) ((s.unit u).sv.onchip - (s.unit u).sv.delay.length) =
      (s.unit u).sv.onchip ∧ s.sameBytes t) ∧
  (∀ (u : UnitId) (s : State) p, (s.unit u).sv.reloadList (s.reg (.unit u) 0x20040058) = some p →
    ∃ t, exec (.sieveReload u []) s = .next t ∧ (∀ q, (t.unit u).sv.items q = (s.unit u).sv.items q) ∧
      ((t.unit u).sv.list p).chip.length = ((s.unit u).sv.list p).chip.length +
        min 256 (min ((s.unit u).sv.list p).spilled.length (4096 - (s.unit u).sv.onchip)) ∧
      (t.unit u).sv.delay = (s.unit u).sv.delay ∧ s.sameBytes t) ∧
  (∀ (u : UnitId) (s : State) p ue, s.canonical = true → (s.unit u).sv.reloadList (s.reg (.unit u) 0x20040058) = some p →
    let l := (s.unit u).sv.list p
    let k := min 256 (min l.spilled.length (4096 - (s.unit u).sv.onchip))
    ∃ t, exec (.sieveReload u ue) s = .next t ∧
      (t.unit u).sv.items p = l.chip ++ ((l.spilled.take k).zipIdx.filter (fun e => !ue.contains e.2)).map (·.1) ++ l.spilled.drop k ∧
      (∀ q, q ≠ p → (t.unit u).sv.items q = (s.unit u).sv.items q) ∧ (t.unit u).sv.delay = (s.unit u).sv.delay ∧
      ((∃ i ∈ ue, i < k) → natBit (t.reg (.unit u) svStat) 6 = true) ∧ s.sameBytes t) ∧
  (∀ (u : UnitId) (s : State) ue, (s.unit u).sv.reloadList (s.reg (.unit u) 0x20040058) = none →
    exec (.sieveReload u ue) s = .next s) ∧
  (∀ (v : Sieve) lo p, v.reloadList lo = some p → p < 8 ∧ (v.list p).spilled ≠ [] ∧
    ((v.list p).chip = [] ∨ (v.onchip ≤ lo ∧ ∀ q, p < q → q < 8 → (v.list q).spilled = [])))

/-- A request that nothing delays is served at its target: reads and writes of core SRAM and LP5 memory, with their write
strobes (R464 to R466, R483, R486, R495).
Requests that a matrix refuses receive an error response of the KIND of R482, which is recorded and returned, and change
no memory (R464, R465, R469, R482). -/
def Obligations.BusRequestsAnswerOrFail : Prop :=
  ((∀ (u : UnitId) (b : Burst) (s : State), s.passes u b = true → b.kind = .read →
     ∃ t, exec (.burstRequest u b) s = .next t ∧
       t.out = .busData u b.master b.id (s.bytesOf (burstPlace u b).1 (burstPlace u b).2 (burstLen b)) :: s.out ∧ s.sameBytes t ∧
       t.unit u.other = s.unit u.other ∧ (t.unit u).fab.outstanding = []) ∧
   (∀ (u : UnitId) (b : Burst) (s : State) d, s.canonical = true → s.passes u b = true → b.kind = .write d →
     ∃ t, exec (.burstRequest u b) s = .next t ∧ t.out = .busData u b.master b.id [] :: s.out ∧
       (∀ (i : Nat) x, d[i]? = some (x, true) → t.byteOf (burstPlace u b).1 ((burstPlace u b).2 + i) = x) ∧
       (∀ (i : Nat) x, d[i]? = some (x, false) → t.byteOf (burstPlace u b).1 ((burstPlace u b).2 + i) =
         s.byteOf (burstPlace u b).1 ((burstPlace u b).2 + i)) ∧
       State.sameBytesBut (burstPlace u b).1 (burstPlace u b).2 (burstLen b) s t ∧
       (∀ m g, aget? (t.unit u).fab.resv m = some g → aget? (s.unit u).fab.resv m = some g ∧
         (m = b.master ∨ g < b.addr / 64 ∨ (b.addr + burstLen b - 1) / 64 < g)))) ∧
  (∀ (u : UnitId) (b : Burst) (s : State) (kind t : Nat), s.canonical = true → b.master ∉ (s.unit u).fab.draining → b.master < 12 →
     ((t = 7 ∧ busTarget b.addr = 7 ∧ kind = 1) ∨
       (t = busTarget b.addr ∧ t < 6 ∧ busReach b.master t = false ∧ kind = 1) ∨
       (t = 6 ∧ busTarget b.addr = 6 ∧ busReach b.master t = false ∧ kind = 2) ∨
       (t = busTarget b.addr ∧ t ≠ 7 ∧ busReach b.master t = true ∧ burstForm b = false ∧ kind = 3) ∨
       (t = busTarget b.addr ∧ t ≠ 7 ∧ t ≠ 6 ∧ busReach b.master t = true ∧ burstForm b = true ∧ burstExcl b = true ∧
         (t ≠ 1 ∧ t ≠ 5 ∨ b.master ≠ 0 ∧ b.master ≠ 11) ∧ kind = 3) ∨
       (t = 6 ∧ busTarget b.addr = 6 ∧ busReach b.master t = true ∧ burstForm b = true ∧ burstExcl b = true ∧ kind = 2) ∨
       (t = busTarget b.addr ∧ t = 0 ∧ busReach b.master t = true ∧ burstForm b = true ∧ burstExcl b = false ∧
         isWriteKind b.kind = true ∧ (s.unit u).fab.outstanding = [] ∧ b.others = [] ∧ kind = 5) ∨
       (t = busTarget b.addr ∧ (t = 3 ∨ t = 4) ∧ busReach b.master t = true ∧ burstForm b = true ∧ burstExcl b = false ∧
         (b.size ≠ 4 ∨ b.addr % 4 ≠ 0) ∧ (s.unit u).fab.outstanding = [] ∧ b.others = [] ∧ kind = 3)) →
     ∃ s', exec (.burstRequest u b) s = .next s' ∧ s'.out = .busError u b.master b.id kind :: s.out ∧
       (s'.unit u).fab.errFifo = (s.unit u).fab.errFifo.push 64 (errWords kind t b.master b.id b.addr (isWriteKind b.kind)) true ∧
       natBit (s'.reg (.unit u) 0x20060004) 0 = true ∧ s.sameBytes s' ∧
       State.sameRegsBut [(.unit u, 0x20060004), (.unit u, 0x20060010)] s s' ∧ s'.unit u.other = s.unit u.other)


/-- Exclusive and atomic operations of the control core and the management master on memory (R469). -/
def Obligations.ReservationsAndAtomics : Prop :=
  (∀ (u : UnitId) (b : Burst) (s : State), s.passes u b = true → b.kind = .loadReserved → b.master = 0 ∨ b.master = 11 →
    ∃ t, exec (.burstRequest u b) s = .next t ∧ aget? (t.unit u).fab.resv b.master = some (b.addr / 64) ∧ s.sameBytes t ∧
      t.out = .busData u b.master b.id (s.bytesOf (burstPlace u b).1 (burstPlace u b).2 (burstLen b)) :: s.out) ∧
  (∀ (u : UnitId) (b : Burst) (s : State) d, s.canonical = true → s.passes u b = true → b.kind = .storeConditional d →
    b.master = 0 ∨ b.master = 11 → aget? (s.unit u).fab.resv b.master = some (b.addr / 64) →
    ∃ t, exec (.burstRequest u b) s = .next t ∧ t.out = .busSc u b.master b.id true :: s.out ∧
      t.bytesOf (burstPlace u b).1 (burstPlace u b).2 (burstLen b) = d ∧ aget? (t.unit u).fab.resv b.master = none ∧
      State.sameBytesBut (burstPlace u b).1 (burstPlace u b).2 (burstLen b) s t) ∧
  (∀ (u : UnitId) (b : Burst) (s : State) d, s.canonical = true → s.passes u b = true → b.kind = .storeConditional d →
    b.master = 0 ∨ b.master = 11 → aget? (s.unit u).fab.resv b.master ≠ some (b.addr / 64) →
    ∃ t, exec (.burstRequest u b) s = .next t ∧ t.out = .busSc u b.master b.id false :: s.out ∧ s.sameBytes t ∧
      aget? (t.unit u).fab.resv b.master = none) ∧
  (∀ (u : UnitId) (b : Burst) (s : State) op v, s.canonical = true → s.passes u b = true → b.kind = .amo op v →
    b.master = 0 ∨ b.master = 11 → ∃ t, exec (.burstRequest u b) s = .next t ∧
      t.out = .busData u b.master b.id (s.bytesOf (burstPlace u b).1 (burstPlace u b).2 b.size) :: s.out ∧
      t.bytesOf (burstPlace u b).1 (burstPlace u b).2 b.size = leBytes b.size (amoResult (8 * b.size) op
        (leNat (s.bytesOf (burstPlace u b).1 (burstPlace u b).2 b.size)) (v % 2 ^ (8 * b.size))) ∧
      State.sameBytesBut (burstPlace u b).1 (burstPlace u b).2 b.size s t)

/-- The peer window and the bridge (R26, R27, R516): a write of the other unit's mailbox lands there and its last word rings
the doorbell; a write elsewhere is refused; a request that the bridge has not completed for 10 µs receives an error.
A master reset ends the master's requests and its reservation and it drains until its drain ends (R470). -/
def Obligations.PeerWindowBridgeAndMasterReset : Prop :=
  ((∀ (u : UnitId) (b : Burst) (s : State) d, s.canonical = true → (s.unit u).fab.outstanding = [] → 0 ∉ (s.unit u).fab.draining →
     b.others = [] → b.ecc = .none → b.kind = .write d → d.length = burstLen b → burstForm { b with master := 0 } = true →
     0x080F0000 ≤ b.addr → b.addr + burstLen b ≤ 0x08100000 → s.unitState u.other ≠ 3 → 64 ≤ s.awakeNow u.other → 9 ∉ (s.unit u.other).fab.draining →
     ∃ t, exec (.peerWindowAccess u b false) s = .next t ∧ t.out = .busData u 0 b.id [] :: s.out ∧
       (∀ (i : Nat) x, d[i]? = some (x, true) → t.byteOf (.core u.other) (b.addr - 0x08000000 + i) = x) ∧
       State.sameBytesBut (.core u.other) (b.addr - 0x08000000) (burstLen b) s t ∧ t.regs = s.regs ∧
       (0x080FFFFC < b.addr + burstLen b → 0x41 ∈ (t.ic u.other.core).pend)) ∧
   (∀ (u : UnitId) (b : Burst) (s : State) d, s.canonical = true → (s.unit u).fab.outstanding = [] → 0 ∉ (s.unit u).fab.draining →
     b.others = [] → b.kind = .write d → burstForm { b with master := 0, addr := 0x400000000 + b.addr } = true →
     b.addr < 0x080F0000 ∨ (0x08100000 < b.addr + burstLen b ∧ b.addr < 0x400000000) → s.unitState u.other ≠ 3 →
     ∃ t, exec (.peerWindowAccess u b false) s = .next t ∧ t.out = .busError u 0 b.id 2 :: s.out ∧ s.sameBytes t) ∧
   (∀ (u : UnitId) (b : Burst) (s : State), s.canonical = true → (s.unit u).fab.outstanding = [] → 0 ∉ (s.unit u).fab.draining →
     b.others = [] → b.ecc = .none → b.kind = .read → burstForm { b with master := 0, addr := 0x400000000 + b.addr } = true →
     0x08000000 ≤ b.addr → b.addr + burstLen b ≤ 0x08100000 → s.unitState u.other ≠ 3 → 64 ≤ s.awakeNow u.other → 9 ∉ (s.unit u.other).fab.draining →
     ∃ t, exec (.peerWindowAccess u b false) s = .next t ∧
       t.out = .busData u 0 b.id (s.bytesOf (.core u.other) (b.addr - 0x08000000) (burstLen b)) :: s.out ∧ s.sameBytes t ∧ t.regs = s.regs) ∧
   (∀ (u : UnitId) (s : State) o, (s.unit u).fab.outstanding = [o] → o.target = 6 → 10 ≤ (s.tb.us + 2 ^ 48 - o.us) % 2 ^ 48 →
     ∃ t, exec (.bridgeTimeout u) s = .next t ∧ t.out = .busError u o.req.master o.req.id 4 :: s.out ∧
       (t.unit u).fab.outstanding = [] ∧ s.sameBytes t)) ∧
  ((∀ (c : Core) (u : UnitId) mask (s : State), s.canonical = true → c ≠ u.other.core → ∃ t, exec (.bmMrst c u mask) s = .next t ∧
     (∀ m, 0 < m → m < 12 → natBit mask m = true → m ∈ (t.unit u).fab.draining ∧ aget? (t.unit u).fab.resv m = none ∧
       ∀ o ∈ (t.unit u).fab.outstanding, o.req.master ≠ m) ∧
     (∀ m, m = 0 ∨ 12 ≤ m ∨ natBit mask m = false → (m ∈ (t.unit u).fab.draining ↔ m ∈ (s.unit u).fab.draining) ∧
       aget? (t.unit u).fab.resv m = aget? (s.unit u).fab.resv m) ∧
     (natBit mask 9 = true → ∀ o ∈ (t.unit u.other).fab.outstanding, ¬ (o.req.master = 0 ∧ o.target = 6)) ∧
     (∀ o ∈ (s.unit u).fab.outstanding, o.req.master = 0 ∨ 12 ≤ o.req.master ∨ natBit mask o.req.master = false →
       o ∈ (t.unit u).fab.outstanding) ∧ s.sameBytes t) ∧
   (∀ (u : UnitId) mask (s : State), exec (.bmMrst u.other.core u mask) s = .next (s.regFail u.other.core (.unit u) 0x20060008 5 true)) ∧
   (∀ (u : UnitId) m (s : State), ∃ t, exec (.masterDrainEnd u m) s = .next t ∧
     (∀ k, k ∈ (t.unit u).fab.draining ↔ k ∈ (s.unit u).fab.draining ∧ k ≠ m) ∧ t.regs = s.regs ∧ t.out = s.out ∧
     t.unit u.other = s.unit u.other ∧ s.sameBytes t))


/-- DMA channels: GO and ABORT, and the copy of a descriptor within core SRAM, with the end or the next link of its chain
(R36, R475, R476). -/
def Obligations.DmaChannelsCopyDescriptors : Prop :=
  (∀ (u : UnitId) n (s : State), s.canonical = true → n < 16 → (s.own (.dma u n)).owner = 0 ∨ (s.own (.dma u n)).owner = ctrlId u →
    (s.dmaCh u n).busy = false → ∃ t, exec (.dmaGo u.core u n) s = .next t ∧
      t.dmaCh u n = { busy := true, cur := s.reg (.unit u) (0x20080108 + 0x20 * n) } ∧ (t.own (.dma u n)).owner = ctrlId u ∧
      (∀ k, k ≠ n → t.dmaCh u k = s.dmaCh u k) ∧ t.regs = s.regs ∧ s.sameBytes t) ∧
  (∀ (u : UnitId) n (s : State), s.canonical = true → n < 16 → (s.own (.dma u n)).owner = 0 ∨ (s.own (.dma u n)).owner = ctrlId u →
    (s.dmaCh u n).busy = true → ∃ t, exec (.dmaGo u.core u n) s = .next t ∧ t.dmaCh u n = s.dmaCh u n ∧
      natBit (t.reg (.unit u) (dmaStat n)) 3 = true ∧ s.sameBytes t) ∧
  (∀ (u : UnitId) n (s : State), s.canonical = true → n < 16 → (s.own (.dma u n)).owner = 0 ∨ (s.own (.dma u n)).owner = ctrlId u →
    (s.dmaCh u n).busy = true → ∃ t, exec (.dmaAbort u.core u n) s = .next t ∧
      t.dmaCh u n = { s.dmaCh u n with busy := false, desc := none, part := 0, buf := [] } ∧ natBit (t.reg (.unit u) (dmaStat n)) 4 = true ∧
      (∀ o ∈ (t.unit u).fab.outstanding, o.req.master = 8 → o.req.id ≠ n) ∧ s.sameBytes t) ∧
  (∀ (c : Core) (u : UnitId) n (s : State), s.canonical = true → n < 16 → c ≠ u.core →
    ∃ t t', exec (.dmaGo c u n) s = .next t ∧ exec (.dmaAbort c u n) s = .next t' ∧ t.unit u = s.unit u ∧ t'.unit u = s.unit u ∧
      (t.own (.dma u n)).lastRefused = true ∧ (t'.own (.dma u n)).lastRefused = true) ∧
  (∀ (u : UnitId) n m (s : State) q, s.canonical = true → n < 16 → (s.dmaCh u n).busy = true → 8 ∉ (s.unit u).fab.draining →
    (s.dmaCh u n).desc = none → (s.dmaCh u n).part = 0 → (s.dmaCh u n).buf = [] → (∀ f ∈ m, MemFind.ecc f = .none) →
    64 ≤ s.awakeNow u → (s.dmaCh u n).cur + 32 ≤ 0x100000 →
    dmaDesc (s.bytesOf (.core u) (s.dmaCh u n).cur 32) = some q →
    0x08000000 ≤ q.src → q.src + q.len ≤ 0x08100000 → 0x08000000 ≤ q.dst → q.dst + q.len ≤ 0x08100000 →
    q.src + q.len ≤ q.dst ∨ q.dst + q.len ≤ q.src ∨ (q.len ≤ 64 ∧ q.src % 4096 + q.len ≤ 4096 ∧ q.dst % 4096 + q.len ≤ 4096) →
    ∃ t, exec (.dmaDescriptorDone u ⟨n, m⟩) s = .next t ∧
      t.bytesOf (.core u) (q.dst - 0x08000000) q.len = s.bytesOf (.core u) (q.src - 0x08000000) q.len ∧
      State.sameBytesBut (.core u) (q.dst - 0x08000000) q.len s t ∧
      (q.last = true → t.dmaCh u n = { cur := (s.dmaCh u n).cur, bytes := (s.dmaCh u n).bytes + q.len } ∧
        natBit (t.reg (.unit u) (dmaStat n)) 1 = true) ∧
      (q.last = false → t.dmaCh u n = { busy := true, cur := q.next, bytes := (s.dmaCh u n).bytes + q.len })) ∧
  (∀ (u : UnitId) n m (s : State) q, n < 16 → (s.dmaCh u n).busy = true → 8 ∉ (s.unit u).fab.draining → (s.dmaCh u n).desc = some q →
    (s.dmaCh u n).part < q.len → (s.dmaCh u n).buf = [] → busTarget (q.src + (s.dmaCh u n).part) = 5 →
    s.bucketOk u 18 = false → exec (.dmaDescriptorDone u ⟨n, m⟩) s = .next s) ∧
  (∀ (u : UnitId) n m (s : State), s.canonical = true → n < 16 → (s.dmaCh u n).busy = true → 8 ∉ (s.unit u).fab.draining →
    (s.dmaCh u n).desc = none → (∀ f ∈ m, MemFind.ecc f = .none) →
    64 ≤ s.awakeNow u → (s.dmaCh u n).cur + 32 ≤ 0x100000 →
    dmaDesc (s.bytesOf (.core u) (s.dmaCh u n).cur 32) = none →
    ∃ t, exec (.dmaDescriptorDone u ⟨n, m⟩) s = .next t ∧ t.dmaCh u n = { s.dmaCh u n with busy := false, part := 0, buf := [] } ∧
      natBit (t.reg (.unit u) (dmaStat n)) 2 = true ∧ s.sameBytes t)

/-- The scrubber's findings and the end of a retention wake (R473, R474, R498).
Refreshes: due while real-time requests are held they are postponed, at most POSTPONE_MAX, and then forced; they are
issued when the queues are empty; the derating follows the temperature (R489, R500, R501). -/
def Obligations.ScrubsWakesAndRefreshes : Prop :=
  ((∀ (u : UnitId) (s : State) l, s.canonical = true → natBit (s.reg (.unit u) 0x20080000) 0 = true → 64 ≤ s.awakeNow u →
     let ce := (l.filter (fun f => !f.2)).length
     ∃ t, exec (.scrubPass u l) s = .next t ∧
       natBit (t.reg (.unit u) 0x20080004) 1 = (natBit (s.reg (.unit u) 0x20080004) 1 || l.any (·.2)) ∧
       natBit (t.reg (.unit u) 0x20080004) 0 = (natBit (s.reg (.unit u) 0x20080004) 0 || l.any (fun f => !f.2)) ∧
       t.reg (.unit u) 0x2008000C = (if natBit (s.reg (.unit u) 0x20080004) 1 then s.reg (.unit u) 0x2008000C
         else ((l.find? (·.2)).map (fun f => f.1 % 2 ^ 32)).getD (s.reg (.unit u) 0x2008000C)) ∧
       t.reg (.unit u) 0x20080008 = (if ce = 0 ∨ natBit (s.reg (.unit u) 0x20080000) 1 = true then s.reg (.unit u) 0x20080008
         else min 0xFFFFFFFF (s.reg (.unit u) 0x20080008 + ce)) ∧
       State.sameRegsBut [(.unit u, 0x20080004), (.unit u, 0x20080008), (.unit u, 0x2008000C), (.unit u, 0x20090008)] s t ∧ s.sameBytes t) ∧
   (∀ (u : UnitId) (s : State) l, natBit (s.reg (.unit u) 0x20080000) 0 = false ∨ s.awakeNow u < 64 →
     exec (.scrubPass u l) s = .next s) ∧
   (∀ (u : UnitId) (s : State), (s.unit u).fab.waking = true → 2560 ≤ (s.tb.us + 2 ^ 48 - (s.unit u).fab.wakeUs) % 2 ^ 48 →
     ∃ t, exec (.sramWakeDone u) s = .next t ∧
     (t.unit u).fab = { (s.unit u).fab with awakeTo := 64, waking := false } ∧ t.unit u.other = s.unit u.other ∧ t.regs = s.regs) ∧
   (∀ (u : UnitId) (s : State) g, (s.unit u).fab.waking = true → (s.unit u).fab.awakeTo = 0 → g < 64 →
     (g < s.awakeNow u ↔ 40 * (g + 1) ≤ (s.tb.us + 2 ^ 48 - (s.unit u).fab.wakeUs) % 2 ^ 48))) ∧
  ((∀ (u : UnitId) ch (s : State), ch < 8 → (s.unit u).fab.lp.selfRefresh = false →
     agetD (s.unit u).fab.lp.postponed ch 0 < min 8 (natBits (s.reg (.unit u) 0x20070000) 16 4) →
     ∃ t, exec (.refreshDue u ch true) s = .next t ∧ agetD (t.unit u).fab.lp.postponed ch 0 =
       agetD (s.unit u).fab.lp.postponed ch 0 + 1 ∧ t.regs = s.regs ∧
       (∀ c, c ≠ ch → agetD (t.unit u).fab.lp.postponed c 0 = agetD (s.unit u).fab.lp.postponed c 0) ∧ s.sameBytes t) ∧
   (∀ (u : UnitId) ch (s : State), s.canonical = true → ch < 8 → (s.unit u).fab.lp.selfRefresh = false →
     min 8 (natBits (s.reg (.unit u) 0x20070000) 16 4) ≤ agetD (s.unit u).fab.lp.postponed ch 0 →
     ∃ t, exec (.refreshDue u ch true) s = .next t ∧ t.unit u = s.unit u ∧ natBit (t.reg (.unit u) lpStat) 7 = true ∧
       (natBit (s.reg (.unit u) 0x20070000) 3 = false →
         t.reg (.unit u) 0x20070014 = min 0xFFFFFFFF (s.reg (.unit u) 0x20070014 + 1))) ∧
   (∀ (u : UnitId) ch (s : State), exec (.refreshDue u ch false) s = .next s) ∧
   (∀ (u : UnitId) ch (s : State), s.canonical = true → ∃ t, exec (.postponedRefresh u ch) s = .next t ∧
     agetD (t.unit u).fab.lp.postponed ch 0 = 0 ∧ t.regs = s.regs ∧
     (∀ c, c ≠ ch → agetD (t.unit u).fab.lp.postponed c 0 = agetD (s.unit u).fab.lp.postponed c 0) ∧ s.sameBytes t) ∧
   (∀ (u : UnitId) hot (s : State), ∃ t, exec (.refreshDerateChange u hot) s = .next t ∧
     (t.unit u).fab.lp = { (s.unit u).fab.lp with derate := hot } ∧ t.regs = s.regs ∧ s.sameBytes t))


/-- Set-point changes, self-refresh and periodic training of the LP5 controller, and the writes held meanwhile (R491 to
R494, R499, R501). -/
def Obligations.SetPointsSelfRefreshAndTraining : Prop :=
  (∀ (c : Core) (u : UnitId) v (s : State), c ≠ u.other.core → s.pathRuns u = false → (s.unit u).fab.lp.freq = .idle →
    (s.unit u).fab.lp.selfRefresh = false → (s.unit u).fab.lp.training = false → v % 2 ≠ (s.unit u).fab.lp.setpoint →
    ∃ t, exec (.freqReq c u v) s = .next t ∧ (t.unit u).fab.lp = { (s.unit u).fab.lp with
        freq := .changing (v % 2) (decide (v % 2 ∉ (s.unit u).fab.lp.trained)) } ∧
      State.sameRegsBut [(.unit u, 0x20070000)] s t ∧ t.unit u.other = s.unit u.other ∧ s.sameBytes t) ∧
  (∀ (c : Core) (u : UnitId) v (s : State), c ≠ u.other.core → (s.unit u).fab.lp.selfRefresh = false →
    (s.unit u).fab.lp.busyChange = false → v % 2 = (s.unit u).fab.lp.setpoint →
    ∃ t, exec (.freqReq c u v) s = .next t ∧ (t.unit u).fab.lp = { (s.unit u).fab.lp with freq := .idle }) ∧
  (∀ (c : Core) (u : UnitId) v (s : State), c ≠ u.other.core → s.pathRuns u = false → (s.unit u).fab.lp.selfRefresh = false →
    (s.unit u).fab.lp.busyChange = false → (s.unit u).fab.lp.training = true → v % 2 ≠ (s.unit u).fab.lp.setpoint →
    ∃ t, exec (.freqReq c u v) s = .next t ∧ (t.unit u).fab.lp = { (s.unit u).fab.lp with freq := .deferred (v % 2) }) ∧
  (∀ (c : Core) (u : UnitId) v (s : State), s.canonical = true → c ≠ u.other.core → s.pathRuns u = true → v % 2 ≠ (s.unit u).fab.lp.setpoint →
    ∃ t, exec (.freqReq c u v) s = .next t ∧ t.unit u = s.unit u ∧ natBit (t.reg (.unit u) lpStat) 11 = true) ∧
  (∀ (c : Core) (u : UnitId) v (s : State), c ≠ u.other.core → s.pathRuns u = false →
    (s.unit u).fab.lp.busyChange = true ∨ (s.unit u).fab.lp.selfRefresh = true →
    ∃ t, exec (.freqReq c u v) s = .next t ∧ (t.unit u).fab.lp = { (s.unit u).fab.lp with heldFreq := some (v % 2) }) ∧
  (∀ (u : UnitId) (s : State) p re, s.canonical = true → (s.unit u).fab.lp.freq = .changing p re →
    (s.unit u).fab.lp.heldFreq = none → (s.unit u).fab.lp.heldSr = none →
    ∃ t, exec (.freqChangeDone u true) s = .next t ∧ (t.unit u).fab.lp.setpoint = p ∧ (t.unit u).fab.lp.freq = .idle ∧
      p ∈ (t.unit u).fab.lp.trained ∧ natBit (t.reg (.unit u) lpStat) 4 = true ∧
      (p ∉ (s.unit u).fab.lp.trained → natBit (t.reg (.unit u) lpStat) 5 = true) ∧ s.sameBytes t) ∧
  (∀ (u : UnitId) (s : State) p, s.canonical = true → (s.unit u).fab.lp.freq = .changing p true →
    (s.unit u).fab.lp.heldFreq = none → (s.unit u).fab.lp.heldSr = none →
    ∃ t, exec (.freqChangeDone u false) s = .next t ∧ (t.unit u).fab.lp = { (s.unit u).fab.lp with freq := .idle } ∧
      natBit (t.reg (.unit u) lpStat) 6 = true) ∧
  (∀ (c : Core) (u : UnitId) (s : State), c ≠ u.other.core → (s.unit u).fab.lp.busyChange = false →
    ∃ t, exec (.srReqEnter c u) s = .next t ∧
      (t.unit u).fab.lp = { (s.unit u).fab.lp with postponed := [], selfRefresh := true } ∧
      State.sameRegsBut [(.unit u, 0x20070000)] s t ∧ s.sameBytes t) ∧
  (∀ (c : Core) (u : UnitId) (s : State), c ≠ u.other.core → (s.unit u).fab.lp.busyChange = false →
    (s.unit u).fab.lp.heldFreq = none → (s.unit u).fab.lp.heldSr = none →
    ∃ t, exec (.srReqExit c u) s = .next t ∧ (t.unit u).fab.lp = { (s.unit u).fab.lp with selfRefresh := false } ∧
      State.sameRegsBut [(.unit u, 0x20070000)] s t ∧ s.sameBytes t) ∧
  (∀ (c : Core) (u : UnitId) (s : State), c ≠ u.other.core → (s.unit u).fab.lp.busyChange = true →
    ∃ t t', exec (.srReqEnter c u) s = .next t ∧ exec (.srReqExit c u) s = .next t' ∧
      (t.unit u).fab.lp = { (s.unit u).fab.lp with heldSr := some 1 } ∧ (t'.unit u).fab.lp = { (s.unit u).fab.lp with heldSr := some 0 }) ∧
  (∀ (u : UnitId) (s : State), (s.unit u).fab.lp.selfRefresh = false → (s.unit u).fab.lp.busyChange = false →
    ∃ t, exec (.periodicTraining u true) s = .next t ∧ (t.unit u).fab.lp = { (s.unit u).fab.lp with training := true } ∧
      t.regs = s.regs ∧ t.unit u.other = s.unit u.other) ∧
  (∀ (u : UnitId) (s : State), (s.unit u).fab.lp.training = false → exec (.periodicTraining u false) s = .next s) ∧
  (∀ (u : UnitId) (s : State), (s.unit u).fab.lp.selfRefresh = false → (s.unit u).fab.lp.training = true →
    ∃ t, exec (.periodicTraining u false) s = .next t ∧ (t.unit u).fab.lp.training = false ∧ (t.unit u).fab.lp.train = [] ∧
      (∀ p, (s.unit u).fab.lp.freq = .deferred p →
        (t.unit u).fab.lp.freq = .changing p (decide (p ∉ (s.unit u).fab.lp.trained))) ∧
      ((s.unit u).fab.lp.freq = .idle → (t.unit u).fab.lp.freq = .idle) ∧ t.regs = s.regs)

/-- Every Novil instruction decodes from its word, with every operand at every value that its format admits, and every word
that decodes is the word of what it decodes to (R253). -/
def Obligations.NovilWordsDecodeAsEncoded : Prop :=
  (∀ i : NvInsn, i.wf = true → nvDecode (nvEncode i) = some i ∧ nvEncode i < 2 ^ 32) ∧
  (∀ (w : Nat) (i : NvInsn), nvDecode w = some i → i.wf = true ∧ nvEncode i = w)

/-- NOP, BR, CALL, RET, LOOP, END and DMAW on a running engine (R254, R256, R257, R261, R264). -/
def Obligations.NovilControlInstructions : Prop :=
  (∀ c : NvIssue, nvMakes c (.nvNop c) (.control 0 0 0 0) id) ∧
  (∀ (c : NvIssue) cond target, nvMakes c (.nvBr c cond target) (.control 1 cond 0 target) (fun x =>
    if condHolds x.fl cond then { x with pc := target, loops := leaveLoops (x.pc - 1) target x.loops } else x)) ∧
  (∀ (c : NvIssue) cond target (s : State) j, s.issues c (.control 2 cond 0 target) j = true →
    condHolds (s.nvAt c).fl cond = false ∨ (s.nvAt c).stack.length < 8 →
    exec (.nvCall c cond target) s = .next (s.engineNext c (
      let x := (s.nvAt c).issued (.control 2 cond 0 target)
      if condHolds x.fl cond then
        { x with pc := target, loops := leaveLoops (x.pc - 1) target x.loops, stack := x.pc :: x.stack }
      else x))) ∧
  (∀ (c : NvIssue) (s : State) j a l, s.issues c (.control 3 0 0 0) j = true → (s.nvAt c).stack = a :: l →
    exec (.nvRet c) s = .next (s.engineNext c { (s.nvAt c).issued (.control 3 0 0 0) with pc := a, stack := l })) ∧
  (∀ (c : NvIssue) lcs target (s : State) j, s.issues c (.control 4 0 lcs target) j = true → (s.nvAt c).pc < target →
    (∀ l ∈ (s.nvAt c).loops, l.ctr ≠ lcs) →
    exec (.nvLoop c lcs target) s = .next (s.engineNext c (
      let x := (s.nvAt c).issued (.control 4 0 lcs target)
      if x.lc.getD lcs 0 = 0 then { x with pc := target + 1 } else { x with loops := ⟨x.pc, target, lcs⟩ :: x.loops }))) ∧
  (∀ c : NvIssue, nvMakes c (.nvDmaw c) (.control 6 0 0 0) Novil.finishAll) ∧
  (∀ x : Novil, x.finishAll.xfers = []) ∧
  (∀ (c : NvIssue) (s : State) j, s.canonical = true → s.issues c (.control 5 0 0 0) j = true →
    ∃ t, exec (.nvEnd c) s = .next t ∧ (t.nvAt c).job = none ∧ (t.nvAt c).xfers = [] ∧ (t.nvAt c).loops = [] ∧
      (t.nvAt c).stack = [] ∧ agetD (t.unit c.u).nv.ended j.id 0 = (s.nvAt c).blk + 1 ∧ t.regs = s.regs ∧
      t.unit c.u.other = s.unit c.u.other ∧ s.sameBytes t ∧
      (∀ e, e ≠ c.e → (t.unit c.u).nv.engine e = (s.unit c.u).nv.engine e)) ∧
  (∀ fl, (condHolds fl 0 = true) ∧ condHolds fl 1 = natBit fl 0 ∧ condHolds fl 2 = !natBit fl 0 ∧ condHolds fl 3 = natBit fl 1 ∧
    condHolds fl 4 = !natBit fl 1 ∧ condHolds fl 5 = !(natBit fl 1 || natBit fl 0) ∧ condHolds fl 6 = (natBit fl 1 || natBit fl 0) ∧
    condHolds fl 7 = natBit fl 2 ∧ condHolds fl 8 = !natBit fl 2 ∧ condHolds fl 9 = natBit fl 3 ∧ condHolds fl 10 = !natBit fl 3)

/-- The ALU instructions: result, Z and N, the saturation that V shows, and nothing else changed (R246, R250, R254).
The instructions with an immediate, and the comparisons, which write flags alone (R246, R254). -/
def Obligations.NovilDataInstructions : Prop :=
  (∀ (c : NvIssue) (dd da db : Nat),
     let cnt := fun (x : Novil) => (BitVec.ofInt 32 (x.dreg db)).toNat % 64
     let sat := fun (r : Int) => if r < -2147483648 then -2147483648 else if 2147483647 < r then 2147483647 else r
     let wide := fun (r : Int) => some (decide (r < -2147483648 ∨ 2147483647 < r))
     nvWrites c (.nvAdd c dd da db) (.alu 0 dd da db) dd (fun x => x.dreg da + x.dreg db) (fun _ => none) ∧
     nvWrites c (.nvSub c dd da db) (.alu 1 dd da db) dd (fun x => x.dreg da - x.dreg db) (fun _ => none) ∧
     nvWrites c (.nvAnd c dd da db) (.alu 2 dd da db) dd (fun x => (BitVec.ofInt 32 (x.dreg da) &&& BitVec.ofInt 32 (x.dreg db)).toInt) (fun _ => none) ∧
     nvWrites c (.nvOr c dd da db) (.alu 3 dd da db) dd (fun x => (BitVec.ofInt 32 (x.dreg da) ||| BitVec.ofInt 32 (x.dreg db)).toInt) (fun _ => none) ∧
     nvWrites c (.nvXor c dd da db) (.alu 4 dd da db) dd (fun x => (BitVec.ofInt 32 (x.dreg da) ^^^ BitVec.ofInt 32 (x.dreg db)).toInt) (fun _ => none) ∧
     nvWrites c (.nvShl c dd da db) (.alu 5 dd da db) dd (fun x => (BitVec.ofInt 32 (x.dreg da) <<< cnt x).toInt) (fun _ => none) ∧
     nvWrites c (.nvShr c dd da db) (.alu 6 dd da db) dd (fun x => x.dreg da / 2 ^ cnt x) (fun _ => none) ∧
     nvWrites c (.nvShrl c dd da db) (.alu 7 dd da db) dd (fun x => (BitVec.ofInt 32 (x.dreg da) >>> cnt x).toInt) (fun _ => none) ∧
     nvWrites c (.nvMin c dd da db) (.alu 8 dd da db) dd (fun x => if x.dreg da ≤ x.dreg db then x.dreg da else x.dreg db) (fun _ => none) ∧
     nvWrites c (.nvMax c dd da db) (.alu 9 dd da db) dd (fun x => if x.dreg da ≤ x.dreg db then x.dreg db else x.dreg da) (fun _ => none) ∧
     nvWrites c (.nvAbs c dd da) (.alu 10 dd da 0) dd (fun x => sat (if x.dreg da < 0 then -x.dreg da else x.dreg da))
       (fun x => wide (if x.dreg da < 0 then -x.dreg da else x.dreg da)) ∧
     nvWrites c (.nvNeg c dd da) (.alu 11 dd da 0) dd (fun x => sat (-x.dreg da)) (fun x => wide (-x.dreg da)) ∧
     nvWrites c (.nvAdds c dd da db) (.alu 12 dd da db) dd (fun x => sat (x.dreg da + x.dreg db)) (fun x => wide (x.dreg da + x.dreg db)) ∧
     nvWrites c (.nvSubs c dd da db) (.alu 13 dd da db) dd (fun x => sat (x.dreg da - x.dreg db)) (fun x => wide (x.dreg da - x.dreg db)) ∧
     nvWrites c (.nvMul c dd da db) (.alu 15 dd da db) dd (fun x => x.dreg da * x.dreg db) (fun _ => none)) ∧
  ((∀ (c : NvIssue) (dd v : Nat),
     let imm := fun (_ : Novil) => (BitVec.ofNat 16 v).toInt
     nvWrites c (.nvLdi c dd v) (.imm 0 dd v) dd imm (fun _ => none) ∧
     nvWrites c (.nvLdh c dd v) (.imm 1 dd v) dd (fun x => (65536 * v : Nat) + x.dreg dd % 65536) (fun _ => none) ∧
     nvWrites c (.nvAddi c dd v) (.imm 2 dd v) dd (fun x => x.dreg dd + imm x) (fun _ => none) ∧
     nvWrites c (.nvShli c dd v) (.imm 4 dd v) dd (fun x => (BitVec.ofInt 32 (x.dreg dd) <<< (v % 64)).toInt) (fun _ => none) ∧
     nvWrites c (.nvShri c dd v) (.imm 5 dd v) dd (fun x => x.dreg dd / 2 ^ (v % 64)) (fun _ => none) ∧
     (v < 65536 → nvWrites c (.nvAndi c dd v) (.imm 6 dd v) dd (fun x => (BitVec.ofInt 32 (x.dreg dd) &&& BitVec.ofNat 32 v).toInt) (fun _ => none))) ∧
   (∀ (c : NvIssue) da db (s : State) j, s.issues c (.alu 14 0 da db) j = true →
     ∃ fl, exec (.nvCmp c da db) s = .next (s.engineNext c { (s.nvAt c).issued (.alu 14 0 da db) with fl := fl }) ∧
       (-2147483648 ≤ (s.nvAt c).dreg da - (s.nvAt c).dreg db → (s.nvAt c).dreg da - (s.nvAt c).dreg db ≤ 2147483647 →
         flagsOf fl (s.nvAt c).fl ((s.nvAt c).dreg da - (s.nvAt c).dreg db))) ∧
   (∀ (c : NvIssue) dd v (s : State) j, s.issues c (.imm 3 dd v) j = true →
     ∃ fl, exec (.nvCmpi c dd v) s = .next (s.engineNext c { (s.nvAt c).issued (.imm 3 dd v) with fl := fl }) ∧
       (-2147483648 ≤ (s.nvAt c).dreg dd - (BitVec.ofNat 16 v).toInt → (s.nvAt c).dreg dd - (BitVec.ofNat 16 v).toInt ≤ 2147483647 →
         flagsOf fl (s.nvAt c).fl ((s.nvAt c).dreg dd - (BitVec.ofNat 16 v).toInt))))


/-- Loads and stores of declared words, with the pointer's post-update, and moves to and from special registers (R248, R249,
R253 to R255). -/
def Obligations.NovilLoadsStoresAndMoves : Prop :=
  (∀ (c : NvIssue) mem d ptr upd (s : State) j, s.issues c (.ldst false mem d ptr upd) j = true → mem < 2 →
    ((inRegion (imgRegions (s.image j.image)) mem ((s.nvAt c).p.getD ptr 0 % 32768)).isSome = true ∨
      (mem = 1 ∧ 0x7F00 ≤ (s.nvAt c).p.getD ptr 0 % 32768)) →
    exec (.nvLoad c mem d ptr upd) s = .next (s.engineNext c (
      let w := j.phys mem ((s.nvAt c).p.getD ptr 0 % 32768)
      let x := ((s.nvAt c).issued (.ldst false mem d ptr upd)).await (mem == 1) w
      let y := { x with d := lset x.d d (wrapS 32 (agetD (if mem = 1 then x.y else x.x) w 0 : Nat)) }
      if upd then y.bump ptr else y))) ∧
  (∀ (c : NvIssue) d ptr upd (s : State) j, s.issues c (.ldst false 2 d ptr upd) j = true →
    (s.nvAt c).p.getD ptr 0 % 8192 < imgCode (s.image j.image) →
    exec (.nvLoad c 2 d ptr upd) s = .next (s.engineNext c (
      let x := (s.nvAt c).issued (.ldst false 2 d ptr upd)
      let y := { x with d := lset x.d d (wrapS 32 (agetD x.pmem (8192 * x.page + (j.pBase + x.p.getD ptr 0 % 8192) % 8192) 0 : Nat)) }
      if upd then y.bump ptr else y))) ∧
  (∀ (c : NvIssue) mem d ptr upd (s : State) j r, s.issues c (.ldst true mem d ptr upd) j = true → mem < 2 →
    inRegion (imgRegions (s.image j.image)) mem ((s.nvAt c).p.getD ptr 0 % 32768) = some r → r.kind ≠ 0 →
    exec (.nvStore c mem d ptr upd) s = .next (s.engineNext c (
      let w := j.phys mem ((s.nvAt c).p.getD ptr 0 % 32768)
      let x := ((s.nvAt c).issued (.ldst true mem d ptr upd)).await (mem == 1) w
      let v := (BitVec.ofInt 32 ((s.nvAt c).dreg d)).toNat
      let y := if mem = 1 then { x with y := aputD x.y w v 0 } else { x with x := aputD x.x w v 0 }
      if upd then y.bump ptr else y))) ∧
  (∀ (x : Novil) k, (x.bump k).p = lset x.p k (if x.l.getD k 0 = 0 then (((x.p.getD k 0 : Int) + x.m.getD k 0) % 65536).toNat
    else (((x.b.getD k 0 : Int) + ((x.p.getD k 0 : Int) - (x.b.getD k 0 : Int) + x.m.getD k 0) % (x.l.getD k 0 : Int)) % 65536).toNat) ∧
    x.bump k = { x with p := (x.bump k).p }) ∧
  (∀ (c : NvIssue) d sp, nvMakes c (.nvMoveToSpecial c d sp) (.move false d sp) (fun x =>
    let w := (BitVec.ofInt 32 (x.dreg d)).toNat
    if sp < 8 then { x with p := lset x.p sp (w % 65536) }
    else if sp < 16 then { x with m := lset x.m (sp - 8) (BitVec.ofNat 16 w).toInt }
    else if sp < 24 then { x with b := lset x.b (sp - 16) (w % 65536) }
    else if sp < 32 then { x with l := lset x.l (sp - 24) (w % 65536) }
    else if sp < 34 then { x with lc := lset x.lc (sp - 32) (w % 65536) }
    else { x with fl := w % 64 })) ∧
  (∀ (c : NvIssue) d sp (s : State) j, s.issues c (.move true d sp) j = true →
    exec (.nvMoveFromSpecial c d sp) s = .next (s.engineNext c (
      let x := (s.nvAt c).issued (.move true d sp)
      let v : Int := if sp < 8 then (x.p.getD sp 0 : Nat) else if sp < 16 then x.m.getD (sp - 8) 0
        else if sp < 24 then (x.b.getD (sp - 16) 0 : Nat) else if sp < 32 then (x.l.getD (sp - 24) 0 : Nat)
        else if sp < 34 then (x.lc.getD (sp - 32) 0 : Nat) else if sp = 0x22 then (x.fl : Nat)
        else if sp = 0x23 then ((j.budget - x.slots : Nat) : Int) else if sp = 0x24 then (x.blk % 2 ^ 32 : Nat) else (j.id : Nat)
      { x with d := lset x.d d (wrapS 32 v) })))

/-- The accumulator instructions: exact modulo 2^72 with AV, and STA's rounding and saturation with SV (R251, R252,
R254); an LDA with a shift above 39 is an ILLEGAL fault.
MAC, MSU, MPY and MPYN with every choice of parallel loads: the product enters the accumulator exactly modulo 2^72, and the loads
bring the words at the pointers, which move on; a load outside what the job may read is a REGION fault, and a load from P memory
outside the loop buffer a fault (R251, R254, R255, R258). -/
def Obligations.NovilAccumulatorInstructions : Prop :=
  (∀ (c : NvIssue) (aa ab dd sh : Nat) (rm : Bool),
     let acc := fun (x : Novil) (v : Int) => { x with
       a := lset x.a aa (wrapS 72 v), fl := if wrapS 72 v = v then x.fl else (x.fl &&& 0xDF) ||| 32 }
     let shift := fun (v : Int) => if rm then v / 2 ^ sh else rneShift sh v
     nvMakes c (.nvClra c aa) (.acc 1 aa 0 0 false 0) (fun x => acc x 0) ∧
     nvMakes c (.nvAdda c aa ab) (.acc 2 aa 0 0 false ab) (fun x => acc x (x.areg aa + x.areg ab)) ∧
     nvMakes c (.nvSuba c aa ab) (.acc 3 aa 0 0 false ab) (fun x => acc x (x.areg aa - x.areg ab)) ∧
     (sh ≤ 39 → nvMakes c (.nvLda c aa dd sh) (.acc 4 aa dd sh false 0) (fun x => acc x (x.dreg dd * 2 ^ sh))) ∧
     nvMakes c (.nvShra c aa sh rm) (.acc 5 aa 0 sh rm 0) (fun x => acc x (shift (x.areg aa))) ∧
     nvMakes c (.nvNega c aa) (.acc 6 aa 0 0 false 0) (fun x => acc x (-x.areg aa)) ∧
     nvMakes c (.nvSta c aa dd sh rm) (.acc 0 aa dd sh rm 0) (fun x =>
       let v := shift (x.areg aa)
       let r := if v < -2147483648 then -2147483648 else if 2147483647 < v then 2147483647 else v
       { x with d := lset x.d dd r, fl := if r = v then x.fl else (x.fl &&& 0xEF) ||| 16 }) ∧
     (∀ (n : Nat) (v : Int), 2 * (rneShift n v * 2 ^ n - v) ≤ 2 ^ n ∧ 2 * (v - rneShift n v * 2 ^ n) ≤ 2 ^ n ∧
       ((2 * (rneShift n v * 2 ^ n - v) = 2 ^ n ∨ 2 * (v - rneShift n v * 2 ^ n) = 2 ^ n) → n ≠ 0 → rneShift n v % 2 = 0))) ∧
  ((∀ c : NvIssue,
     nvMacs c (.nvMac c) 0 (fun a p => a + p) ∧ nvMacs c (.nvMsu c) 1 (fun a p => a - p) ∧
     nvMacs c (.nvMpy c) 2 (fun _ p => p) ∧ nvMacs c (.nvMpyn c) 3 (fun _ p => -p)) ∧
   (∀ (c : NvIssue) (m : MacOp) fn cmd (s : State) j,
     (fn, cmd) ∈ [(0, Instr.nvMac c m), (1, Instr.nvMsu c m), (2, Instr.nvMpy c m), (3, Instr.nvMpyn c m)] → s.canonical = true →
     (s.issues c (.mac fn m) j = true →
       macReads (imgRegions (s.image j.image)) (imgCode (s.image j.image)) (s.nvAt c) m = false →
       ∃ t, exec cmd s = .next t ∧ s.jobStopped t c j 4) ∧
     (s.holds c (.mac fn m) j = true → (s.nvAt c).slots + 1 ≤ j.budget → m.pb = true → (s.nvAt c).buffered = false →
       ∃ t, exec cmd s = .next t ∧ s.jobStopped t c j 5)) ∧
   (∀ (c : NvIssue) aa dd sh (s : State) j, s.canonical = true → s.issues c (.acc 4 aa dd sh false 0) j = true → 39 < sh →
     ∃ t, exec (.nvLda c aa dd sh) s = .next t ∧ s.jobStopped t c j 3))

/-- DMA issues a transfer of its descriptor, charged to its job's allowance, whatever transfers are outstanding: it waits for those
that owe the descriptor's words, and with eight outstanding for the oldest. An inbound transfer brings its words when it
completes, which an event or DMAW or END shows; an outbound one takes its local words when it issues. A descriptor that its window
does not admit, or that would exceed an allowance, faults (R259 to R261, R270). -/
def Obligations.NovilTransfers : Prop :=
  (∀ (c : NvIssue) ptr (s : State) j, s.issues c (.dma ptr) j = true →
    let x := (s.nvAt c).issued (.dma ptr)
    let v : NvEnv := issueEnv c j (s.image j.image) (.dma ptr)
    let a := fun (k : Nat) => (x.p.getD ptr 0 + k) % 32768
    let z := fun (k : Nat) => (List.range k).foldl (fun (y : Novil) (i : Nat) => y.await true (j.phys 1 (a i))) x
    let w := fun (k : Nat) => agetD (z (k + 1)).y (j.phys 1 (a k)) 0
    (∀ k, k < 4 → 0x7F00 ≤ a k ∨ (inRegion v.rs 1 (a k)).isSome = true) →
    (∀ d, nvDesc (w 0) (w 1) (w 2) (w 3) = some d → windowOk v d = true → localOk v d = true →
      (d.lp = true → s.lpTakes c.u c.e = true) → ((d.win = 7 ∨ d.win = 8) → x.dma + 4 * d.count ≤ j.dmaBytes) → (d.win ≠ 7 → d.win ≠ 8 → x.win + 4 * d.count ≤ j.winBytes) →
      let q := if 8 ≤ (z 4).xfers.length then (z 4).finishOne else z 4
      let y := { q with
        dma := x.dma + (if d.win = 7 ∨ d.win = 8 then 4 * d.count else 0)
        win := x.win + (if d.win = 7 ∨ d.win = 8 then 0 else 4 * d.count) }
      (d.out = false → localConst v d = false → exec (.nvDma c ptr) s = .next ((s.lpTransfer v d).engineNext c { y with
        xfers := y.xfers ++ [⟨true, d.memY, j.phys (if d.memY then 1 else 0) d.local_, windowRead s v x.blk d⟩] })) ∧
      (d.out = true → exec (.nvDma c ptr) s = .next ((windowWrite (s.lpTransfer v d) v x.blk d (localWords v d y).1).engineNext c
        { (localWords v d y).2 with xfers := (localWords v d y).2.xfers ++ [⟨false, false, 0, []⟩] })) ∧
      (d.out = true → y.xfers = [] → localWords v d y = ((List.range d.count).map (fun i =>
        agetD (if d.memY then y.y else y.x) (j.phys (if d.memY then 1 else 0) (d.local_ + i)) 0), y))) ∧
    (∀ d, nvDesc (w 0) (w 1) (w 2) (w 3) = some d → windowOk v d = true → localOk v d = true → d.lp = true →
      d.out = true ∨ localConst v d = false → x.dma + 4 * d.count ≤ j.dmaBytes → s.lpTakes c.u c.e = false →
      exec (.nvDma c ptr) s = .next s) ∧
    (∀ d, s.lpTransfer v d = s ∨ (d.lp = true ∧ ∀ a, (s.lpTransfer v d).byteOf (.lp5 c.u) a = s.byteOf (.lp5 c.u) a)) ∧
    (s.canonical = true → nvDesc (w 0) (w 1) (w 2) (w 3) = none ∨
        (∃ d, nvDesc (w 0) (w 1) (w 2) (w 3) = some d ∧ (windowOk v d = false ∨ localOk v d = false)) →
      ∃ t, exec (.nvDma c ptr) s = .next t ∧ s.jobStopped t c j 7) ∧
    (∀ d, s.canonical = true → nvDesc (w 0) (w 1) (w 2) (w 3) = some d → windowOk v d = true → localOk v d = true →
      d.out = true ∨ localConst v d = false →
      ((d.win = 7 ∨ d.win = 8) ∧ j.dmaBytes < x.dma + 4 * d.count) ∨ (d.win ≠ 7 ∧ d.win ≠ 8 ∧ j.winBytes < x.win + 4 * d.count) →
      ∃ t, exec (.nvDma c ptr) s = .next t ∧ s.jobStopped t c j 2)) ∧
  (∀ (u : UnitId) e (s : State) t l, ((s.unit u).nv.engine e).xfers = t :: l → t.inbound = true →
    exec (.novilTransferComplete u e) s = .next (s.onNv u (fun v => v.setEngine e (if t.memY then { v.engine e with
      xfers := l, y := putWords (v.engine e).y t.at_ t.words } else { v.engine e with
      xfers := l, x := putWords (v.engine e).x t.at_ t.words })))) ∧
  (∀ (u : UnitId) e (s : State) t l, ((s.unit u).nv.engine e).xfers = t :: l → t.inbound = false →
    exec (.novilTransferComplete u e) s = .next (s.onNv u (fun v => v.setEngine e { v.engine e with xfers := l }))) ∧
  (∀ (m : Assoc Nat) k ws i, asorted m = true → agetD (putWords m k ws) i 0 =
    (if k ≤ i ∧ i < k + ws.length then ws.getD (i - k) 0 else agetD m i 0))

/-- What stops or faults a job: the budget, an illegal word, a fetch past the code, the loop buffer, the stack, a region, and
what the stop leaves (R248, R253 to R258, R270, R271).
A job starts with cleared registers and its parameters in its page once its block's inputs are there, and a graph switch
takes the committed graph at its block, whose declared bytes pace the engines (R243 to R247, R264, R265, R267, R272, R486). -/
def Obligations.NovilJobsStopAndGraphsSwitch : Prop :=
  ((∀ (c : NvIssue) (s : State) j, s.canonical = true → s.holds c (.control 0 0 0 0) j = true → j.budget < (s.nvAt c).slots + 1 →
     ∃ t, exec (.nvNop c) s = .next t ∧ s.jobStopped t c j 1) ∧
   (∀ (c : NvIssue) (s : State) j, s.canonical = true → c.e < 16 → c.fetch = .none → (s.nvAt c).job = some j.id →
     (s.unit c.u).nv.graph.find? (fun k => k.id == j.id) = some j → (s.nvAt c).pc < imgCode (s.image j.image) →
     nvDecode (agetD (s.nvAt c).pmem (8192 * (s.nvAt c).page + (j.pBase + (s.nvAt c).pc) % 8192) 0) = none →
     ∃ t, exec (.nvNop c) s = .next t ∧ s.jobStopped t c j 3) ∧
   (∀ (c : NvIssue) (s : State) j, s.canonical = true → c.e < 16 → (s.nvAt c).job = some j.id →
     (s.unit c.u).nv.graph.find? (fun k => k.id == j.id) = some j → imgCode (s.image j.image) ≤ (s.nvAt c).pc →
     ∃ t, exec (.nvNop c) s = .next t ∧ s.jobStopped t c j 4) ∧
   (∀ (c : NvIssue) cond target (s : State) j, s.canonical = true → s.holds c (.control 1 cond 0 target) j = true →
     (s.nvAt c).slots + 2 ≤ j.budget → (s.nvAt c).buffered = true →
     ∃ t, exec (.nvBr c cond target) s = .next t ∧ s.jobStopped t c j 3) ∧
   (∀ (c : NvIssue) cond target (s : State) j, s.canonical = true → s.issues c (.control 2 cond 0 target) j = true →
     condHolds (s.nvAt c).fl cond = true → 8 ≤ (s.nvAt c).stack.length →
     ∃ t, exec (.nvCall c cond target) s = .next t ∧ s.jobStopped t c j 6) ∧
   (∀ (c : NvIssue) (s : State) j, s.canonical = true → s.issues c (.control 3 0 0 0) j = true → (s.nvAt c).stack = [] →
     ∃ t, exec (.nvRet c) s = .next t ∧ s.jobStopped t c j 6) ∧
   (∀ (c : NvIssue) mem d ptr upd (s : State) j, s.canonical = true → s.issues c (.ldst true mem d ptr upd) j = true →
     (mem = 2 ∨ inRegion (imgRegions (s.image j.image)) mem ((s.nvAt c).p.getD ptr 0 % 32768) = none ∨
       ∃ r, inRegion (imgRegions (s.image j.image)) mem ((s.nvAt c).p.getD ptr 0 % 32768) = some r ∧ r.kind = 0) →
     ∃ t, exec (.nvStore c mem d ptr upd) s = .next t ∧ s.jobStopped t c j 4)) ∧
  ((∀ (u : UnitId) e (s : State) j, s.unitRuns u = true → ((s.unit u).nv.engine e).job = none → (s.unit u).nv.nextJob e = some j →
     (s.unit u).nv.mayStart j ((s.unit u).nv.engine e).blk = true → ((s.unit u).nv.engine e).blk ≤ (s.unit u).rd.commit →
     ((s.unit u).nv.engine e).blk ≤ (s.unit u).rd.chain + 1 → ((s.unit u).nv.engine e).blk ≤ (s.unit u).rd.lawBlk →
     32 * (((s.unit u).nv.engine e).blk + s.arb.lat) ≤ s.tb.sidx + 64 → (∀ g, (s.unit u).nv.next = some g → ((s.unit u).nv.engine e).blk < g.1) →
     ∃ t x, exec (.novilJobStart u e) s = .next t ∧ t = s.onNv u (fun v => v.setEngine e x) ∧ x.job = some j.id ∧
       x.pc = imgEntry (s.image j.image) j.entry ∧ x.d = List.replicate 16 0 ∧ x.a = List.replicate 4 0 ∧ x.p = List.replicate 8 0 ∧
       x.m = List.replicate 8 0 ∧ x.b = List.replicate 8 0 ∧ x.l = List.replicate 8 0 ∧ x.lc = [0, 0] ∧ x.fl = 0 ∧ x.slots = 0 ∧
       x.dma = 0 ∧ x.win = 0 ∧ x.stack = [] ∧ x.loops = [] ∧ x.xfers = [] ∧ x.x = ((s.unit u).nv.engine e).x ∧
       x.pmem = ((s.unit u).nv.engine e).pmem ∧ x.blk = ((s.unit u).nv.engine e).blk ∧
       x.y = putWords ((s.unit u).nv.engine e).y 0x7F00 ((List.range 256).map (fun i =>
         (s.unit u).rd.n 0x8100 1 (256 * j.id + i) (32 * ((s.unit u).nv.engine e).blk)))) ∧
   (∀ (u : UnitId) (s : State) g js, s.canonical = true → (s.unit u).nv.next = some (g, js) →
     (if s.unitRuns u then 32 * (g + s.arb.lat) ≤ s.tb.sidx + 64 ∧ (s.unit u).nv.endedAll (g - 1) = true else 32 * g ≤ s.tb.sidx) →
     ∃ t, exec (.nvGraphSwitch u) s = .next t ∧ (t.unit u).nv.graph = js ∧ (t.unit u).nv.since = g ∧ (t.unit u).nv.next = none ∧
       (∀ e, e < 16 → ((t.unit u).nv.engine e).page = 1 - ((s.unit u).nv.engine e).page ∧ ((t.unit u).nv.engine e).blk = g) ∧
       (∀ e, e < 16 → t.reg (.unit u) (0x20060204 + 0x10 * e) = 4096 ∧
         let sum := ((js.filter (fun j => j.engine == e)).map (·.dmaBytes)).sum
         t.reg (.unit u) (0x20060200 + 0x10 * e) * 32000000 < sum * s.rate + 32000000 ∧
           sum * s.rate ≤ t.reg (.unit u) (0x20060200 + 0x10 * e) * 32000000) ∧
       t.unit u.other = s.unit u.other ∧ s.sameBytes t ∧
       State.sameRegsBut ((List.range 32).map (fun i => (.unit u, 0x20060200 + 0x10 * (i / 2) + 4 * (i % 2)))) s t))

/-- The closing of input blocks: the record and the delivery to the units, in block order, and the commit to history, with every
finding of the checks (R19, R111, R113, R132, R208, R209, R322 to R325; where R19's finding arrives is the model's choice, log entry 179).
A block that is complete passes the feed chain: its output words are staged, its accumulators are cleared, its counts
are shown and the findings of its checks are recorded (R18, R135, R140, R141, R153, R188, R200). A command for which nothing is
due changes nothing. -/
def Obligations.InputBlocksAreClosedAndStaged : Prop :=
  ((∀ ue ce checks (s : State) n, s.canonical = true → s.closeDue = some n →
     ∃ t, exec (.blockClose ue ce checks) s = .next t ∧ t.st.closed = some n ∧
     (∃ r l, t.st.ir = r :: l ∧ r.block = n ∧ r.digest = inputDigest (s.admitted n (s.streamBlks n ue))) ∧
     (∀ u, s.unitRuns u = true → (s.unit u).rd.commit ≤ n → (s.unit u).rd.endBlk = none →
       (t.unit u).rd.inq = (s.unit u).rd.inq ++ [⟨n, s.admitted n (s.streamBlks n ue)⟩] ∧
       (.record u ∈ checks → natBit (t.reg (.unit u) 0x20090008) 1 = true)) ∧
     (∀ u, .index ∈ checks → natBit (t.reg (.unit u) 0x20090008) 4 = true ∧
       (s.unitRuns u = true → natBit (agetD (t.unit u).hl.blkFaults n 0) 4 = true)) ∧
     (∀ u, s.unitRuns u = false → t.unit u = s.unit u) ∧ (ue ≠ [] → natBit (t.reg .shared seStat) 4 = true) ∧
     (0 < ce → natBit (t.reg .shared seStat) 5 = true) ∧ (ue = [] → ce = 0 → checks = [] → t.regs = s.regs) ∧
     t.arb = s.arb ∧ t.ports = s.ports ∧ s.sameBytes t) ∧
   (∀ (u : UnitId) ce ue (s : State) b, s.canonical = true → s.unitRuns u = true →
     (s.unit u).rd.inq.find? (fun q => q.block == (s.unit u).rd.commit) = some b → (s.unit u).rd.commit ≤ (s.unit u).rd.chain →
     32 * ((s.unit u).rd.commit + s.arb.lat - 1) ≤ s.tb.sidx →
     ∃ t, exec (.historyCommit u ce ue) s = .next t ∧ (t.unit u).rd.commit = (s.unit u).rd.commit + 1 ∧
       (0 < ce → natBit (t.reg (.unit u) 0x20000004) 5 = true) ∧ (ue = true → natBit (t.reg (.unit u) 0x20000004) 1 = true) ∧
       (∀ q ∈ (t.unit u).rd.inq, (s.unit u).rd.commit < q.block) ∧ t.unit u.other = s.unit u.other ∧ t.arb = s.arb ∧
       (t.unit u).rd.acc = (s.unit u).rd.acc ∧ (t.unit u).rd.cfg = (s.unit u).rd.cfg ∧
       (asorted (s.unit u).rd.hist = true → asorted (s.unit u).rd.objs = true → ∀ o, o < 1024 →
         (t.unit u).rd.obj o = ((s.unit u).rd.commitObj b o).obj o ∧
         (∀ k, k / 8192 = o → agetD (t.unit u).rd.hist k 0 = agetD ((s.unit u).rd.commitObj b o).hist k 0)) ∧
       (∀ a j, a < 256 → j < 32 → agetD b.vals (32 * (1024 + a) + j) 0 ≠ 0 →
         agetD (t.unit u).rd.aux (1024 * a + (32 * b.block + j) % 1024) 0 = agetD b.vals (32 * (1024 + a) + j) 0))) ∧
  (∀ (u : UnitId) (checks : List ChainCheck) (s : State), s.canonical = true → s.unitRuns u = true → (s.unit u).chainReady = true →
     ∃ t o, exec (.feedChainBlock u checks) s = .next t ∧ (t.unit u).rd.chain = (s.unit u).rd.chain + 1 ∧
       (t.unit u).rd.staged = some o ∧ o.block = (s.unit u).rd.chain ∧ o.sil = (t.unit u).rd.groups ∧
       (∀ e ∈ (t.unit u).rd.acc, e.1 / 32768 ≠ (s.unit u).rd.chain % 4) ∧
       (∀ e ∈ (t.unit u).rd.busAcc, e.1 / 8192 ≠ (s.unit u).rd.chain % 4) ∧
       (t.unit u).rd.commit = (s.unit u).rd.commit ∧ (t.unit u).rd.hist = (s.unit u).rd.hist ∧
       t.reg (.unit u) 0x20000008 = (s.unit u).rd.chain % 2 ^ 32 ∧ t.reg (.unit u) 0x2000000C = (s.unit u).rd.chain / 2 ^ 32 % 2 ^ 27 ∧
       t.reg (.unit u) 0x20000018 = ((List.range 64).map (fun k => ((t.unit u).rd.tile k).units)).sum ∧
       t.reg (.unit u) 0x20000024 = ((List.range 64).map (fun k => ((t.unit u).rd.tile k).skip)).sum ∧
       (∀ k, k < 64 → t.reg (.unit u) (0x20001000 + 16 * k) = ((t.unit u).rd.tile k).units ∧
         t.reg (.unit u) (0x20001008 + 16 * k) = ((t.unit u).rd.tile k).skip) ∧
       (∀ f w, .cxUe f w ∈ checks → natBit (t.reg (.unit u) 0x20021004) 1 = true ∧
         natBit (agetD (t.unit u).hl.blkFaults (s.unit u).rd.chain 0) 1 = true) ∧
       (∀ f, .cxLate f ∈ checks → natBit (t.reg (.unit u) 0x20021004) 4 = true ∧
         natBit (agetD (t.unit u).hl.blkFaults (s.unit u).rd.chain 0) 2 = true) ∧
       (∀ f w, .bulkUe f w ∈ checks → natBit (t.reg (.unit u) 0x20020004) 2 = true ∧
         natBit (agetD (t.unit u).hl.blkFaults (s.unit u).rd.chain 0) 1 = true) ∧
       t.unit u.other = s.unit u.other ∧ t.arb = s.arb) ∧
  (∀ (s : State), (∀ ue ce checks, s.closeDue = none → exec (.blockClose ue ce checks) s = .next s) ∧
     (∀ u ce ue, s.unitRuns u = false ∨ (s.unit u).rd.chain < (s.unit u).rd.commit ∨
       s.tb.sidx < 32 * ((s.unit u).rd.commit + s.arb.lat - 1) ∨
       (s.unit u).rd.inq.find? (fun q => q.block == (s.unit u).rd.commit) = none → exec (.historyCommit u ce ue) s = .next s) ∧
     (∀ u checks, s.unitRuns u = false ∨ (s.unit u).chainReady = false → exec (.feedChainBlock u checks) s = .next s))


/-- Law records, pair-law updates and the lanes' products, with every finding of the checks: each works on its next record and
leaves the others alone (R85, R87, R98, R99, R109, R116, R118, R124, R125, R128 to R132). A law record holds its object's law,
enable, position and velocity. A record that is formed, kept or released gets the delays and gains of R116. A lane adds its 32
products, unless the pair is skipped or its record uncorrectable. -/
def Obligations.LawsPairsAndLanes : Prop :=
  (∀ (u : UnitId) (s : State), s.canonical = true → s.unitRuns u = true → (s.unit u).rd.lawBlk ≤ (s.unit u).rd.chain + 1 →
    (s.unit u).rd.lawsTaken = true →
    ∃ t, exec (.lawRecordBroadcast u) s = .next t ∧ t = s.onRd u (fun _ => (t.unit u).rd) ∧
      (let r := (s.unit u).rd
      let q := (t.unit u).rd
      let n := r.lawBlk
      q.lawBlk = n + 1 ∧ q.chain = r.chain ∧ q.commit = r.commit ∧ q.acc = r.acc ∧ q.hist = r.hist ∧ q.pairs = r.pairs ∧
      (∀ x, x < 64 → q.tile x = (r.tile x).rollTo n) ∧
      (∀ o, o < 1024 →
        let w := agetD q.laws (1024 * (n % 4) + o) {}
        w.block = n ∧ w.law = r.n 0x4000 2 o (32 * n) ∧ w.enable = (r.n 0x4000 1 o (32 * n) == 1) ∧
        (w.pos, w.hold) = objPosition r o n (r.kfNow n o) ∧
        (r.n 0x4000 9 o (32 * n) ≠ 1 → w.hold = false ∧
          w.pos = ⟨r.i 0x4000 0xA o (32 * n), r.i 0x4000 0xB o (32 * n), r.i 0x4000 0xC o (32 * n)⟩) ∧
        ((r.obj o).prev = none → w.vel = {}) ∧
        (∀ p, (r.obj o).prev = some p →
          w.vel = ⟨satS 32 (w.pos.x - p.x), satS 32 (w.pos.y - p.y), satS 32 (w.pos.z - p.z)⟩)) ∧
      (∀ key, key / 1024 ≠ n % 4 → agetD q.laws key {} = agetD r.laws key {}))) ∧
  (∀ (u : UnitId) t (c : PairCheck) (s : State) k, s.canonical = true → s.unitRuns u = true → t < 64 →
    let r := (s.unit u).rd.rollLaw t
    let m := (r.tile t).lawBlk
    r.nextLaw t m = some k → m < r.lawBlk → (m = r.chain ∨ (r.pair t k).valid = false ∨ k < (r.tile t).pos) →
    ∃ s', exec (.pairLawUpdate u t c) s = .next s' ∧
      (let q := (s'.unit u).rd
      let w := r.law m (recObj k)
      let formed := pairFormed r w (recFeed t k)
      let g := pairTarget r w (recObj k) (recFeed t k)
      let d := composedDelay r s.rate w (recObj k) (recFeed t k)
      let mode := pairMode r (recObj k) (32 * m)
      let e := m % 2
      let a := r.pair t k
      let old := a.valid && !a.release && !c.pairUe
      let p := q.pair t k
      p.valid = (formed || old) ∧
      (formed = true → old = false → p.new = true ∧ p.release = false ∧ p.mode = mode ∧ p.gain e = g ∧ p.gain (1 - e) = 0 ∧
        p.delay e = (clampEnd mode d none).1 ∧ p.delay (1 - e) = p.delay e ∧ p.clamp = (clampEnd mode d none).2 ∧ p.slope = false) ∧
      (formed = true → old = true →
        let st0 := a.delay (1 - e)
        let f := clampEnd mode d (if mode = 2 then none else some st0)
        let st := clampStart mode st0 f.1
        p.new = false ∧ p.mode = mode ∧ p.gain e = g ∧ p.gain (1 - e) = a.gain (1 - e) ∧ p.delay (1 - e) = st.1 ∧
        p.delay e = (if mode = 2 then f.1 else (slopeLimit st.1 f.1).1) ∧ p.clamp = (f.2 || st.2) ∧
        p.slope = (mode != 2 && (slopeLimit st.1 f.1).2)) ∧
      (formed = false → old = true → p.release = true ∧ p.mode = mode ∧ p.gain e = 0 ∧ p.gain (1 - e) = a.gain (1 - e) ∧
        p.delay (1 - e) = (clampStart mode (a.delay (1 - e)) (a.delay (1 - e))).1 ∧ p.delay e = p.delay (1 - e)) ∧
      (q.tile t).lawPos = k + 1 ∧ (q.tile t).clamp = (r.tile t).clamp + (if p.valid && p.clamp then 1 else 0) ∧
      (q.tile t).slope = (r.tile t).slope + (if p.valid && p.slope then 1 else 0) ∧
      (∀ x, x ≠ t → q.tile x = r.tile x) ∧ q.acc = r.acc ∧ q.hist = r.hist ∧ q.laws = r.laws ∧
      (∀ k', k' ≠ 16384 * t + k → agetD q.pairs k' {} = agetD r.pairs k' {}) ∧
      (0 < c.ce → natBit (s'.reg (.unit u) 0x20000004) 5 = true) ∧ (c.res = true → natBit (s'.reg (.unit u) 0x20000004) 0 = true) ∧
      (c.pairUe = true → natBit (s'.reg (.unit u) 0x20000004) 1 = true) ∧
      (c.ce = 0 → c.res = false → c.pairUe = false → s' = s.onRd u (fun _ => q))) ∧
      s'.unit u.other = s.unit u.other ∧ s'.arb = s.arb) ∧
  (∀ (u : UnitId) t (c : PairCheck) (s : State), s.unitRuns u = true → t < 64 →
    (let r := (s.unit u).rd.rollLaw t
    r.nextLaw t (r.tile t).lawBlk = none → exec (.pairLawUpdate u t c) s = .next (s.onRd u (fun _ => r)))) ∧
  (∀ (u : UnitId) t (c : PairCheck) (s : State) k, s.canonical = true → s.unitRuns u = true → t < 64 →
    (s.unit u).rd.chain < (s.unit u).rd.commit → (s.unit u).rd.lawsDone t (s.unit u).rd.chain = true →
    (s.unit u).rd.nextPair t = some k →
    ∃ s', exec (.lanePairRender u t c) s = .next s' ∧
      (let r := (s.unit u).rd
      let q := (s'.unit u).rd
      let n := r.chain
      let p := r.pair t k
      let ds := p.delay (1 - n % 2)
      let de := p.delay (n % 2)
      let base := 32 * (1024 * (n % 4) + recFeed t k)
      let skip := natBit (s.reg (.unit u) 0x20000000) 0 && pairSkips (r.obj (recObj k)).zrun p.mode ds de
      let y := fun (j : Nat) => pairAt (r.tap (recObj k) c.histUe) p.mode (32 * n) j ds de
      (q.tile t).pos = k + 1 ∧ (q.tile t).unitsNow = (r.tile t).unitsNow + (if p.mode = 0 then 1 else 2) ∧
      (c.pairUe = true → (q.pair t k).valid = false ∧ q.acc = r.acc) ∧
      (c.pairUe = false → skip = true → q.pair t k = { p with skipped := true } ∧ q.acc = r.acc ∧
        (q.tile t).skipNow = (r.tile t).skipNow + 1) ∧
      (c.pairUe = false → skip = false → q.pair t k = { p with skipped := false } ∧
        (∀ j, j < 32 → agetD q.acc (base + j) 0 =
          agetD r.acc (base + j) 0 + (y j).1 * ramp32 (p.gain (1 - n % 2)) (p.gain (n % 2)) j) ∧
        (∀ key, key < base ∨ base + 32 ≤ key → agetD q.acc key 0 = agetD r.acc key 0) ∧
        (∀ j, j < 32 → (y j).2 = true → natBit (s'.reg (.unit u) 0x20000004) 4 = true) ∧
        (c.histUe ≠ [] → natBit (s'.reg (.unit u) 0x20000004) 1 = true)) ∧
      (∀ x, x ≠ t → q.tile x = r.tile x) ∧ (∀ k', k' ≠ 16384 * t + k → agetD q.pairs k' {} = agetD r.pairs k' {}) ∧
      q.hist = r.hist ∧ q.objs = r.objs ∧ q.laws = r.laws ∧
      (0 < c.ce → natBit (s'.reg (.unit u) 0x20000004) 5 = true) ∧ (c.res = true → natBit (s'.reg (.unit u) 0x20000004) 0 = true) ∧
      (c.pairUe = true → natBit (s'.reg (.unit u) 0x20000004) 1 = true)) ∧
      s'.unit u.other = s.unit u.other ∧ s'.arb = s.arb)


/-- The health row of R210 that a unit's block has, and the claim that follows from it (R210, R211).
A complete block is closed with its seal, an incomplete one at the compute deadline with health at most 6 and a CRC field
of 0, and a late check failure reaches the arbiter (R134, R215, R216). -/
def Obligations.BlocksAreSealedWithTheirHealth : Prop :=
  (∀ (s : State) (u : UnitId) (n : Nat),
     let h := (s.unit u).hl
     ((s.healthAt u n = 0 ↔ h.enabled = false ∨ h.loaded = false ∨ h.loading = true) ∧
     (s.healthAt u n ≤ 2 ↔ s.healthAt u n = 0 ∨ h.resync.phase ≠ 0 ∨ h.need = true) ∧
     (s.healthAt u n ≤ 6 ↔ s.healthAt u n ≤ 2 ∨ agetD h.blkFaults n 0 % 64 ≠ 0) ∧
     (s.healthAt u n ≤ 12 ↔ s.healthAt u n ≤ 6 ∨ s.unitWarns u = true) ∧
     (s.healthAt u n ≤ 14 ↔ s.healthAt u n ≤ 12 ∨ h.returning = true) ∧
     s.healthAt u n ∈ [0, 2, 6, 12, 14, 15]) ∧
     ∀ v, s.claimAt u n v = 16 * min v ((s.unit u).rd.n 0x9000 4 u.toNat (32 * n)) + (s.unit u).rd.n 0x9000 3 u.toNat (32 * n)) ∧
  ((∀ (u : UnitId) (s : State) o, s.unitRuns u = true → (s.unit u).rd.staged = some o → o.block = (s.unit u).hl.blk →
     s.tb.sidx ≤ 32 * (o.block + s.arb.lat) →
     ∃ t, exec (.sealClose u) s = .next t ∧
       (let q : Seal := ⟨o.block, s.claimAt u o.block (s.healthAt u o.block), crc64 (sealBytes o)⟩
       (u = .a → t.arb.sealsA = q :: s.arb.sealsA.take 1 ∧ t.arb.sealsB = s.arb.sealsB) ∧
       (u = .b → t.arb.sealsB = q :: s.arb.sealsB.take 1 ∧ t.arb.sealsA = s.arb.sealsA) ∧
       (((s.unit u).rd.endBlk = none ∨ (s.unit u).rd.beginBlk = none) → (t.unit u).hl.blk = o.block + 1 ∧
         (t.unit u).hl.lastHealth = s.healthAt u o.block ∧ (t.unit u).hl.last = some q)) ∧
       (∀ e, (s.unit u).rd.endBlk = some e → e ≤ o.block + 1 → (t.unit u).rd.endBlk = none) ∧
       t.arb.staged u o.block = some o ∧ t.unit u.other = s.unit u.other ∧ s.sameBytes t) ∧
   (∀ (u : UnitId) cmd (s : State), s.canonical = true → s.unitRuns u = true → (s.unit u).rd.endBlk = none →
     (cmd = .computeDeadline u ∧ s.arb.run = true ∧ 32 * ((s.unit u).hl.blk + s.arb.lat) ≤ s.tb.sidx) ∨
       (cmd = .sealClose u ∧ (∃ o, (s.unit u).rd.staged = some o ∧ o.block = (s.unit u).hl.blk) ∧
         32 * ((s.unit u).hl.blk + s.arb.lat) < s.tb.sidx) →
     ∃ t q, exec cmd s = .next t ∧ (t.unit u).hl.blk = (s.unit u).hl.blk + 1 ∧ (t.unit u).hl.lastHealth ≤ 6 ∧
       (t.unit u).hl.last = some q ∧ q.block = (s.unit u).hl.blk ∧ q.crc = 0 ∧ natBit (t.reg (.unit u) 0x20090008) 2 = true ∧
       (s.unit u).hl.blk < (t.unit u).rd.chain ∧ (t.unit u).rd.staged = none ∧
       t.arb = { s.arb with reads := if s.arb.source = u then u else s.arb.reads } ∧ t.unit u.other = s.unit u.other) ∧
   (∀ (u : UnitId) (s : State) e, s.reportBlock u = some e → e ∈ (s.unit u).hl.healths ∧
     s.tb.sidx < 32 * (e.1 + s.arb.lat) + s.relC ∧ s.arb.reported u e.1 = false) ∧
   (∀ (u : UnitId) (s : State) e, s.arb.run = true → s.reportBlock u = some e →
     exec (.lateCheckReport u true) s = .next (s.onArb (fun a => match u with
       | .a => { a with latesA := (e.1, true) :: a.latesA.take 1 }
       | .b => { a with latesB := (e.1, true) :: a.latesB.take 1 }))) ∧
   (∀ (u : UnitId) (s : State) e, s.canonical = true → s.arb.run = true → s.reportBlock u = some e →
     ∃ t, exec (.lateCheckReport u false) s = .next t ∧
       t.arb = (match u with
         | .a => { s.arb with latesA := (e.1, false) :: s.arb.latesA.take 1 }
         | .b => { s.arb with latesB := (e.1, false) :: s.arb.latesB.take 1 }) ∧
       natBit (t.reg (.unit u) 0x20090008) 5 = true ∧
       t.reg (.unit u) 0x20090020 = (if e.2 ≤ 6 then s.reg (.unit u) 0x20090020 else
         min 0xFFFFFFFF (s.reg (.unit u) 0x20090020 + 1)) ∧ t.unit u.other = s.unit u.other))


/-- The bridge heartbeat: a seal record that follows the last one lengthens the run, and three missing records are a loss
(R25, R225).
The silence-group outputs of a decided block, and the arbiter's registers: cleared counters and a committed HOLD_LIMIT
(R162, R238, R527, R528). -/
def Obligations.HeartbeatSilenceAndArbiterRegisters : Prop :=
  ((∀ (u : UnitId) (s : State) q, (s.unit u.other).hl.last = some q → (∀ e ∈ (s.unit u).hl.heard.head?, e.2.block ≠ q.block) →
     ∃ t, exec (.heartbeatReceive u) s = .next t ∧ (t.unit u).hl.heard = (s.tb.sidx, q) :: (s.unit u).hl.heard.take 7 ∧
       (t.unit u).hl.hbLost = false ∧ (t.unit u).hl.hbRun =
         (if 16 ≤ (s.unit u).hl.hbRun ∨ ∀ e ∈ (s.unit u).hl.heard.head?, e.2.block + 1 = q.block then (s.unit u).hl.hbRun + 1 else 1) ∧
       (t.unit u).rd = (s.unit u).rd ∧ t.unit u.other = s.unit u.other ∧ t.regs = s.regs) ∧
   (∀ (u : UnitId) (s : State), s.canonical = true → s.unitRuns u = true → s.arb.run = true →
     (s.unit u).hl.hbFrom ≤ (s.tb.sidx - s.relC) / 32 - s.arb.lat →
     (∀ k, k < 3 → s.heardInTime u ((s.tb.sidx - s.relC) / 32 - s.arb.lat - k) = false) →
     ∃ t, exec (.heartbeatLoss u) s = .next t ∧ (t.unit u).hl.hbLost = true ∧ (t.unit u).hl.hbRun = 0 ∧
       (t.unit u).hl.hbFrom = (s.tb.sidx - s.relC) / 32 - s.arb.lat + 3 ∧ natBit (t.reg (.unit u) 0x200A0000) 0 = true ∧
       t.unit u.other = s.unit u.other ∧ t.arb = s.arb)) ∧
  ((∀ (s : State) n b l, s.canonical = true → s.arb.silQ = (n, b) :: l → 32 * (n + 1) + s.relC ≤ s.tb.sidx →
     ∃ t, exec .silenceGpioUpdate s = .next t ∧ t.arb.silQ = l ∧ t.arb.silLast = b ∧ t.arb.silIdx = 32 * (n - s.arb.lat) ∧
       t.regs = s.regs ∧ (∀ g, g < 24 → (t.ball g).sil = s.silLevel (32 * (n - s.arb.lat)) b g ∧ (t.ball g).func = (s.ball g).func ∧ (t.ball g).out = (s.ball g).out) ∧
       (∀ g, 24 ≤ g → t.ball g = s.ball g)) ∧
   (∀ s : State, ∃ t, exec (.arbClear (.firmware .mgmt) 1) s = .next t ∧
     t = { s with arb := t.arb } ∧ t.arb = { s.arb with
       switches := 0, holds := 0, outages := 0, outageSamples := 0, divergences := 0, stagingUe := 0, voteCe := 0 }) ∧
   (∀ n (s : State), s.acceptsWrite n (dkey 0x9010 0xC 0) 1 0 0 = true → ∃ t, exec (.arbClear (.host n) 1) s = .next t ∧
     t.out.head? = some (.decision n .ok) ∧ t.arb.switches = 0 ∧ t.arb.holds = 0 ∧ t.arb.outages = 0 ∧ t.arb.divergences = 0) ∧
   (∀ (s : State) v, s.canonical = true → 1 ≤ s.reg .shared 0x3003000C → s.reg .shared 0x3003000C ≤ 64 →
     ∃ t, exec (.arbHoldAtHiWrite .mgmt v) s = .next t ∧
       t.arb.holdCommit = some (s.reg .shared 0x3003000C, s.reg .shared 0x30030010 + 2 ^ 32 * (v % 2 ^ 27)) ∧
       t.reg .shared 0x30030014 = v % 2 ^ 27 ∧ State.sameRegsBut [(.shared, 0x30030014)] s t ∧ t.ua = s.ua) ∧
   (∀ (c : Core) v (s : State), c ≠ .mgmt → exec (.arbHoldAtHiWrite c v) s = .next (s.regFail c .shared 0x30030014 5 true)))


/-- The arbiter's decision on an output block by eligibility, claims and CRCs, with its holds, switches and divergences
(R217, R218, R221, R224).
What an output index releases: the selected unit's staged word, a held value that fades, or an exact zero after the end of
RENDER (R55, R206, R219, R220, R446). -/
def Obligations.ArbiterSelectsAndReleases : Prop :=
  (∀ (copies : Nat) (s : State), s.canonical = true → s.arb.run = true → 32 * (s.arb.decided + 1) + s.relC ≤ s.tb.sidx →
     s.arb.zeroAt (32 * (s.arb.decided + 1)) = false →
     ∃ t, exec (.arbiterDecision copies) s = .next t ∧ t.arb.decided = s.arb.decided + 1 ∧ s.sameBytes t ∧
       (let m := s.arb.decided + 1 - s.arb.lat
       let src := if 32 * (s.arb.decided + 1) = s.arb.startAt then s.arb.startSrc else s.arb.source
       let ea := eligible s.arb.sealsA s.arb.latesA m && decide (copies < 2)
       let eb := eligible s.arb.sealsB s.arb.latesB m && decide (copies < 2)
       (ea = false → eb = false → t.arb.selected = none ∧ t.arb.source = src ∧
         (s.arb.hold = none → natBit (t.reg .shared arbStat) 9 = true ∧ t.arb.holds = min 0xFFFFFFFF (s.arb.holds + 1))) ∧
       (ea = true → eb = false → t.arb.selected = some .a ∧ t.arb.source = .a) ∧
       (ea = false → eb = true → t.arb.selected = some .b ∧ t.arb.source = .b) ∧
       (∀ qa qb, ea = true → eb = true → heldSeal s.arb.sealsA m = some qa → heldSeal s.arb.sealsB m = some qb →
         (qa.crc = qb.crc → qb.claim < qa.claim → t.arb.selected = some .a ∧ t.arb.source = .a) ∧
         (qa.crc = qb.crc → qa.claim < qb.claim → t.arb.selected = some .b ∧ t.arb.source = .b) ∧
         (qa.crc = qb.crc → qa.claim = qb.claim → t.arb.selected = some src ∧ t.arb.source = src) ∧
         (qa.crc ≠ qb.crc → t.arb.selected = some src ∧ t.arb.divergences = min 0xFFFFFFFF (s.arb.divergences + 1) ∧
           natBit (t.reg .shared arbStat) 11 = true ∧ (t.unit src.other).hl.need = true)) ∧
       (t.arb.source ≠ src → natBit (t.reg .shared arbStat) 8 = true ∧
         t.arb.switches = min 0xFFFFFFFF (s.arb.switches + 1)) ∧
       (t.arb.source = src → t.arb.switches = s.arb.switches))) ∧
  ((∀ (s : State) u, s.canonical = true → s.arb.run = true → s.arb.nextOut / 32 ≤ s.arb.decided →
     s.arb.zeroAt s.arb.nextOut = false → s.arb.selected = some u → s.arb.chHold = [] → s.arb.repoint = [] → s.arb.hold = none →
     ∃ t, exec (.sampleRelease []) s = .next t ∧ t.arb.nextOut = s.arb.nextOut + 1 ∧ t.regs = s.regs ∧ t.ua = s.ua ∧ t.ub = s.ub ∧
       ∀ e, e < 1280 → t.releasedAt s.arb.nextOut e =
         s.arb.word u (s.arb.nextOut / 32 - s.arb.lat) (s.arb.nextOut % 32) e) ∧
   (∀ (s : State) h, s.canonical = true → s.arb.run = true → s.arb.nextOut / 32 ≤ s.arb.decided →
     s.arb.zeroAt s.arb.nextOut = false → s.arb.selected = none → s.arb.chHold = [] → s.arb.hold = some h →
     ∃ t, exec (.sampleRelease []) s = .next t ∧ t.arb.nextOut = s.arb.nextOut + 1 ∧ t.arb.lastVal = s.arb.lastVal ∧
       ∀ e, e < 1280 → t.releasedAt s.arb.nextOut e = heldAt (agetD s.arb.lastVal e 0) (s.arb.nextOut - h.start) h.limit) ∧
   (∀ (s : State) bad, s.canonical = true → s.arb.run = true → s.arb.nextOut / 32 ≤ s.arb.decided →
     s.arb.zeroAt s.arb.nextOut = true →
     ∃ t, exec (.sampleRelease bad) s = .next t ∧ t.arb.nextOut = s.arb.nextOut + 1 ∧ ∀ e, t.releasedAt s.arb.nextOut e = 0) ∧
   (∀ (v : Int) i limit, (i < limit → heldAt v i limit = v) ∧ (limit + 63 ≤ i → heldAt v i limit = 0) ∧
     (limit ≤ i → i < limit + 63 → 2 * (64 * heldAt v i limit - v * ((limit + 63 - i : Nat) : Int)) ≤ 64 ∧
       2 * (v * ((limit + 63 - i : Nat) : Int) - 64 * heldAt v i limit) ≤ 64)))

/-- Pending writes take effect when their apply index is reached, and no earlier, and a survey step whose index passes outside
RENDER is missed (R63, R65, R290).
The double-buffered tables switch at their rebuilds' indices, and a committed correction set becomes active at its index
(R73, R193, R195, R306). -/
def Obligations.PendingWritesAndTablesTakeEffect : Prop :=
  ((∀ (s : State) j, s.canonical = true → s.fePend = [j] → j.wins = true → ownStep j.key = false → j.apply ≤ s.tb.sidx →
     j.apply ≤ s.horizon j.key → (∀ q ∈ s.surv.runs, s.rendering = true ∨ q.outside = false ∨ s.tb.sidx ≤ q.at_) →
     keyIdx j.key ≠ 0xE000 → ∃ t, exec .writeApply s = .next t ∧ baseVal t.dict j.key = j.val ∧ t.fePend = [] ∧
       (∀ k, k ≠ j.key → keyIdx k ≠ 0xE000 → baseVal t.dict k = baseVal s.dict k) ∧ t.tb = s.tb ∧ s.sameBytes t) ∧
   (∀ (s : State) u j, s.canonical = true → (s.unit u).rd.pend = [j] → asorted (s.unit u).rd.cfg = true → j.setsValue = true →
     unitStep j.key = false → (j.key = dkey 0x9000 6 u.toNat → s.rendering = true) → j.wins = true → s.unitRuns u = true →
     j.apply ≤ 32 * (s.unit u).hl.blk →
     ∃ t, exec .writeApply s = .next t ∧ baseVal (t.unit u).rd.cfg j.key = j.val ∧ (t.unit u).rd.pend = [] ∧
       ∀ k, k ≠ j.key → baseVal (t.unit u).rd.cfg k = baseVal (s.unit u).rd.cfg k) ∧
   (∀ (s : State), (∀ j ∈ s.fePend, s.horizon j.key < j.apply) →
     (∀ u, ∀ j ∈ (s.unit u).rd.pend, s.tb.sidx < j.apply ∧ 32 * (s.unit u).hl.blk < j.apply) →
     (∀ q ∈ s.surv.runs, s.rendering = true ∨ q.outside = false ∨ s.tb.sidx ≤ q.at_) →
     ∃ t, exec .writeApply s = .next t ∧ t.dict = s.dict ∧ t.fePend = s.fePend ∧ t.regs = s.regs) ∧
   (∀ (s : State) q, s.canonical = true → s.rendering = false → s.fePend = [] → s.ua.rd.pend = [] → s.ub.rd.pend = [] →
     s.surv.runs = [q] → q.outside = true → q.at_ < s.tb.sidx → q.pos < 64 →
     ∃ t, exec .writeApply s = .next t ∧ t.surv.runs = [] ∧ ∀ c, c < 4 → baseVal t.dict (dkey 0xA100 1 (4 * q.pos + c)) = .num 3) ∧
   (∀ (s : State) u, (∀ j ∈ (s.unit u).rd.pend, s.tb.sidx < j.apply ∧ 32 * (s.unit u).hl.blk < j.apply) →
     ∃ t, exec .writeApply s = .next t ∧ (t.unit u).rd.cfg = (s.unit u).rd.cfg ∧ (t.unit u).rd.pend = (s.unit u).rd.pend)) ∧
  ((∀ (s : State) j, s.canonical = true → s.fePend = [j] → isLayoutKey j.key = true → j.wins = true → j.apply ≤ s.tb.sidx →
     ∃ t, exec .layoutSwitch s = .next t ∧ t.fePend = [] ∧ baseVal t.dict (dkey 0x7000 4 0) = .num j.apply ∧
       (∀ u, s.unitRuns u = true → t.unit u = s.unit u) ∧ t.regs = s.regs ∧ s.sameBytes t) ∧
   (∀ (s : State) b, s.canonical = true → (∃ p, p < 5 ∧ b ∈ s.rebuildsOf p) → (∀ p, p < 5 → ∀ c ∈ s.rebuildsOf p, b ≤ c) →
     32 * b ≤ s.tb.sidx → ∃ t, exec .filterSwitch s = .next t ∧
       (∀ p, p < 5 → b ∈ s.rebuildsOf p → b ∉ t.rebuildsOf p ∧ (t.port p).exact = (s.filterAt p (32 * b)).exact ∧
         (t.port p).hash = (s.filterAt p (32 * b)).hash ∧ (t.port p).groups = (s.filterAt p (32 * b)).groups) ∧
       (∀ p, p < 5 → b ∉ s.rebuildsOf p → t.rebuildsOf p = s.rebuildsOf p ∧ t.port p = s.port p) ∧
       baseVal t.dict (dkey 0x3120 1 0) = .num (32 * b : Nat) ∧ t.regs = s.regs ∧ t.ua = s.ua ∧ t.ub = s.ub) ∧
   (∀ (s : State) j img, s.canonical = true → s.fePend = [j] → j.key = dkey 0x6200 2 (keyElem j.key) → j.wins = true →
     j.apply ≤ s.tb.sidx → s.dam.csStage = some (keyElem j.key, img) → keyElem j.key < 32 →
     ∃ t, exec .csSwitch s = .next t ∧ agetD t.dam.cs (keyElem j.key) {} = { image := img, at_ := some (j.apply / 32) } ∧
       t.dam.csStage = none ∧ t.fePend = [] ∧ baseVal t.dict (dkey 0x6200 4 (keyElem j.key)) = .num 1 ∧
       baseVal t.dict (dkey 0x6200 8 (keyElem j.key)) = .num j.apply ∧ s.sameBytes t) ∧
   (∀ (u : UnitId) (s : State), exec (.csRebuildDone u) s = .next (s.setReg (.unit u) 0x2002101C 0xFF)))


/-- RENDER begins and ends at the apply index of its write, and the rate changes outside it (R50, R58, R59, R445, R446,
R551, R552).
A unit reads the journal ring record by record; a number that does not follow is its journal-gap fault (R20, R462). -/
def Obligations.RenderingAndTheUnitsJournal : Prop :=
  ((∀ (s : State) j, s.renderDue = some j → j.val = .num 1 → s.sub.power = .ready → s.sub.transition = none → s.arb.run = false →
     s.ua.rd.endBlk = none → s.ub.rd.endBlk = none →
     ∃ t, exec .renderBegin s = .next t ∧ t.sub.power = .render ∧ t.arb.run = true ∧ t.tb.offset = 0 ∧
       t.arb.source = (if t.ua.hl.enabled && t.ua.hl.loaded then .a else .b) ∧
       t.arb.nextOut = 32 * (j.apply / 32 + (s.consumeFe j).latency) ∧ t.arb.decided = j.apply / 32 + (s.consumeFe j).latency - 1 ∧ t.arb.hold = none ∧
       (∀ u, (t.unit u).hl.blk = j.apply / 32 ∧ (t.unit u).rd.commit = j.apply / 32 ∧ (t.unit u).rd.lawBlk = j.apply / 32 ∧
         (t.unit u).rd.chain = j.apply / 32 ∧ (t.unit u).rd.hist = [] ∧ (t.unit u).rd.acc = [] ∧
         (t.unit u).rd.feeds = (s.unit u).rd.feeds.map (fun e => (e.1, e.2.kept)) ∧
         (t.unit u).rd.kf = (s.unit u).rd.kf ∧ (t.unit u).rd.slots = (s.unit u).rd.slots) ∧ s.sameBytes t) ∧
   (∀ (s : State) j, s.renderDue = some j → j.val = .num 1 → s.sub.power = .render →
     ∃ t, exec .renderBegin s = .next t ∧ t.sub.power = .render ∧ t.ua = s.ua ∧ t.ub = s.ub ∧ t.arb = s.arb ∧
       (s.mayLog 4 = true → t.logged 4)) ∧
   (∀ (s : State) j, s.renderDue = some j → j.val = .num 0 → s.sub.power = .render → s.ua.rd.endBlk = none → s.ub.rd.endBlk = none →
     s.ua.hl.blk < j.apply / 32 → s.ub.hl.blk < j.apply / 32 →
     ∃ t, exec .renderEnd s = .next t ∧ t.sub.power = .ready ∧ t.tb.offset = 0 ∧ t.arb.endAt = some (32 * (j.apply / 32 + s.arb.lat)) ∧
       t.arb.run = s.arb.run ∧ (∀ u, s.unitRuns u = true → (t.unit u).rd.endBlk = some (j.apply / 32)) ∧
       (∀ q ∈ t.surv.runs, q.at_ < 32 * (j.apply / 32)) ∧ s.sameBytes t) ∧
   (∀ (s : State) v, s.canonical = true → s.rateForbids v = false → v = 48000 ∨ v = 96000 → v ≠ s.rate →
     ∃ t, exec (.rateChange v) s = .next t ∧ baseVal t.dict (dkey 0x2001 0 0) = .num v ∧ t.tb.offset = 0 ∧ t.arb.released = [] ∧
       t.st.ir = [] ∧ t.ua.rd.kf = [] ∧ t.ub.rd.kf = [] ∧ (∀ k, ((agetD t.dam.kf k {}).items) = []) ∧
       t.tb.sec = s.tb.sec ∧ t.tb.ns = s.tb.ns ∧ s.sameBytes t) ∧
   (∀ (s : State) v, s.rateForbids v = true ∨ (v ≠ 48000 ∧ v ≠ 96000) → exec (.rateChange v) s = .next s)) ∧
  ((∀ (u : UnitId) (s : State) j, (s.unit u).hl.loaded = true → natBit (s.reg .shared 0x30050000) 0 = true →
     s.sub.journal.find? (fun q => decide ((s.unit u).rd.jrd < q.jseq)) = some j → j.jseq = (s.unit u).rd.jrd + 1 →
     ∃ t, exec (.journalSlotRead u) s = .next t ∧ (t.unit u).rd.jrd = j.jseq ∧ t.unit u.other = s.unit u.other ∧
       t.sub = s.sub ∧ t.fePend = s.fePend ∧
       (j.kind ≠ 1 → keyIdx j.key ≠ 0x4100 → keyIdx j.key ≠ 0x4000 → keyIdx j.key ≠ 0x6200 → keyIdx j.key ≠ 0x8010 →
         (t.unit u).rd.pend = (s.unit u).rd.pend ++ [j] ∧ t.regs = s.regs) ∧
       (j.kind ≠ 1 → keyIdx j.key = 0x4100 → (t.unit u).rd.kfPend = (s.unit u).rd.kfPend ++ [j] ∧ (t.unit u).rd.pend = (s.unit u).rd.pend) ∧
       (j.kind = 1 → (t.unit u).rd.pend = (s.unit u).rd.pend ∧ (t.unit u).rd.upload =
         (if j.key = dkey 0x6200 1 (keyElem j.key) then (s.unit u).rd.upload.take j.off ++ j.part else (s.unit u).rd.upload))) ∧
   (∀ (u : UnitId) (s : State) j, s.canonical = true → (s.unit u).hl.loaded = true → natBit (s.reg .shared 0x30050000) 0 = true →
     s.sub.journal.find? (fun q => decide ((s.unit u).rd.jrd < q.jseq)) = some j → j.jseq ≠ (s.unit u).rd.jrd + 1 →
     ∃ t, exec (.journalSlotRead u) s = .next t ∧ (t.unit u).rd.jrd = j.jseq ∧ natBit (t.reg (.unit u) 0x20090008) 3 = true ∧
       (s.unitRuns u = true → natBit (agetD (t.unit u).hl.blkFaults (s.unit u).hl.blk 0) 3 = true)))


/-- Resynchronisation: its start, its phases with the state they copy, and their length (R227 to R230).
The end of a resynchronisation: sixteen matching seals, a failed attempt, an abort; and PROMOTE and UPDATE at their apply
blocks (R212, R231, R232, R234). A command for which nothing is due changes nothing. -/
def Obligations.ResynchronisationRunsItsPhases : Prop :=
  ((∀ (u : UnitId) (s : State), (s.unit u).hl.need = true → s.unitRuns u = true → (s.unit u).hl.resync.phase = 0 →
     ∃ t, exec (.resyncStart u) s = .next t ∧ (t.unit u).hl.need = false ∧ (t.unit u).hl.returning = false ∧
       ((t.unit u).hl.resync.phase = 15 ∨ (t.unit u).hl.resync.phase = 1) ∧
       ((t.unit u).hl.resync.phase = 1 → (t.unit u).hl.resync.first = (t.unit u).hl.blk) ∧
       (s.unitRuns u.other = false → (t.unit u).hl.resync.phase = 15 ∧ (t.unit u).rd = (s.unit u).rd) ∧
       t.unit u.other = s.unit u.other ∧ t.regs = s.regs ∧ t.arb = s.arb) ∧
   (∀ (u : UnitId) (s : State), s.unitRuns u = true → (s.unit u).hl.resync.phase = 15 → s.phase1Ok u = true →
     ∃ t, exec (.resyncPhaseAdvance u) s = .next t ∧ (t.unit u).hl.resync.phase = 1 ∧
       (t.unit u).hl.resync.first = (s.unit u).hl.blk ∧ (t.unit u).hl.resync.attempts = (s.unit u).hl.resync.attempts) ∧
   (∀ (u : UnitId) (s : State) p, s.unitRuns u = true → (s.unit u).hl.resync.phase = p → 1 ≤ p → p ≤ 7 →
     (p = 7 → s.resyncBulk u ≤ (s.unit u).hl.resync.bMax) → sameBlock (s.unit u.other) (s.unit u) = true →
     (s.unit u).hl.resync.first + (s.unit u).hl.resync.chunks < (s.unit u).hl.blk →
     ∃ t, exec (.resyncPhaseAdvance u) s = .next t ∧ t.unit u.other = s.unit u.other ∧ t.arb = s.arb ∧
       (let x := (s.unit u).hl.resync
       let y := (t.unit u).hl.resync
       let src := s.unit u.other
       let n := (s.unit u).hl.blk
       let len := if p = 6 then s.waitLen (s.resyncBulk u) else s.phaseLen src p
       let c := if p = 2 ∨ p = 4 then x.chunks + 1 else min len (n - x.first)
       let w := if s.rate = 96000 then 8 else 16
       (p ≠ 1 ∨ c < len → t.regs = s.regs) ∧ (p = 1 → len ≤ c → t.regs = (s.paceEngines u src.nv.graph).regs) ∧
       (c < len → y.phase = p ∧ y.first = x.first ∧ y.chunks = c) ∧
       (len ≤ c → y.phase = (if p = 3 ∧ s.phaseLen src 4 = 0 then 5 else p + 1) ∧ y.first = n ∧ y.chunks = 0 ∧ y.matchRun = 0) ∧
       (p = 3 ∨ p = 6 ∨ (c < len ∧ p ≠ 2 ∧ p ≠ 4) → (t.unit u).rd = (s.unit u).rd ∧ (t.unit u).nv = (s.unit u).nv) ∧
       (p = 1 → len ≤ c → (t.unit u).rd.cfg = src.rd.cfg ∧ (t.unit u).rd.layout = src.rd.layout ∧
         (t.unit u).rd.slots = src.rd.slots ∧ (t.unit u).nv.graph = src.nv.graph) ∧
       (p = 2 → x.chunks = 0 → asorted (s.unit u).rd.objs = true → ∀ o, o < 1024 → agetD (t.unit u).rd.objs o {} =
         (agetD src.rd.objs o {}).copied (agetD (s.unit u).rd.objs o {})) ∧
       (p = 2 → x.chunks = 1 → (t.unit u).rd.kf = src.rd.kf ∧ (t.unit u).rd.laws = src.rd.laws) ∧
       (p = 2 → 2 ≤ x.chunks → ∀ k, agetD (t.unit u).rd.pairs k {} =
         (if w * (x.chunks - 2) ≤ k / 16384 ∧ k / 16384 < w * (x.chunks - 1) then agetD src.rd.pairs k {}
          else agetD (s.unit u).rd.pairs k {})) ∧
       (p = 7 → len ≤ c → asorted (s.unit u).rd.buses = true → ∀ b, b < 256 →
         agetD (t.unit u).rd.buses b {} = (agetD src.rd.buses b {}).tail (agetD (s.unit u).rd.buses b {})))) ∧
   (∀ (u : UnitId) (s : State), s.unitRuns u = true → (s.unit u).hl.resync.phase = 7 ∨ (s.unit u).hl.resync.phase = 8 →
     (s.unit u).hl.resync.bMax < s.resyncBulk u →
     ∃ t, exec (.resyncPhaseAdvance u) s = .next t ∧ (t.unit u).hl.resync.phase = 6 ∧ (t.unit u).hl.resync.matchRun = 0 ∧
       (t.unit u).hl.resync.first = (s.unit u).hl.blk ∧ (t.unit u).hl.resync.bMax = s.resyncBulk u)) ∧
  ((∀ (u : UnitId) (s : State) qa qb, s.unitRuns u = true → (s.unit u).hl.resync.phase = 8 →
     (s.unit u).hl.resync.judge ≤ s.arb.decided - s.arb.lat → s.arb.sealOfA = some qa → s.arb.sealOfB = some qb → qa.crc = qb.crc →
     s.sourceElig u = true →
     ∃ t, exec (.sealMatch u) s = .next t ∧ t.unit u.other = s.unit u.other ∧
       ((s.unit u).hl.resync.matchRun < 15 → (t.unit u).hl.resync.phase = 8 ∧
         (t.unit u).hl.resync.matchRun = (s.unit u).hl.resync.matchRun + 1 ∧
         (t.unit u).hl.resync.judge = s.arb.decided - s.arb.lat + 1) ∧
       (15 ≤ (s.unit u).hl.resync.matchRun → (t.unit u).hl.resync.phase = 0 ∧ (t.unit u).hl.returning = true ∧
         (t.unit u).hl.retSeq = s.sub.jseq ∧ (t.unit u).hl.resyncDone = min 65535 ((s.unit u).hl.resyncDone + 1))) ∧
   (∀ (u : UnitId) (s : State), s.canonical = true → s.unitRuns u = true → (s.unit u).hl.resync.phase = 8 →
     (s.unit u).hl.resync.judge ≤ s.arb.decided - s.arb.lat →
     s.arb.sealOfA.map (·.crc) ≠ s.arb.sealOfB.map (·.crc) → s.sourceElig u = true →
     ∃ t, exec (.sealMatch u) s = .next t ∧ (t.unit u).hl.resyncFails = min 65535 ((s.unit u).hl.resyncFails + 1) ∧
       ((s.unit u).hl.resync.attempts < 2 → (t.unit u).hl.resync.phase = 2 ∧
         (t.unit u).hl.resync.attempts = (s.unit u).hl.resync.attempts + 1 ∧ (t.unit u).hl.enabled = true) ∧
       (2 ≤ (s.unit u).hl.resync.attempts → (t.unit u).hl.resync.phase = 0 ∧ (t.unit u).hl.enabled = false ∧
         natBit (t.reg (.unit u) 0x20090008) 7 = true)) ∧
   (∀ (u : UnitId) (s : State), s.sourceElig u = false → exec (.sealMatch u) s = .next s) ∧
   (∀ (u : UnitId) (s : State), (s.unit u).hl.resync.phase ≠ 0 → (s.unit u).hl.resync.aborted = false →
     s.ua.hl.hbLost = true ∨ s.ub.hl.hbLost = true ∨ ((match u with | .a => s.arb.eligB | .b => s.arb.eligA) = false ∧
       (s.unit u).hl.resync.start + s.arb.lat ≤ s.arb.decided) →
     exec (.resyncAbort u) s = .next (s.setResync u { phase := 15, start := (s.unit u).hl.resync.start
                                                      attempts := (s.unit u).hl.resync.attempts, aborted := true })) ∧
   (∀ (u : UnitId) (s : State) j, dueOne (s.unit u) (dkey 0x9000 5 u.toNat) = some j →
     ∃ t, exec (.promoteApply u) s = .next t ∧ (∀ q ∈ (t.unit u).rd.pend, q.jseq ≠ j.jseq) ∧
       (t.unit u).hl.returning = ((s.unit u).hl.returning && decide (j.jseq < (s.unit u).hl.retSeq)) ∧
       (t.unit u).hl.resync = (s.unit u).hl.resync ∧ t.unit u.other = s.unit u.other ∧ t.regs = s.regs) ∧
   (∀ (u : UnitId) (s : State) j, dueOne (s.unit u) (dkey 0x9030 2 u.toNat) = some j →
     ∃ t, exec (.updateApply u) s = .next t ∧ (t.unit u).hl.loaded = false ∧ (t.unit u).hl.loading = true ∧
       (t.unit u).hl.update = 1 ∧ (t.unit u).hl.resync.phase = 0 ∧ (∀ q ∈ (t.unit u).rd.pend, q.jseq ≠ j.jseq) ∧
       s.unitRuns u.other = t.unitRuns u.other ∧ t.unit u.other = s.unit u.other) ∧
   (∀ (u : UnitId) (s : State), ((s.unit u).hl.need = false ∨ s.unitRuns u = false ∨ (s.unit u).hl.resync.phase ≠ 0 →
       exec (.resyncStart u) s = .next s) ∧
     (s.unitRuns u = false ∨ (s.unit u).hl.resync.phase = 0 → exec (.resyncPhaseAdvance u) s = .next s) ∧
     (s.unitRuns u = false ∨ (s.unit u).hl.resync.phase ≠ 8 → exec (.sealMatch u) s = .next s) ∧
     ((s.unit u).hl.resync.phase = 0 ∨ (s.unit u).hl.resync.aborted = true → exec (.resyncAbort u) s = .next s) ∧
     (dueOne (s.unit u) (dkey 0x9000 5 u.toNat) = none → exec (.promoteApply u) s = .next s) ∧
     (dueOne (s.unit u) (dkey 0x9030 2 u.toNat) = none → exec (.updateApply u) s = .next s)))

/-- Messages: a wrong tag is counted and nothing answered; every authenticated message sets its session's peer and renews an open
session's lease; a repeated number is answered as before, an older one with SEQUENCE, a session that is not open or has another
epoch with AUTH, operations that do not add up with TYPE; a reply carries the tag of its session and leaves where its port sends
(R347, R348, R350 to R352, R356). `cmd` is the row of the message's first operation. -/
def Obligations.MessagesAreAuthenticatedAndNumbered : Prop :=
  ∀ (src : Peer) (dg : List Byte) (cmd : Instr) (code : Nat) (s : State),
    (cmd, code) ∈ ([(.dmlRead src dg 0, 1), (.dmlWrite src dg 0, 2), (.dmlSubscribe src dg 0, 4), (.dmlUnsubscribe src dg 0, 5),
      (.dmlLock src dg 0, 6), (.dmlUnlock src dg 0, 7), (.dmlDomainWrite src dg 0, 8), (.dmlDomainRead src dg 0, 9),
      (.dmlDomainAbort src dg 0, 0xA), (.dmlKeepalive src dg 0, 0xB), (.dmlJournalRead src dg 0, 0xC),
      (.dmlClose src dg 0, 0xE)] : List (Instr × Nat)) →
    s.frontRuns = true → s.canonical = true → s.dam.cur = none → startsWith dg code = true → s.takes 1 src dg = true →
    (s.tagOk dg = false → exec cmd s = .next (s.countFe 0xC000 3 0 1)) ∧
    (s.tagOk dg = true → sessionIds.all (fun k => !s.leaseDue k s.tb.sidx) = true →
      let n := fieldAt dg 4 1
      let y := s.sess n
      let seq := fieldAt dg 16 8
      let replied := fun (t : State) (cred : List Byte) (r : Reply) =>
        (t.txOn src.port = true → t.out.head? = some (.reply r (r.datagram cred))) ∧ (t.sess n).peer = src ∧
        (y.isOpen = true → (t.sess n).xEnd = s.tb.sidx + s.feN 0xC100 4 n * s.rate / 1000)
      let c := agetD s.dam.statusCount src.port (s.tb.us, 0)
      (y.isOpen = false ∨ y.epoch ≠ fieldAt dg 8 8 → 1000000 ≤ s.usSince c.1 ∨ c.2 < 100 → ∃ t, exec cmd s = .next t ∧
        replied t [] ⟨8, n, .auth, 0, 0, seq, [], s.dmlPort, src⟩ ∧ t.dict = s.dict ∧ s.sameBlock t) ∧
      (y.isOpen = true → y.epoch = fieldAt dg 8 8 →
        (∀ k, y.kept.find? (fun e => e.1 == seq) = some k → ∃ t, exec cmd s = .next t ∧
          replied t (s.cred n) { k.2 with udp := s.dmlPort, dest := src } ∧ t.dict = s.dict ∧ t.sub = s.sub ∧ s.sameBlock t) ∧
        (y.kept.find? (fun e => e.1 == seq) = none → seq ≤ y.seqHigh → ∃ t, exec cmd s = .next t ∧
          replied t (s.cred n) ⟨2, n, .sequence, y.epoch, y.txSeq, seq, [], s.dmlPort, src⟩ ∧ t.dict = s.dict ∧
          t.sub = s.sub ∧ s.sameBlock t) ∧
        (y.kept.find? (fun e => e.1 == seq) = none → y.seqHigh < seq → msgStatus dg (opsOf dg) ≠ .ok → ∃ t, exec cmd s = .next t ∧
          replied t (s.cred n) ⟨2, n, msgStatus dg (opsOf dg), y.epoch, y.txSeq, seq, [], s.dmlPort, src⟩ ∧
          (t.sess n).seqHigh = seq ∧ t.dict = s.dict ∧ t.sub = s.sub ∧ s.sameBlock t)))

/-- READ, WRITE and JOURNAL_READ, and the ATOMIC message that is refused (R357 to R359, R366); the write that restarts the management subsystem is not answered (R454,
log entry 177). -/
def Obligations.OperationsReadAndWriteEntries : Prop :=
  (∀ src dg i c o e (s : State), s.opRuns src dg i 0x01 c o = true → (addrOf o.body).entry = some e → e.acc ≠ .wo → e.ty ≠ .dom →
    (addrOf o.body).count * e.ty.bytes ≤ 1024 →
    let u := s.atOp src dg i
    ∃ t, exec (.dmlRead src dg i) s = .next t ∧ answered t c (okResult 0x01
        (beBytes 1 e.ty.code ++ [0, 0, 0] ++ u.readValues (addrOf o.body) e c.x (natBit o.flags 0))) ∧
      t.dict = u.dict ∧ t.fePend = u.fePend ∧ t.sub = u.sub ∧ u.sameBlock t) ∧
  (∀ src dg i c o e v a (s : State), s.opRuns src dg i 0x02 c o = true → (addrOf o.body).entry = some e →
    (addrOf o.body).count = 1 → fieldAt o.body 8 1 = e.ty.code → decodeVal e.ty (o.body.drop 20) = some v →
    let u := s.atOp src dg i
    let key := (addrOf o.body).key
    key ≠ dkey 0xD100 5 0 → u.modeTest c.session key = .ok → u.writeTest { sess := c.session, x := c.x, key := key, val := v, apply := fieldAt o.body 12 8 } = (.ok, a) →
    ∃ t lost, exec (.dmlWrite src dg i) s = .next t ∧ answered t c ⟨0x02, .ok, true, true, lost,
        beBytes 8 (if isJournaled key then u.sub.jseq else 0) ++ beBytes 8 a ++ beBytes 4 0⟩ ∧
      (isJournaled key = false → lost = false) ∧
      (e.acc = .rwa → 0x4000 ≤ keyIdx key → keyIdx key < 0x6000 → ∃ j, t.sub.journal.getLast? = some j ∧ j.jseq = u.sub.jseq ∧
        j.apply = a ∧ j.session = c.session ∧ j.key = key ∧ j.val = v ∧ lost = !j.wins ∧ t.tb = u.tb ∧ u.sameBytes t)) ∧
  (∀ src dg i c o v (s : State), s.opRuns src dg i 0x02 c o = true → addrOf o.body = ⟨0xD100, 5, 0, 1⟩ →
    fieldAt o.body 8 1 = DType.bool.code → decodeVal .bool (o.body.drop 20) = some v →
    let u := s.atOp src dg i
    let q : WReq := { sess := c.session, x := c.x, key := dkey 0xD100 5 0, val := v, apply := fieldAt o.body 12 8 }
    u.modeTest c.session q.key = .ok → (u.writeTest q).1 = .ok →
    ∃ t, exec (.dmlWrite src dg i) s = .next t ∧ t.sub.restarting = true ∧ t.dam.cur = none ∧ t.out = u.out) ∧
  (∀ src dg i c o a b (s : State), s.opRuns src dg i 0x0C c o = true →
    let u := s.atOp src dg i
    u.sub.journal.head? = some a → u.sub.journal.getLast? = some b → a.jseq ≤ fieldAt o.body 0 8 → fieldAt o.body 0 8 ≤ b.jseq →
    0 < fieldAt o.body 8 1 → fieldAt o.body 8 1 ≤ 32 →
    let rs := (u.sub.journal.filter (fun j => decide (fieldAt o.body 0 8 ≤ j.jseq))).take (fieldAt o.body 8 1)
    ∃ t, exec (.dmlJournalRead src dg i) s = .next t ∧
      answered t c (okResult 0x0C (beBytes 1 rs.length ++ [0, 0, 0] ++ rs.flatMap JRec.bytes)) ∧ t.dict = u.dict ∧
      t.fePend = u.fePend ∧ t.sub = u.sub ∧ u.sameBlock t) ∧
  (∀ src dg c (s : State), s.frontRuns = true → s.dam.cur = none → startsWith dg 0x02 = true →
    (s.atOp src dg 0).frontRuns = true → (s.atOp src dg 0).canonical = true → (s.atOp src dg 0).dam.cur = some c → c.dg = dg → c.next = 0 → c.atomic = true →
    (∀ o ∈ (opsOf dg).getD [], o.op = 2) →
    let u := s.atOp src dg 0
    (atomicRun runWrite c ((opsOf dg).getD []) u).2 = none → ∃ t, exec (.dmlWrite src dg 0) s = .next t ∧
      t.dict = u.dict ∧ t.fePend = u.fePend ∧ t.sub = u.sub ∧ u.sameBlock t)

/-- Subscriptions and locks are made and released, and a lease is kept or closed (R357, R363, R365, R372). -/
def Obligations.OperationsOnTheSession : Prop :=
  (∀ src dg i c o (s : State), s.opRuns src dg i 0x04 c o = true →
    let u := s.atOp src dg i
    let a := addrOf o.body
    let y := u.sess c.session
    a.entries ≠ [] → a.entries.all (fun e => e.acc == .wo) = false →
    (fieldAt o.body 8 1 = 0 ∨ (fieldAt o.body 8 1 = 1 ∧ 0 < fieldAt o.body 10 2)) → y.subs.length < 256 →
    ∃ t, exec (.dmlSubscribe src dg i) s = .next t ∧ answered t c (okResult 0x04 (beBytes 2 y.nextSub)) ∧
      (t.sess c.session).subs = y.subs ++ [
        { id := y.nextSub, idx := a.idx, sub := a.sub, elem := a.elem, count := a.count, mode := fieldAt o.body 8 1
          period := fieldAt o.body 10 2 }] ∧ t.dict = u.dict ∧ t.sub = u.sub ∧ u.sameBlock t) ∧
  (∀ src dg i c o (s : State), s.opRuns src dg i 0x05 c o = true →
    let u := s.atOp src dg i
    (u.sess c.session).subs.any (fun b => b.id == fieldAt o.body 0 2) = true →
    ∃ t, exec (.dmlUnsubscribe src dg i) s = .next t ∧ answered t c (okResult 0x05 []) ∧
      (t.sess c.session).subs = (u.sess c.session).subs.filter (fun b => b.id != fieldAt o.body 0 2) ∧ t.dict = u.dict ∧
      t.sub = u.sub ∧ u.sameBlock t) ∧
  (∀ src dg i c o (s : State), s.opRuns src dg i 0x06 c o = true →
    let u := s.atOp src dg i
    let a := addrOf o.body
    let y := u.sess c.session
    a.entries ≠ [] → u.lockRights c.session a = .ok →
    sessionIds.any (fun m => m != c.session && (u.sess m).locks.any (fun l => l.meets a)) = false → y.locks.length < 64 →
    u.lockBusy c.session a = false → ∃ t, exec (.dmlLock src dg i) s = .next t ∧ answered t c (okResult 0x06 (beBytes 2 y.nextLock)) ∧
      (t.sess c.session).locks = y.locks ++ [⟨y.nextLock, a.idx, a.sub, a.elem, a.count⟩] ∧ t.dict = u.dict ∧ t.sub = u.sub ∧
      u.sameBlock t) ∧
  (∀ src dg i c o (s : State), s.opRuns src dg i 0x07 c o = true →
    let u := s.atOp src dg i
    let y := u.sess c.session
    let m := fieldAt o.body 2 1
    (natBit o.flags 0 = true → u.role c.session = 3 → m ∈ sessionIds → ∃ t, exec (.dmlUnlock src dg i) s = .next t ∧
      answered t c (okResult 0x07 []) ∧ (t.sess m).locks = [] ∧ t.dict = u.dict ∧ u.sameBlock t ∧
      ((u.sess m).locks ≠ [] → u.mayLog 0x30 = true → t.logged 0x30)) ∧
    (natBit o.flags 0 = false → natBit o.flags 1 = true → ∃ t, exec (.dmlUnlock src dg i) s = .next t ∧
      answered t c (okResult 0x07 []) ∧ (t.sess c.session).locks = [] ∧ t.dict = u.dict ∧ t.sub = u.sub ∧ u.sameBlock t) ∧
    (natBit o.flags 0 = false → natBit o.flags 1 = false → y.locks.any (fun l => l.id == fieldAt o.body 0 2) = true →
      ∃ t, exec (.dmlUnlock src dg i) s = .next t ∧ answered t c (okResult 0x07 []) ∧
      (t.sess c.session).locks = y.locks.filter (fun l => l.id != fieldAt o.body 0 2) ∧ t.dict = u.dict ∧ t.sub = u.sub ∧
      u.sameBlock t)) ∧
  (∀ src dg i c o (s : State), s.opRuns src dg i 0x0B c o = true →
    let u := s.atOp src dg i
    ∃ t, exec (.dmlKeepalive src dg i) s = .next t ∧ answered t c (okResult 0x0B
        (beBytes 4 (((u.sess c.session).xEnd - c.x) * 1000 / u.rate) ++ beBytes 8 u.tb.sidx)) ∧ t.dict = u.dict ∧ t.sub = u.sub ∧
      u.sameBlock t) ∧
  (∀ src dg i c o (s : State), s.opRuns src dg i 0x0E c o = true →
    let u := s.atOp src dg i
    ∃ t, exec (.dmlClose src dg i) s = .next t ∧ answered t c (okResult 0x0E []) ∧ (t.sess c.session).isOpen = false ∧
      (t.sess c.session).subs = [] ∧ (t.sess c.session).locks = [] ∧ t.fePend = u.fePend)

/-- Domain transfers: first, further and last blocks, reads of a part, aborts and time-outs (R360 to R362). -/
def Obligations.DomainTransfers : Prop :=
  (∀ src dg i c o e (s : State), s.opRuns src dg i 0x08 c o = true → (addrOf o.body).entry = some e → (addrOf o.body).count = 1 →
    let u := s.atOp src dg i
    let k := (addrOf o.body).key
    let d := blockOf o.body
    u.modeTest c.session k = .ok → u.domRights c.session k = .ok →
    (d.first = true → d.last = false → (u.sess c.session).xferOf d.xfer = none → d.data.length ≤ d.total → u.firstBusy c.session k = false →
      d.block = 0 → domJournaled k = false → ∃ t f, exec (.dmlDomainWrite src dg i) s = .next t ∧
      answered t c (okResult 0x08 (writeBody 0 0 0)) ∧ (t.sess c.session).xferOf d.xfer = some f ∧ f.running = true ∧ f.key = k ∧
      f.data = d.data ∧ f.next = 1 ∧ f.total = d.total ∧ baseVal t.dict k = baseVal u.dict k ∧ u.sameBlock t) ∧
    (∀ f, d.first = false → (u.sess c.session).xferOf d.xfer = some f → f.running = true → f.aborted = false → f.key = k →
      d.block = f.next → (f.data ++ d.data).length ≤ f.total → d.last = false →
      domJournaled k = true → keyIdx k ≠ 0x4100 → u.ringFull = false → ∃ t g, exec (.dmlDomainWrite src dg i) s = .next t ∧
      answered t c (okResult 0x08 (writeBody u.sub.jseq (32 * (c.x / 32 + 1)) 0)) ∧ (t.sess c.session).xferOf d.xfer = some g ∧
      g.data = f.data ++ d.data ∧ g.next = f.next + 1 ∧ g.running = true ∧
      ∃ j, t.sub.journal.getLast? = some j ∧ j.kind = 1 ∧ j.key = k ∧ j.off = f.data.length ∧ j.part = d.data) ∧
    (∀ f a, d.first = false → (u.sess c.session).xferOf d.xfer = some f → f.running = true → f.aborted = false → f.key = k →
      d.block = f.next → (f.data ++ d.data).length = f.total → d.last = true → crc32 (f.data ++ d.data) = d.crc →
      u.domTest e { sess := c.session, x := c.x, key := k, val := .bytes (f.data ++ d.data), apply := d.apply } = (.ok, a) →
      keyIdx k ∈ ([0x1010, 0xC200] : List Nat) → ∃ t, exec (.dmlDomainWrite src dg i) s = .next t ∧
      answered t c (okResult 0x08 (writeBody 0 a 0)) ∧ baseVal t.dict k = .bytes (f.data ++ d.data) ∧
      (∀ g, (t.sess c.session).xferOf d.xfer = some g → g.running = false) ∧ u.sameBlock t) ∧
    (∀ f, d.first = false → (u.sess c.session).xferOf d.xfer = some f → f.running = true → f.aborted = false → f.key = k →
      d.block = f.next → (f.data ++ d.data).length = f.total → d.last = true → crc32 (f.data ++ d.data) ≠ d.crc →
      ∃ t, exec (.dmlDomainWrite src dg i) s = .next t ∧
      answered t c ⟨0x08, .domainAbort, true, false, false, writeBody 0 0 0⟩ ∧
      (∀ g, (t.sess c.session).xferOf d.xfer = some g → g.aborted = true))) ∧
  (∀ src dg i c o e (s : State), s.opRuns src dg i 0x09 c o = true → (addrOf o.body).entry = some e → (addrOf o.body).count = 1 →
    e.acc ≠ .wo → e.ty = .dom →
    let u := s.atOp src dg i
    let b := (u.dictRead (addrOf o.body).key c.x).toBytes
    0 < fieldAt o.body 12 2 → fieldAt o.body 12 2 ≤ 1024 → fieldAt o.body 8 4 < b.length →
    ∃ t, exec (.dmlDomainRead src dg i) s = .next t ∧ answered t c (okResult 0x09
        (beBytes 4 b.length ++ beBytes 4 ((u.formVal (addrOf o.body).key b).versionAt (addrOf o.body).key c.x) ++ (b.drop (fieldAt o.body 8 4)).take (fieldAt o.body 12 2))) ∧ t.dict = u.dict ∧
      t.sub = u.sub ∧ u.sameBlock t) ∧
  (∀ src dg i c o (s : State), s.opRuns src dg i 0x0A c o = true →
    let u := s.atOp src dg i
    (∀ f, (u.sess c.session).xferOf (fieldAt o.body 0 2) = some f → f.running = true → ∃ t g,
      exec (.dmlDomainAbort src dg i) s = .next t ∧ answered t c (okResult 0x0A []) ∧
      (t.sess c.session).xferOf (fieldAt o.body 0 2) = some g ∧ g.running = false ∧ g.aborted = true ∧ g.data = [] ∧
      baseVal t.dict f.key = baseVal u.dict f.key ∧ u.sameBlock t) ∧
    ((∀ f, (u.sess c.session).xferOf (fieldAt o.body 0 2) = some f → f.running = false) → ∃ t, exec (.dmlDomainAbort src dg i) s = .next t ∧
      answered t c (okResult 0x0A []) ∧ t.dict = u.dict ∧ t.sub = u.sub ∧ u.sameBlock t)) ∧
  (∀ n x f (s : State), s.frontRuns = true → s.canonical = true → (s.sess n).xferOf x = some f → f.running = true →
    10000000 ≤ s.usSince f.us → ∃ t g, exec (.domainTransferTimeout n x) s = .next t ∧ (t.sess n).xferOf x = some g ∧
    g.running = false ∧ g.aborted = true ∧ s.sameBlock t) ∧
  (∀ n x f (s : State), (s.sess n).xferOf x = some f → s.usSince f.us < 10000000 →
    exec (.domainTransferTimeout n x) s = .next s)

/-- Sessions are opened, resumed and refused, and end with their lease (R37, R354, R361, R372). -/
def Obligations.SessionsOpenAndEnd : Prop :=
  (∀ src dg (s : State), s.frontRuns = true → s.takes 4 src dg = true →
    let u := s.finishMsg
    let n := fieldAt dg 4 1
    u.frontRuns = true → u.canonical = true →
    (u.tagOk dg = false → exec (.dmlOpen src dg) s = .next (u.countFe 0xC000 3 0 1)) ∧
    (u.tagOk dg = true → sessionIds.all (fun k => !u.leaseDue k u.tb.sidx) = true → fieldAt dg 6 2 = 16 → fieldAt dg 8 8 = 0 →
      fieldAt dg 16 8 = 0 → u.role n ≠ 0 →
      (((u.sess n).isOpen = false ∨ natBit (fieldAt dg 5 1) 1 = true) →
        ∃ t, exec (.dmlOpen src dg) s = .next t ∧ (t.sess n).isOpen = true ∧ (t.sess n).seqHigh = 0 ∧ (t.sess n).peer = src ∧
        (t.sess n).epoch = u.freeNat % 2 ^ 64 ∧ (t.sess n).xEnd = u.tb.sidx + u.feN 0xC100 4 n * u.rate / 1000 ∧
        ((u.sess n).isOpen = true → (t.sess n).subs = (u.sess n).subs ∧ (t.sess n).locks = (u.sess n).locks) ∧
        ((u.sess n).isOpen = false → (t.sess n).subs = [] ∧ (t.sess n).locks = []) ∧
        (t.txOn src.port = true →
          let r : Reply := ⟨5, n, .ok, u.freeNat % 2 ^ 64, 1, 0,
            [⟨0, .ok, true, true, false, t.openBody n u.tb.sidx (u.freeNat % 2 ^ 64) ((dg.drop 32).take 16)⟩], s.dmlPort, src⟩
          t.out.head? = some (.reply r (r.datagram (u.cred n)))) ∧
        t.dict = u.dict ∧ u.sameBlock t) ∧
      ((u.sess n).isOpen = true → natBit (fieldAt dg 5 1) 1 = false → ∃ t, exec (.dmlOpen src dg) s = .next t ∧
        (t.sess n).epoch = (u.sess n).epoch ∧ (t.sess n).peer = src ∧ (t.sess n).subs = (u.sess n).subs ∧
        (t.sess n).locks = (u.sess n).locks ∧ t.dict = u.dict ∧ t.sub = u.sub ∧ u.sameBlock t))) ∧
  (∀ n (s : State), n ∈ sessionIds → s.frontRuns = true → s.canonical = true → s.leaseDue n s.tb.sidx = true → ∃ t,
    exec (.leaseEnd n) s = .next t ∧ (t.sess n).isOpen = false ∧ (t.sess n).locks = [] ∧ (t.sess n).subs = [] ∧ t.tb = s.tb ∧
    (s.feN 0xC100 5 n ≠ 1 → t.fePend = s.fePend)) ∧
  (∀ n (s : State), s.leaseDue n s.tb.sidx = false → exec (.leaseEnd n) s = .next s) ∧
  (∀ n k v (s : State), n ∈ sessionIds → s.frontRuns = true → s.canonical = true → (s.sess n).retry = [(k, v)] → s.finalVal k ≠ v →
    let u := s.setSess n { s.sess n with retry := [] }
    (∀ a e, u.writeTest { sess := 0, x := s.tb.sidx, key := k, val := v, apply := 0 } = (.ok, a) → keyEntry k = some e → e.acc = .rwa →
      0x4000 ≤ keyIdx k → keyIdx k < 0x6000 → ∃ t j, exec (.revertRetry n) s = .next t ∧ (t.sess n).retry = [] ∧
      t.sub.journal.getLast? = some j ∧ j.kind = 4 ∧ j.session = 0 ∧ j.key = k ∧ j.val = v ∧ j.apply = a) ∧
    (∀ st a, st ∈ ([.state, .busy, .late] : List Status) →
      u.writeTest { sess := 0, x := s.tb.sidx, key := k, val := v, apply := 0 } = (st, a) → ∃ t,
      exec (.revertRetry n) s = .next t ∧ (t.sess n).retry = [(k, v)] ∧ t.fePend = s.fePend ∧ t.sub = s.sub))

/-- Scans compare subscriptions and refresh the monitors, notes leave in messages, and peers are discovered (R363, R374,
R385). A scan that finds a message in progress finishes it first. A command for which nothing is due changes nothing. -/
def Obligations.NotesScansAndDiscovery : Prop :=
  (∀ volts speeds (s : State), s.frontRuns = true → s.canonical = true → s.dam.cur = none → (s.tb.sidx / 32) % scanLen s.rate = 0 →
    s.dam.scanBlk ≠ some (s.tb.sidx / 32) → ∃ t, exec (.subscriptionScan volts speeds) s = .next t ∧
    t.dam.scanBlk = some (s.tb.sidx / 32) ∧ (∀ n ∈ sessionIds, (s.sess n).isOpen = true →
      (t.sess n).subs.map (fun b => (b.id, b.scans)) = (s.sess n).subs.map (fun b => (b.id, b.scans + 1))) ∧
    (∀ n ∈ sessionIds, (s.sess n).isOpen = true → (s.sess n).subs = [] → (t.sess n).queue = (s.sess n).queue) ∧
    (∀ n b k, n ∈ sessionIds → (s.sess n).isOpen = true → (s.sess n).subs = [b] → b.mode = 1 → b.scans % max 1 b.period = 0 →
      b.keys = [k] → ∃ v, (t.sess n).queue = (s.sess n).queue.push 64 (valueNote k (s.tb.sidx / 32) v) false) ∧
    (volts ≠ [] → t.sub.volts = (volts.take 20).map (min 65535)) ∧ s.sameBlock t) ∧
  (∀ n (s : State), s.frontRuns = true → s.canonical = true →
    let y := s.sess n
    y.isOpen = true → y.queue.items ≠ [] → (∀ u, y.lastNote = some u → 10000 ≤ s.usSince u) →
    let l := notesFit 1420 y.queue.items
    ∃ t, exec (.notificationSend n) s = .next t ∧
      (s.txOn y.peer.port = true →
        t.out.head? = some (.notes n y.txSeq y.noteSeq l y.peer (noteDatagram (s.cred n) n y l))) ∧
      (t.sess n).queue.items = y.queue.items.drop l.length ∧ (t.sess n).txSeq = y.txSeq + 1 ∧
      (t.sess n).noteSeq = (y.noteSeq + l.length) % 2 ^ 32 ∧ t.dict = s.dict ∧ t.sub = s.sub ∧ s.sameBlock t) ∧
  (∀ src dg (s : State), s.frontRuns = true →
    let u := s.finishMsg
    (s.takes 7 src dg = true → ∃ t, exec (.dmlDiscover src dg) s = .next t ∧
      t.dam.peers.head? = some ((dg.drop 32).take (fieldAt dg 6 2), src.ip, u.tb.us) ∧ t.dam.peers.length ≤ 32 ∧
      t.dict = u.dict ∧ t.sub = u.sub ∧ u.sameBlock t) ∧
    (s.takes 6 src dg = true → fieldAt dg 6 2 = 0 → fieldAt dg 4 1 = 0 →
      (∀ us, agetD u.dam.discSrc src.ip none = some us → 1000000 ≤ u.usSince us) → ∃ t d, exec (.dmlDiscover src dg) s = .next t ∧
      d ≤ 100000 ∧ t.dam.discoverDue = u.dam.discoverDue ++ [(src, (u.tb.us + d) % 2 ^ 48)] ∧ t.dict = u.dict ∧ t.sub = u.sub ∧
      u.sameBlock t)) ∧
  (∀ e (s : State), s.frontRuns = true → s.dam.discoverDue.find? (fun p => decide (s.usSince p.2 < 2 ^ 47)) = some e → ∃ t,
    exec .discoverReplySend s = .next t ∧
    t.out = (if s.txOn e.1.port then
      [.discoverReply (s.discoverBody e.1.port) e.1 (messageOf [] 7 0 0 0 0 0 (s.discoverBody e.1.port))] else []) ++ s.out ∧
    t.dam.discoverDue = s.dam.discoverDue.erase e ∧ t.dict = s.dict ∧ t.sub = s.sub ∧ s.sameBlock t) ∧
  (∀ (s : State), s.frontRuns = true → s.canonical = true → s.sub.recovery = false → s.feN 0xC000 4 0 = 1 →
    (∀ u, s.dam.lastDiscover = some u → 30000000 ≤ s.usSince u) → ∃ t,
    exec .discoverSend s = .next t ∧ t.dam.lastDiscover = some s.tb.us ∧
    t.out = ((([0, 1, 2, 3, 4] : List Nat).filter (fun p => s.dmlOn p && s.txOn p)).map
      (fun p => Out.discover p (messageOf [] 6 0 0 0 0 0 []))).reverse ++ s.out ∧ t.dict = s.dict ∧ s.sameBlock t) ∧
  (∀ (s : State), ∃ t, exec .peerExpiry s = .next t ∧
    t.dam.peers = s.dam.peers.filter (fun e => decide (s.usSince e.2.2 < 300000000)) ∧ t.dict = s.dict ∧ t.sub = s.sub ∧
    s.sameBlock t) ∧
  (∀ (s : State), s.frontRuns = false → (∀ v w, exec (.subscriptionScan v w) s = .next s) ∧ (∀ n, exec (.notificationSend n) s = .next s) ∧
    (∀ p dg, exec (.dmlDiscover p dg) s = .next s) ∧ exec .discoverReplySend s = .next s ∧ exec .discoverSend s = .next s) ∧
  (∀ (s : State), s.frontRuns = true → ((s.tb.sidx / 32) % scanLen s.rate ≠ 0 ∨ s.dam.scanBlk = some (s.tb.sidx / 32) →
      ∀ v w, exec (.subscriptionScan v w) s = .next s) ∧
    ((s.tb.sidx / 32) % scanLen s.rate = 0 → s.dam.scanBlk ≠ some (s.tb.sidx / 32) → ∀ v w, ∃ t, exec (.subscriptionScan v w) s = .next t ∧
      (s.finishMsg.frontRuns = true → t = s.finishMsg.scan v w) ∧ (s.finishMsg.frontRuns = false → t = s.finishMsg)) ∧
    (∀ n, (s.sess n).isOpen = false ∨ (s.sess n).queue.items = [] ∨ (∃ u, (s.sess n).lastNote = some u ∧ s.usSince u < 10000) →
      exec (.notificationSend n) s = .next s) ∧
    (∀ p dg, s.takes 6 p dg = false → s.takes 7 p dg = false → exec (.dmlDiscover p dg) s = .next s) ∧
    (s.dam.discoverDue.find? (fun p => decide (s.usSince p.2 < 2 ^ 47)) = none → exec .discoverReplySend s = .next s) ∧
    (s.sub.recovery = true ∨ s.feN 0xC000 4 0 ≠ 1 ∨ (∃ u, s.dam.lastDiscover = some u ∧ s.usSince u < 30000000) →
      exec .discoverSend s = .next s))

/-- Peer-delay measurement, links, negotiation and modules (R276 to R281, R340). -/
def Obligations.LinksModulesAndPeerDelay : Prop :=
  (∀ p (s : State), s.canonical = true → s.txOn p = true → ∃ t, exec (.pdelayReqSend p) s = .next t ∧
    (t.port p).pd = { (s.port p).pd with
      seq := ((s.port p).pd.seq + 1) % 65536, req := some (((s.port p).pd.seq + 1) % 65536, s.tb.us) } ∧
    t.out = .pdelayReq p (((s.port p).pd.seq + 1) % 65536) :: s.out ∧ t.dict = s.dict ∧ s.sameBlock t) ∧
  (∀ p seq delay us (s : State), s.canonical = true → s.rxOn p = true → (s.port p).pd.req = some (seq, us) →
    (s.tb.us + 2 ^ 48 - us) % 2 ^ 48 ≤ 1000000 → ∃ t, exec (.pdelayExchange p seq delay) s = .next t ∧
    (t.port p).pd.valid = true ∧ (t.port p).pd.req = none ∧ (t.port p).pd.validUs = s.tb.us ∧
    (t.port p).pd.last = (delay :: (s.port p).pd.last).take 16 ∧ t.out = s.out ∧ t.dict = s.dict ∧ s.sameBlock t) ∧
  (∀ p (s : State), s.canonical = true → p < 5 → (s.port p).pd.valid = true →
    3000000 ≤ (s.tb.us + 2 ^ 48 - (s.port p).pd.validUs) % 2 ^ 48 → ∃ t, exec (.pdelayTimeout p) s = .next t ∧
    (t.port p).pd = { (s.port p).pd with valid := false } ∧ t.out = s.out ∧ t.dict = s.dict ∧ s.sameBlock t) ∧
  (∀ p phy (s : State), s.canonical = true → p < 5 → s.feN 0x3000 1 p ≠ 0 → (p < 4 → s.sub.sdsFailed = false) →
    (p = 4 → s.feN 0x3000 1 4 = 8 → 3 ≤ phy ∧ phy ≤ 5) → ∃ t, exec (.linkChange p true phy) s = .next t ∧
    (t.port p).link = true ∧ ((t.port p).speed, (t.port p).fec) = s.resolved p phy ∧ t.dict = s.dict ∧ s.sameBlock t) ∧
  (∀ p phy (s : State), s.canonical = true → p < 5 → (s.port p).link = true → ∃ t, exec (.linkChange p false phy) s = .next t ∧
    (t.port p).link = false ∧ (t.port p).speed = 0 ∧ (t.port p).fec = 0 ∧ natBit (t.portReg p 4) 6 = true ∧ t.dict = s.dict ∧
    s.sameBytes t ∧ s.sameRegsBut [(.shared, portBase p + 4)] t) ∧
  (∀ p phy (s : State), (s.port p).link = false → exec (.linkChange p false phy) s = .next s) ∧
  (∀ p stage partner fec (s : State), s.canonical = true → p < 4 → s.feN 0x3000 1 p = 3 ∨ s.feN 0x3000 1 p = 4 →
    let ok : Bool := stage == 2 || stage == 3
    ∃ t, exec (.autoNegotiationDone p stage partner fec) s = .next t ∧ (t.port p).anState = (if ok then stage else 4) ∧
    (t.port p).anPartner = partner % 2 ^ 64 ∧
    (ok = true → natBit (s.feN 0x3000 2 p) 1 = true → fec = 2 → (t.port p).anFec = 2) ∧
    (ok = true → natBit (s.feN 0x3000 2 p) 0 = true → fec = 1 → (t.port p).anFec = 1) ∧
    (ok = false ∨ s.feN 0x3000 2 p % 4 = 0 → (t.port p).anFec = 0) ∧ t.dict = s.dict ∧ s.sameBlock t) ∧
  (∀ p (s : State), s.canonical = true → p < 4 → ∃ t, exec (.modAbsFall p) s = .next t ∧ (t.port p).sfp.inserted = true ∧
    (t.port p).sfp.since = s.tb.us ∧ (t.port p).sfp.present = false ∧ (t.port p).link = (s.port p).link ∧ t.dict = s.dict ∧
    s.sameBlock t) ∧
  (∀ p (s : State), s.canonical = true → p < 4 → ∃ t, exec (.modAbsRise p) s = .next t ∧ (t.port p).sfp.inserted = false ∧
    (t.port p).sfp.present = false ∧ (t.port p).sfp.idPage = [] ∧ (t.port p).sfp.diag = [] ∧ t.dict = s.dict ∧ s.sameBlock t) ∧
  (∀ p b diag (s : State), s.canonical = true → p < 4 → (s.port p).sfp.inserted = true → (s.port p).sfp.present = false →
    300000 ≤ (s.tb.us + 2 ^ 48 - (s.port p).sfp.since) % 2 ^ 48 → ∃ t, exec (.sfpIdRead p (some b) diag) s = .next t ∧
    (t.port p).sfp.present = true ∧ (t.port p).sfp.idPage = b.take 256 ∧
    (natBit (pageByte (b.take 256) 92) 6 = false → (t.port p).sfp.diag = (s.port p).sfp.diag) ∧
    (∀ d, natBit (pageByte (b.take 256) 92) 6 = true → diag = some d → (t.port p).sfp.diag = d.take 256) ∧ t.dict = s.dict ∧
    s.sameBlock t) ∧
  (∀ p diag (s : State), s.canonical = true → p < 4 → (s.port p).sfp.present = true →
    natBit (pageByte (s.port p).sfp.idPage 92) 6 = true → ∃ t, exec (.sfpDiagPoll p diag) s = .next t ∧
    (∀ d, diag = some d → (t.port p).sfp.diag = d.take 256 ∧
      ((t.port p).sfp.alarm = true → (t.port p).sfp.alarmSeen = true)) ∧
    (diag = none → (t.port p).sfp.diag = (s.port p).sfp.diag ∧ (t.port p).sfp.i2cErr = min 65535 ((s.port p).sfp.i2cErr + 1)) ∧
    t.dict = s.dict ∧ s.sameBlock t)

/-- Descriptor rings: tails, enables, moderation, a frame sent, and before it a stream packet or what Subsoil has queued (R302, R312, R315, R317, R341,
R342). -/
def Obligations.DescriptorRingsMove : Prop :=
  (∀ p r v (s : State), s.canonical = true → p < 5 → r < 4 → ∃ t, exec (.rxrTailWrite p r v) s = .next t ∧
    (t.ring p false r).tail = v % s.ringSize p false r ∧ (t.ring p false r).head = (s.ring p false r).head ∧ t.out = s.out ∧
    t.dict = s.dict ∧ s.sameBytes t ∧ s.sameRegsBut [(.shared, ringBase p false r + 0x20)] t) ∧
  (∀ p r v (s : State), s.canonical = true → p < 5 → r < 4 → ∃ t, exec (.txrTailWrite p r v) s = .next t ∧
    (t.ring p true r).tail = v % s.ringSize p true r ∧ (t.ring p true r).head = (s.ring p true r).head ∧ t.out = s.out ∧
    t.dict = s.dict ∧ s.sameBytes t ∧ s.sameRegsBut [(.shared, ringBase p true r + 0x20)] t) ∧
  (∀ p tx r (s : State), s.canonical = true → p < 5 → r < 4 →
    let c := s.ringReg p tx r 0
    (natBits c 5 2 ≠ 3 → ∃ t, exec (.ringEnWrite p tx r true) s = .next t ∧ t.ringReg p tx r 0 = (c &&& 0xFFFF01FE) + 1 ∧
      t.dict = s.dict ∧ s.sameBytes t ∧ s.sameRegsBut [(.shared, ringBase p tx r)] t) ∧
    (natBits c 5 2 = 3 → natBit c 0 = false → ∃ t, exec (.ringEnWrite p tx r true) s = .next t ∧
      natBit (t.ringReg p tx r 0) 0 = false ∧ natBit (t.ringReg p tx r 0x20) 3 = true ∧ t.dict = s.dict ∧ s.sameBytes t) ∧
    (∃ t, exec (.ringEnWrite p tx r false) s = .next t ∧ t.ringReg p tx r 0 = c &&& 0xFFFF01FE ∧ t.dict = s.dict ∧
      s.sameBytes t ∧ s.sameRegsBut [(.shared, ringBase p tx r)] t)) ∧
  (∀ p tx r (s : State), s.canonical = true → p < 5 → r < 4 → (s.ring p tx r).unsig ≠ 0 →
    (s.ring p tx r).modUs ≤ (s.tb.us + 2 ^ 48 - (s.ring p tx r).since) % 2 ^ 48 → ∃ t,
    exec (.ringModerationExpiry p tx r) s = .next t ∧ t.ring p tx r = { s.ring p tx r with unsig := 0, soft := [] } ∧
    (natBits (s.ringReg p tx r 0) 7 2 = 0 → ((if tx then 0x48 else 0x30) + 4 * p + r) ∈ t.icM.pend) ∧
    (natBits (s.ringReg p tx r 0) 7 2 = 1 → ((if tx then 0x78 else 0x60) + 4 * p + r) ∈ t.icA.pend) ∧
    (natBits (s.ringReg p tx r 0) 7 2 = 2 → ((if tx then 0x78 else 0x60) + 4 * p + r) ∈ t.icB.pend) ∧
    t.regs = s.regs ∧ t.dict = s.dict ∧ (tx = true ∨ (s.ring p tx r).soft = [] → s.sameBytes t)) ∧
  (∀ p f l (s : State), s.canonical = true → s.txOn p = true → (s.port p).txq = f :: l → ∃ t,
    exec (.frameTransmit p) s = .next t ∧ t.out = .frame p (padFrame f) :: s.out ∧ (t.port p).txq = l ∧
    t.portReg p 0x24 = (s.portReg p 0x24 + 1) % 2 ^ 32 ∧ t.dict = s.dict ∧ s.sameBytes t ∧
    s.sameRegsBut [(.shared, portBase p + 0x24)] t) ∧
  (∀ p r i (s : State), s.canonical = true → s.txOn p = true → (s.port p).txq = [] → s.txReady p r = some [i] → r < 4 →
    (∀ q ∈ ([1, 0, 2, 3] : List Nat), s.txReady p q ≠ none → q = r) → r = 1 ∨ s.fwReady p = false → s.txErr p r [i] = 0 →
    natBit (s.descWord p true r i 1) 18 = false → natBit (s.descWord p true r i 1) 19 = false → ∃ t,
    exec (.frameTransmit p) s = .next t ∧ t.out = .frame p (padFrame (s.txBytes p r [i])) :: s.out ∧
    (t.ring p true r).head = ((s.ring p true r).head + 1) % s.ringSize p true r ∧
    t.descWord p true r i 1 = s.descWord p true r i 1 % 2 ^ 28 + 2 ^ 31 ∧
    t.portReg p 0x24 = (s.portReg p 0x24 + 1) % 2 ^ 32 ∧ t.dict = s.dict) ∧
  (∀ p f l (s : State), s.canonical = true → s.txOn p = true → (s.port p).txq = [] → s.txReady p 1 = none → s.fwReady p = true →
    (s.port p).fwq = f :: l → ∃ t, exec (.frameTransmit p) s = .next t ∧ t.out = .frame p (padFrame f) :: s.out ∧
    (t.port p).fwq = l ∧ t.portReg p 0x24 = (s.portReg p 0x24 + 1) % 2 ^ 32 ∧ t.dict = s.dict ∧ s.sameBytes t ∧
    s.sameRegsBut [(.shared, portBase p + 0x24)] t) ∧
  (∀ p (s : State), s.txOn p = false → exec (.frameTransmit p) s = .next s)

/-- Received frames: dropped by the first test that refuses them, delivered to their ring, or claimed by the stream engine
(R301, R304, R310 to R313, R320 to R322). -/
def Obligations.ReceivedFramesAreDroppedOrDelivered : Prop :=
  (∀ p f bad stages ovf i (s : State), s.canonical = true → s.rxOn p = true → s.frameTest p f bad = .error i → ∃ t,
    exec (.frameReceive p f bad stages ovf) s = .next t ∧
    (natBit (s.portReg p 0) 4 = false → t.portReg p (0x28 + 4 * i) = min 0xFFFFFFFF (s.portReg p (0x28 + 4 * i) + 1) ∧
      baseVal t.dict (dkey 0x3020 (i + 1) p) = .num (min 0xFFFFFFFF (s.feN 0x3020 (i + 1) p + 1) : Nat)) ∧
    (natBit (s.portReg p 0) 4 = true → t.portReg p (0x28 + 4 * i) = s.portReg p (0x28 + 4 * i) ∧ t.dict = s.dict) ∧
    (t.port p).fifo = min 64 stages ∧
    t.portReg p 0x48 = (if natBit (s.portReg p 0) 4 then s.portReg p 0x48 else max (s.portReg p 0x48) (min 64 stages)) ∧
    ((s.port p).level s.tb.now < 48 → 48 ≤ stages → natBit (t.portReg p 4) 8 = true) ∧ t.out = s.out ∧ t.st = s.st ∧ s.sameBytes t ∧
    s.sameRegsBut [(.shared, portBase p + 0x28 + 4 * i), (.shared, portBase p + 0x48), (.shared, portBase p + 4)] t) ∧
  (∀ p f stages (s : State), s.canonical = true → s.rxOn p = true → s.frameTest p f false = .ok none →
    frameTagged f = false ∨ natBit (s.feN 0x3000 5 p) 0 = false → natBit (s.ringReg p false (s.steer p f) 0) 0 = true →
    s.memAvail (s.ringMem p false (s.steer p f)) = true → f.length ≤ s.rxBuf p (s.steer p f) → f.length < 2 ^ 16 →
    let r := s.steer p f
    let g := s.ring p false r
    let size := s.ringSize p false r
    let addr := s.descWord p false r g.head 0
    let m := s.ringMem p false r
    (g.tail + size - g.head % size) % size ≠ 0 → ∃ t, exec (.frameReceive p f false stages false) s = .next t ∧
    (t.ring p false r).head = (g.head + 1) % size ∧
    t.descWord p false r g.head 1 = f.length + 2 ^ 16 + 2 ^ 17 + (if r = 1 then 2 ^ 19 else 0) ∧
    t.descWord p false r g.head 2 = f.length * 65536 ∧
    (addr + f.length ≤ s.descOff p false r g.head ∨ s.descOff p false r g.head + 32 ≤ addr →
      cellReads (t.memCells m) addr f.length = f) ∧
    (∀ a, (a < addr ∨ addr + f.length ≤ a) → (a < s.descOff p false r g.head ∨ s.descOff p false r g.head + 32 ≤ a) →
      cellRead (t.memCells m) a = cellRead (s.memCells m) a) ∧
    t.portReg p 0x20 = (s.portReg p 0x20 + 1) % 2 ^ 32 ∧ t.dict = s.dict ∧ t.st = s.st) ∧
  (∀ p f stages l cmd (s : State), cmd = .frameReceive p f false stages false ∨ cmd = .streamPacketReceive p f stages false →
    s.canonical = true → s.rxOn p = true → s.frameTest p f false = .ok (some l) →
    let x := s.tb.sidx
    let b := (udpOf f).map (·.data) |>.getD []
    let i := l / 2
    let per := s.feN 0x3200 5 i * wireBytes (s.feN 0x3200 4 i)
    (∃ t, exec cmd s = .next t ∧ baseVal t.dict (dkey 0x3210 6 l) = .num ((s.feN 0x3210 6 l + 1) % 2 ^ 32 : Nat) ∧
      t.portReg p 0x20 = (s.portReg p 0x20 + 1) % 2 ^ 32 ∧ t.out = s.out ∧ s.sameBytes t ∧
      (rtpOf b = none → baseVal t.dict (dkey 0x3200 0x15 i) = .num (min 0xFFFFFFFF (s.feN 0x3200 0x15 i + 1) : Nat)) ∧
      (∀ k, rtpOf b = some k → k.pt = s.feN 0x3200 7 i → k.data.length % per = 0 → 1 ≤ k.data.length / per →
        k.data.length / per ≤ 384 →
        let a := rtpIndex x ((k.ts + 2 ^ 32 - s.feN 0x3200 8 i) % 2 ^ 32)
        heardBefore (s.isLeg l).heard a (k.data.length / per) = false → 0 ≤ a →
        (t.isLeg l).track = some (seqTrack (s.isLeg l).track k.seq).2 ∧ (t.isLeg l).lastUs = some s.tb.us ∧
        ∀ j : Nat, j < k.data.length / per → sampleFate x s.latency (a + j) = 2 → ∃ v,
          (wireFrames (s.feN 0x3200 4 i) (s.feN 0x3200 5 i) (k.data.length / per) k.data)[j]? = some v ∧
          aget? (t.isLeg l).buf ((a + j).toNat % 1024) = some ((a + j).toNat, v))))

/-- Egress packets, stream time-outs and session announcements (R326, R327, R331). -/
def Obligations.StreamsSendExpireAndAnnounce : Prop :=
  (∀ i leg mac (s : State), s.canonical = true → i < 128 → leg < 2 →
    let q := s.esNext i
    let c := s.esCfg i q.1
    let p := 2 * s.feAt c 0x3400 2 i + leg
    s.feAt c 0x3400 1 i = 1 → q.1 + q.2.1 + s.relC ≤ s.tb.sidx + 1 → s.feAt c 0x3400 3 i = 2 ^ leg →
    s.dstMac p (s.feAt c 0x3410 1 (2 * i + leg)) = some mac → s.txOn p = true → ∃ t, exec (.egressPacketSend i) s = .next t ∧
    aget? t.st.es i = some ⟨q.1 + q.2.1, (q.2.2 + 1) % 65536, (s.esAt i).since⟩ ∧
    (t.port p).txq = (s.port p).txq ++ [s.esFrame i leg c mac s.freeNat (s.esRtp i q.1 q.2.1 q.2.2)] ∧
    baseVal t.dict (dkey 0x3400 0x11 i) = .num ((s.feN 0x3400 0x11 i + 1) % 2 ^ 32 : Nat) ∧ t.out = s.out ∧ t.regs = s.regs ∧
    s.sameBytes t) ∧
  (∀ i leg (s : State), s.canonical = true → i < 128 → leg < 2 →
    let q := s.esNext i
    let c := s.esCfg i q.1
    let p := 2 * s.feAt c 0x3400 2 i + leg
    let ip := s.feAt c 0x3410 1 (2 * i + leg)
    s.feAt c 0x3400 1 i = 1 → q.1 + q.2.1 + s.relC ≤ s.tb.sidx + 1 → s.feAt c 0x3400 3 i = 2 ^ leg → s.dstMac p ip = none → p < 5 →
    ∃ t, exec (.egressPacketSend i) s = .next t ∧ aget? t.st.es i = some ⟨q.1 + q.2.1, (q.2.2 + 1) % 65536, (s.esAt i).since⟩ ∧
      (t.port p).fwq = (s.port p).fwq ++
        (if (s.port p).fwq.length + 1 < s.ringSize p true 0 then [s.arpFrame p 1 0 (s.nextHop p ip)] else []) ∧
      (t.port p).txq = (s.port p).txq ∧ t.out = s.out ∧ t.dict = s.dict ∧ t.regs = s.regs ∧ s.sameBytes t) ∧
  (∀ i (s : State), s.canonical = true → i < 128 → ∃ t, exec (.ingressStreamTimeout i) s = .next t ∧
    (∀ l u, l = 2 * i ∨ l = 2 * i + 1 → (s.isLeg l).lastUs = some u →
      (t.isLeg l).lastUs = (if 1000000 ≤ (s.tb.us + 2 ^ 48 - u) % 2 ^ 48 then none else some u)) ∧
    (∀ l, l / 2 ≠ i → t.isLeg l = s.isLeg l) ∧ t.dict = s.dict ∧ s.sameBlock t) ∧
  (∀ p b hash origin text (s : State), s.rxOn p = true → s.feN 0x3000 6 p ≠ 0 → natBit (s.ringReg p false 0 0) 0 = true →
    s.memAvail (s.ringMem p false 0) = true → sapOf b = some (false, hash, origin, text) → ∃ t,
    exec (.sapReceive p b) s = .next t ∧ t.st.sap.head? = some ⟨hash, origin, p, text.take 1024, s.tb.us⟩ ∧
    t.st.sap.length ≤ 128 ∧ t.dict = s.dict ∧ t.ports = s.ports ∧ s.sameBlock t) ∧
  (∀ p b hash origin text (s : State), s.rxOn p = true → s.feN 0x3000 6 p ≠ 0 → natBit (s.ringReg p false 0 0) 0 = true →
    s.memAvail (s.ringMem p false 0) = true → sapOf b = some (true, hash, origin, text) → ∃ t,
    exec (.sapReceive p b) s = .next t ∧ t.st.sap = s.st.sap.filter (fun e => !(e.hash == hash && e.origin == origin)) ∧
    t.dict = s.dict ∧ t.ports = s.ports ∧ s.sameBlock t) ∧
  (∀ (s : State), ∃ t, exec .sapSessionExpiry s = .next t ∧
    t.st.sap = s.st.sap.filter (fun e => decide ((s.tb.us + 2 ^ 48 - e.us) % 2 ^ 48 < 3600000000)) ∧ t.dict = s.dict ∧
    t.ports = s.ports ∧ s.sameBlock t) ∧
  (∀ (s : State), s.canonical = true → ∃ t, exec .sapAnnounce s = .next t ∧
    (∀ i leg, i < 128 → leg < 2 → s.feN 0x3400 1 i = 1 → s.feN 0x3400 0xE i = 1 → natBit (s.feN 0x3400 3 i) leg = true →
      s.txOn (2 * s.feN 0x3400 2 i + leg) = true → .sap i leg (s.sdpText i) ∈ t.out) ∧
    (∀ o ∈ t.out, o ∈ s.out ∨ ∃ i leg, o = .sap i leg (s.sdpText i) ∧ s.feN 0x3400 1 i = 1 ∧ s.feN 0x3400 0xE i = 1 ∧
      s.txOn (2 * s.feN 0x3400 2 i + leg) = true) ∧
    t.st = s.st ∧ t.dict = s.dict ∧ t.ports = s.ports ∧ s.sameBlock t)

/-- TDM ports start, send and receive a frame at every tick, and stop; ranging ends with a result or without an echo (R57,
R282, R332 to R334). -/
def Obligations.TdmPortsRunAndRange : Prop :=
  (∀ t j (s : State), s.canonical = true → t < 8 → s.tdmDue t 1 = some j → ∃ u, exec (.tdmStart t) s = .next u ∧
    baseVal u.dict (dkey 0x3710 1 t) = .num 1 ∧
    ((s.tdmPort t).run = false → (u.tdmPort t).run = true ∧ (u.tdmPort t).start = j.apply ∧ (u.tdmPort t).next = j.apply ∧
      natBit (u.reg .shared (tdmStat t)) 1 = true) ∧
    ((s.tdmPort t).run = true → u.tdm = s.tdm) ∧ u.ports = s.ports ∧ s.sameBytes u ∧ s.sameRegsBut [(.shared, tdmStat t)] u) ∧
  (∀ t j (s : State), s.canonical = true → t < 8 → s.tdmDue t 0 = some j → (s.tdmPort t).run = true → ∃ u,
    exec (.tdmStop t) s = .next u ∧ baseVal u.dict (dkey 0x3710 1 t) = .num 0 ∧ (u.tdmPort t).run = false ∧
    ((s.tdmPort t).rng.state = 1 → (u.tdmPort t).rng.state = 3) ∧ natBit (u.reg .shared (tdmStat t)) 2 = true ∧ u.ports = s.ports ∧
    s.sameBytes u ∧ s.sameRegsBut [(.shared, tdmStat t)] u) ∧
  (∀ t din (s : State), s.canonical = true → t < 8 → (s.tdmPort t).run = true → (s.tdmPort t).next ≤ s.tb.sidx →
    (∀ j, s.tdmDue t 0 = some j → (s.tdmPort t).next < j.apply) →
    let q := s.tdmPort t
    let x := q.next - s.relC
    let n := s.feN 0x3710 2 t
    let fmt := s.feN 0x3710 3 t
    ∃ u ws, exec (.tdmFrame t din) s = .next u ∧ u.out = .tdm t x ws (tdmSync fmt n) (natBit fmt 3) :: s.out ∧ ws.length = n ∧
      (u.tdmPort t).next = q.next + 1 ∧ (u.tdmPort t).run = true ∧
      (∀ j, j < n → aget? (u.tdmPort t).input (32 * (x % 1024) + j) = some (x, 2 * toSigned 24 (din.getD j 0 / 256))) ∧
      (∀ j, j < n → q.rng.state ≠ 1 → t ≠ 7 ∨ j ≠ 0 ∨ (s.own .tdm7).owner ≠ 0x30 →
        ws[j]? = some (audToL24 (s.releasedAt x (s.feAt (x - 32 * s.latency) 0x3720 1 (32 * t + j))) * 256)) ∧
      (0 < n → q.rng.state ≠ 1 → t = 7 → (s.own .tdm7).owner = 0x30 →
        ws[0]? = some (audToL24 (s.surveyCopy (x - 32 * s.latency)) * 256)) ∧
      (q.rng.state = 1 → q.rng.frames < 8 → q.rng.slot < n → ws[q.rng.slot]? = some (0x5AC3A5 * 256)) ∧
      (q.rng.state = 1 → (u.tdmPort t).rng.frames = q.rng.frames + 1 ∧
        (∀ o v, o ≤ 8 → q.rng.held = none → q.rng.seen < 8 → din.getD q.rng.slot 0 % 2 ^ 32 = v → v / 2 ^ (8 - o) % 2 ^ 24 = 0x5AC3A5 →
          (∀ k, k < o → v / 2 ^ (8 - k) % 2 ^ 24 ≠ 0x5AC3A5) → (u.tdmPort t).rng.seen = q.rng.seen + 1 ∧
          (u.tdmPort t).rng.bits = q.rng.bits + (32 * n * q.rng.frames + o - 32 * n * q.rng.seen))) ∧
      u.dict = s.dict ∧ u.regs = s.regs ∧ s.sameBytes u) ∧
  (∀ t ns (s : State), s.canonical = true → t < 8 → (s.tdmPort t).rng.state = 1 → 8 ≤ (s.tdmPort t).rng.seen → ∃ u,
    exec (.rangingDone t ns) s = .next u ∧ (u.tdmPort t).rng.state = 2 ∧
    (let m := (s.tdmPort t).rng.mean (s.feN 0x3710 2 t) s.rate
     (u.tdmPort t).rng.ns = min 0xFFFFFFFF (if m.1 ≤ ns + m.2 ∧ ns ≤ m.1 + m.2 then ns else m.1)) ∧
    (u.tdmPort t).run = (s.tdmPort t).run ∧ u.dict = s.dict ∧ u.regs = s.regs ∧ s.sameBytes u) ∧
  (∀ t (s : State), s.canonical = true → t < 8 → (s.tdmPort t).rng.state = 1 → 64 ≤ (s.tdmPort t).rng.frames →
    (s.tdmPort t).rng.seen < 8 → ∃ u,
    exec (.rangingNoEcho t) s = .next u ∧ (u.tdmPort t).rng.state = 3 ∧ (u.tdmPort t).run = (s.tdmPort t).run ∧ u.dict = s.dict ∧
    u.regs = s.regs ∧ s.sameBytes u)

/-- An armed trigger fires at its index with the effect of its action, and pulses end (R66 to R69, R290, R445, R516). -/
def Obligations.TriggersFireAndPulsesEnd : Prop :=
  (∀ k (s : State), s.canonical = true → k < 16 → s.tbRuns = true →
    let q := s.tt k
    q.state = .armed → q.nextIdx ≤ s.tb.sidx → ∃ t, exec (.triggerFire k) s = .next t ∧ (t.tt k).fired = (q.fired + 1) % 2 ^ 32 ∧
      (q.action ≠ 1 → t.tt k = q.fire) ∧
      (q.action = 1 → s.rendering = false → s.sub.power ≠ .ready → (t.tt k).state = .missed) ∧
      (q.action = 1 → s.rendering = false → s.sub.power = .ready → s.sub.transition = none → s.ptp.lock = .locked →
        s.sub.tripLatched = false → t.sub.power = .render) ∧
      (q.action = 2 → q.target < 8 → (s.tdmPort q.target).run = false →
        (t.tdmPort q.target).run = true ∧ (t.tdmPort q.target).next = q.nextIdx) ∧
      (q.action = 3 → (s.own (.tt k)).owner = 0x30 → t.surv.starts = s.surv.starts ++ [32 * ((q.nextIdx + 31) / 32 + 4)]) ∧
      (q.action = 4 → (t.ball q.target).pulses = (s.ball q.target).pulses ++ [(k, q.nextIdx + q.width)]) ∧
      (q.action = 5 → q.target = 0 → (0x20 + k) ∈ t.icM.pend) ∧ (q.action = 5 → q.target = 1 → (0x50 + k) ∈ t.icA.pend) ∧
      (q.action = 5 → q.target = 2 → (0x50 + k) ∈ t.icB.pend) ∧ s.sameBytes t) ∧
  (∀ k (s : State), s.tbRuns = false ∨ (s.tt k).state ≠ .armed ∨ s.tb.sidx < (s.tt k).nextIdx →
    exec (.triggerFire k) s = .next s) ∧
  (∀ (q : Trigger), (q.period = 0 → q.fire.state = .done) ∧ (q.period ≠ 0 → q.count = 0 → q.fire.state = .armed) ∧
    (q.period ≠ 0 → q.count ≠ 0 → (q.fire.state = .done ↔ q.count ≤ q.nextK + 1))) ∧
  (∀ g (s : State), s.canonical = true → ∃ t, exec (.gpioPulseEnd g) s = .next t ∧
    t.ball g = { s.ball g with pulses := (s.ball g).pulses.filter (fun p => decide (s.tb.sidx < p.2)) } ∧
    (∀ h, h ≠ g → t.ball h = s.ball h) ∧ t.dict = s.dict ∧ s.sameBlock t)

/-- Survey steps, started by a write or by a trigger, are journaled or missed; when NL-SURV's report changes, its impulse responses
are copied and the results of R292, R293 and R297 derived from them (R275, R285, R289, R290). -/
def Obligations.SurveyStepsAndResults : Prop :=
  (∀ a (s u : State), s.canonical = true →
    (s.survGoNext = none ∧ s.surv.starts = [a] ∧ u = { s with surv := { s.surv with starts := [] } }) ∨
      (∃ w, s.survGoNext = some w ∧ w.apply = a ∧ s.surv.starts = [] ∧ u = s.consumeFe w) →
    let pos := u.feN 0xA020 3 0
    let feed := u.feN 0xA020 1 pos
    let stop := a + 32 * u.latency + u.sigLength + u.feN 0xA010 9 0
    let overlaps := u.surv.runs.any (fun q => decide (a < q.stop) && decide (q.at_ < stop))
    (u.capOn = true → u.nlSurvJob.isSome = true → overlaps = false → u.tb.sidx ≤ 32 * (a / 32 - 2) → u.sub.journal.length = 0 → ∃ t r,
      exec .surveyStep s = .next t ∧ t.surv.starts = [] ∧ r ∈ t.sub.journal ∧ r.kind = 5 ∧ r.key = emissionKey ∧ r.apply = a ∧
      r.val = .bytes (u.emissionBytes feed) ∧
      t.surv.runs = u.surv.runs ++ [⟨pos, feed, a, stop, if u.feN 0xA010 8 0 = 0 then u.atKey (dkey 0x6000 4 feed) a else 0,
        !u.rendering, [], u.emissionBytes feed⟩] ∧
      (∀ c, c < 4 → baseVal t.dict (dkey 0xA100 1 (4 * pos + c)) = .num 1) ∧ s.sameBytes t ∧ t.regs = s.regs) ∧
    (u.capOn = false ∨ u.nlSurvJob = none ∨ overlaps = true ∨ 32 * (a / 32 - 2) < u.tb.sidx → ∃ t,
      exec .surveyStep s = .next t ∧ t.surv.starts = [] ∧ t.surv.runs = u.surv.runs ∧ t.sub.journal = u.sub.journal ∧
      (∀ c, c < 4 → baseVal t.dict (dkey 0xA100 1 (4 * pos + c)) = .num 3) ∧
      baseVal t.dict (dkey 0xA020 5 0) = .num (min 0xFFFFFFFF (u.feN 0xA020 5 0 + 1) : Nat) ∧ s.sameBlock t)) ∧
  (∀ (s : State), s.survGoNext = none → s.surv.starts = [] → exec .surveyStep s = .next s) ∧
  (∀ j (s : State), s.canonical = true → s.nlSurvJob = some j →
    let v := (s.unit s.arb.source).nv
    let rep := fun (w : Nat) => agetD v.report (16 * j.id + w) 0
    ∃ t, exec .surveyResultCopy s = .next t ∧ t.surv.stepCount = rep 0 ∧ t.surv.liveCount = rep 3 ∧ s.sameBlock t ∧
      (rep 0 = s.surv.stepCount → rep 3 = s.surv.liveCount → t.dict = s.dict ∧ t.surv.runs = s.surv.runs) ∧
      (rep 0 ≠ s.surv.stepCount →
        let pos := rep 1 % 64
        let q := (s.surv.runs.find? (fun x => x.pos == pos)).getD (s.survRun pos 0)
        let h := (List.range (min 65536 (v.privWord j (rep 2 + 6)))).map (fun k => v.privWord j (rep 2 + 7 + k) % 2 ^ 32)
        t.surv.runs = s.surv.runs.eraseP (fun x => x.pos == pos) ∧
        baseVal t.dict (dkey 0xA100 7 (4 * pos)) = .bytes (h.flatMap (beBytes 4)) ∧
        (∃ free e, e = chanResult (h.map (toSigned 32)) (q.micFault.contains 0) (s.tofCorr q.feed 0 q.bulk) free ∧
          baseVal t.dict (dkey 0xA100 2 (4 * pos)) = .num e.valid ∧ baseVal t.dict (dkey 0xA100 3 (4 * pos)) = .num e.tof ∧
          baseVal t.dict (dkey 0xA100 4 (4 * pos)) = .num e.level ∧ baseVal t.dict (dkey 0xA100 5 (4 * pos)) = .num e.pol ∧
          baseVal t.dict (dkey 0xA100 6 (4 * pos)) = .num e.snr) ∧
        (∀ c, c < 4 → t.resValid pos c = false → baseVal t.dict (dkey 0xA110 4 pos) = .num 1)) ∧
      (rep 3 ≠ s.surv.liveCount → ∀ f, f < 1024 →
        let at_ := fun (k : Nat) => v.privWord j (rep 4 + 3 * f + k)
        let d := satS 32 (toSigned 32 (at_ 0) - s.tofCorr f (s.feN 0xA210 1 0) (s.feN 0x6000 4 f))
        (natBit (at_ 2) 0 = true → baseVal t.dict (dkey 0xA200 6 f) = .num 1 ∧ baseVal t.dict (dkey 0xA200 4 f) = .num d ∧
          baseVal t.dict (dkey 0xA200 5 f) = .num (satS 32 (d - (aget? s.surv.lsFirst f).getD d))) ∧
        (natBit (at_ 2) 0 = false → baseVal t.dict (dkey 0xA200 6 f) = .num 0 ∧
          baseVal t.dict (dkey 0xA200 4 f) = baseVal s.dict (dkey 0xA200 4 f) ∧
          baseVal t.dict (dkey 0xA200 5 f) = baseVal s.dict (dkey 0xA200 5 f)))) ∧
  (∀ (s : State), s.nlSurvJob = none → exec .surveyResultCopy s = .next s)

/-- The event log, the event queues, the configuration store and the trial image (R381, R437, R438, R456 to R458, R462). -/
def Obligations.LogsStoresAndConfirmations : Prop :=
  (∀ (s : State), s.frontRuns = true → ∃ t, exec .eventLogFlush s = .next t ∧ t.sub.logBuf = [] ∧
    (∀ f ∈ t.sub.evq, f.items = []) ∧ t.sub.logFlash.length ≤ 65536 ∧
    ((∀ f ∈ s.sub.evq, f.items = []) → s.sub.logFlash.length + s.sub.logBuf.length ≤ 65536 →
      t.sub.logFlash = s.sub.logFlash ++ s.sub.logBuf) ∧
    (∀ f w b, s.sub.evq = [f, {}, {}] → f.items = [.item w b] → s.mayLog (w.getD 3 0 % 65536) = true → ∃ r,
      t.sub.logFlash.getLast? = some r ∧ r.code = w.getD 3 0 % 65536 ∧ r.source = w.getD 4 0 / 2 ^ 24 ∧
      r.timeSec = w.getD 1 0 * 2 ^ 16 + w.getD 2 0 / 2 ^ 16 ∧ r.timeNs = w.getD 2 0 % 2 ^ 16 * 2 ^ 16 + w.getD 3 0 / 2 ^ 16) ∧ t.dict = s.dict ∧
    s.sameBlock t) ∧
  (∀ (s : State), s.frontRuns = false → exec .eventLogFlush s = .next s) ∧
  (∀ (s : State), s.dieUp = true → ∃ t, exec .eventRateSecond s = .next t ∧ t.dict = s.dict ∧ s.sameBlock t ∧
    (s.sub.logSuppressed = [] → t.sub.logRate = [] ∧ t.sub.logBuf = s.sub.logBuf) ∧
    (∀ code n, s.sub.logSuppressed = [(code, n)] → s.sub.logBuf.length < 1024 → t.sub.logSuppressed = [] ∧
      ∃ r, t.sub.logBuf = s.sub.logBuf ++ [r] ∧ r.code = 0x00FF ∧ r.data0 = n ∧ r.data1 = code)) ∧
  (∀ q w (s : State), q < 3 → natBit (s.reg .shared 0x30050000) 1 = true → s.sub.evq.length = 3 → s.sub.evqPart.length = 3 →
    let part := s.sub.evqPart.getD q [] ++ [w % 2 ^ 32]
    ∃ t, exec (.evqPush q w) s = .next t ∧ t.dict = s.dict ∧ s.sameBytes t ∧
      (part.length < 8 → t.sub.evqPart.getD q [] = part ∧ t.sub.evq = s.sub.evq ∧ t.regs = s.regs) ∧
      (8 ≤ part.length → t.sub.evqPart.getD q [] = [] ∧
        (t.sub.evq.getD q {}).items = ((s.sub.evq.getD q {}).push 64 part true).items)) ∧
  (∀ (s : State), s.sub.dir.trial = true → s.frontRuns = true → s.sub.recovery = false → s.sub.runSlot = s.sub.dir.slot →
    30000000 ≤ (s.tb.us + 2 ^ 48 - s.sub.serveUs) % 2 ^ 48 →
    ∃ t, exec .mgmtConfirm s = .next t ∧ t.sub.dir.trial = false ∧ t.sub.dir.slot = s.sub.dir.slot ∧
      t.sub.otpMgmt = max s.sub.otpMgmt (min 63 (imgSec (s.sub.mgmtSlots.getD s.sub.dir.slot []))) ∧ t.sub.slotStarts = [0, 0] ∧
      (s.mayLog 0x50 = true → t.logged 0x50) ∧ t.dict = s.dict ∧ s.sameBlock t) ∧
  (∀ (s : State), s.sub.dir.trial = false ∨ (s.tb.us + 2 ^ 48 - s.sub.serveUs) % 2 ^ 48 < 30000000 →
    exec .mgmtConfirm s = .next s) ∧
  (∀ (s : State), s.sub.storeDirty = true → s.frontRuns = true → s.sub.stores.length = 2 → s.sub.tags.length = 2 →
    1000000 ≤ (s.tb.us + 2 ^ 48 - s.sub.keptWriteUs) % 2 ^ 48 →
    (∀ u, s.sub.lastSaveUs = some u → 10000000 ≤ (s.tb.us + 2 ^ 48 - u) % 2 ^ 48) → ∃ t, exec .configStoreSave s = .next t ∧
    t.sub.storeDirty = false ∧ t.sub.lastSaveUs = some s.tb.us ∧
    newestCopy t.sub.stores = some ⟨((newestCopy s.sub.stores).map (·.gen)).getD 0 + 1, true,
      s.dict.filter (fun e => keptKey false e.1), s.sub.trained⟩ ∧
    (∀ c, newestCopy s.sub.stores = some c → c ∈ t.sub.stores) ∧
    copyVals t.sub.tags = s.dict.filter (fun e => keptKey true e.1) ∧
    (s.mayLog 0x51 = true → t.logged 0x51) ∧ t.dict = s.dict ∧ s.sameBlock t) ∧
  (∀ (s : State), s.sub.storeDirty = false → exec .configStoreSave s = .next s)

/-- The island starts, restarts and stops, and its pin and its time words act (R400, R403, R404, R413, R416, R420, R426). -/
def Obligations.IslandStartsAndKeepsTime : Prop :=
  (∀ on (s : State), on = true ∨ s.isl.on = true → ∃ t, exec (.kaolinStart on) s = .next t ∧ t.isl.on = true ∧ t.isl.sample = 0 ∧
    t.isl.timeSet = false ∧ t.isl.wdRestarts = (if on then 0 else s.isl.wdRestarts) ∧ t.isl.log = s.isl.log ∧ t.isl.seq = s.isl.seq ∧
    t.isl.fwSlots = s.isl.fwSlots ∧ t.isl.audit = s.isl.audit ∧ t.isl.unsealed = s.isl.unsealed ∧
    (∀ c, c < 4 → (t.isl.chan c).famOn = 7 ∧ (t.isl.chan c).mic = 0) ∧ t.kao = s.kao ∧ t.dict = s.dict ∧ s.sameBlock t) ∧
  (∀ (s : State), s.isl.on = false → exec (.kaolinStart false) s = .next s ∧ exec .kaolinWatchdogExpiry s = .next s) ∧
  (∀ (s : State), s.isl.on = true → ∃ t, exec .kaolinWatchdogExpiry s = .next t ∧ t.isl.on = true ∧ t.isl.sample = 0 ∧
    t.isl.wdRestarts = min 65535 (s.isl.wdRestarts + 1) ∧ t.isl.log = s.isl.log ∧ t.isl.fwSlots = s.isl.fwSlots ∧ t.kao = s.kao ∧
    t.dict = s.dict ∧ s.sameBlock t) ∧
  (∀ (s : State), ∃ t, exec .kaoSupplyLoss s = .next t ∧ t.isl.on = false ∧ t.isl.log = s.isl.log ∧ t.isl.seq = s.isl.seq ∧
    t.isl.fwSlots = s.isl.fwSlots ∧ t.isl.cfgSlots = s.isl.cfgSlots ∧ t.isl.audit = s.isl.audit ∧ t.isl.inst = s.isl.inst ∧ t.kao = { s.kao with inbound := [] } ∧
    t.dict = s.dict ∧ s.sameBlock t) ∧
  (∀ level (s : State), ∃ t, exec (.kaoUnsealChange level) s = .next t ∧ t.isl.unsealed = level ∧ t.isl.log = s.isl.log ∧
    (level = false → s.isl.staging = 3 → t.isl.staging = 5 ∧ t.isl.rxImg = none) ∧
    (level = true → t.isl.staging = s.isl.staging ∧ t.isl.rxImg = s.isl.rxImg) ∧ t.kao = s.kao ∧ t.dict = s.dict ∧ s.sameBlock t) ∧
  (∀ ticks sec ns locked pre post (s : State), s.isl.on = true → s.kao.inbound = pre ++ .time sec ns locked :: post →
    (∀ a b c, KaoIn.time a b c ∉ pre) →
    let i := s.isl.run (min ticks 1536000)
    let now := i.time
    let off : Int := ((sec * 1000000000 + ns) * nsUnit : Nat) - (now : Int)
    (s.isl.wordsFull now = false → ∃ t, exec (.timeStrobe ticks false) s = .next t ∧ t.kao.inbound = pre ++ post ∧
      t.isl.timeSet = true ∧ t.isl.pos = i.pos ∧
      (1000000 * nsUnit < off.natAbs → t.isl.time = (sec * 1000000000 + ns) * nsUnit ∧ t.isl.slew = 0 ∧ t.isl.rate = s.isl.rate ∧
        t.isl.lastWord = some ((sec * 1000000000 + ns) * nsUnit, locked, 0)) ∧
      (off.natAbs ≤ 1000000 * nsUnit → t.isl.time = now ∧ t.isl.slew = off ∧
        t.isl.lastWord = some ((sec * 1000000000 + ns) * nsUnit, locked, off) ∧
        (t.isl.drifts ≠ [] → t.isl.rate = meanI t.isl.drifts) ∧ (t.isl.drifts = [] → t.isl.rate = s.isl.rate)) ∧ t.dict = s.dict ∧ s.sameBlock t) ∧
    (∀ bad, bad = true ∨ s.isl.wordsFull now = true → ∃ t, exec (.timeStrobe ticks bad) s = .next t ∧ t.kao.inbound = pre ++ post ∧
      t.isl = i.discard ∧ t.dict = s.dict ∧ s.sameBlock t))

/-- The island's channels: microphone states, the combiner, suppression, and the results of an interval (R406, R407, R412 to
R415, R417). -/
def Obligations.IslandChannelsMeasure : Prop :=
  (∀ c steps off (s : State), s.canonical = true → s.isl.on = true → c < 4 → (s.isl.conf c).enable = true →
    let q := s.isl.chan c
    let st := senseState (s.isl.conf c) (min 400 steps)
    ∃ t, exec (.senseReading c steps off) s = .next t ∧ (t.isl.chan c).sense = min 400 steps ∧ (t.isl.chan c).cand = st ∧
      (st ≠ q.cand → (t.isl.chan c).run = 1 ∧ (t.isl.chan c).mic = q.mic) ∧
      (st = q.cand → q.run + 1 < 50 → (t.isl.chan c).run = q.run + 1 ∧ (t.isl.chan c).mic = q.mic) ∧
      (st = q.cand → 50 ≤ q.run + 1 → (t.isl.chan c).mic = st) ∧
      (st = q.cand → 50 ≤ q.run + 1 → q.mic ≠ 0 → st = 0 → (t.isl.chan c).famOn = 7 ∧
        (t.isl.chan c).supp = s.isl.sample + min off 5999) ∧
      (∀ d, d ≠ c → t.isl.chan d = s.isl.chan d) ∧ t.kao = s.kao ∧ t.dict = s.dict ∧ s.sameBlock t) ∧
  (∀ c (s : State), s.canonical = true → s.isl.on = true → c < 4 → (s.isl.conf c).rangeMode = 0 → ∃ t,
    exec (.combinerReturn c) s = .next t ∧
    t.isl.chan c = (s.isl.chan c).highPath ∧ (t.isl.chan c).mic = (s.isl.chan c).mic ∧
    (t.isl.chan c).sig.lowGain = ((s.isl.chan c).sig.lowGain && (s.isl.chan c).sig.below != 4096) ∧
    (∀ d, d ≠ c → t.isl.chan d = s.isl.chan d) ∧ t.kao = s.kao ∧ t.dict = s.dict ∧ s.sameBlock t) ∧
  (∀ c fam (s : State), s.canonical = true → s.isl.on = true → c < 4 → fam < 3 → ∃ t, exec (.suppressionEnd c fam) s = .next t ∧
    (t.isl.chan c).famOn = (if (s.isl.chan c).supp + suppLen fam ≤ s.isl.sample + 6000 then (s.isl.chan c).famOn &&& (7 ^^^ 2 ^ fam)
      else (s.isl.chan c).famOn) ∧ (t.isl.chan c).dirty = (s.isl.chan c).dirty ∧
    (∀ d, d ≠ c → t.isl.chan d = s.isl.chan d) ∧ t.kao = s.kao ∧ t.dict = s.dict ∧ s.sameBlock t) ∧
  (∀ (s : State), s.canonical = true → s.isl.on = true → ∀ rest, let i := rest.foldl Island.sampled s.isl
    ∃ t, exec (.intervalResult rest) s = .next t ∧
    t.isl.sample = s.isl.sample + 6000 ∧ t.isl.pos = 0 ∧ t.isl.wd = 0 ∧
    (s.isl.pos = 0 → t.isl.time = s.isl.timeAt 1536000 ∧ t.isl.slew = s.isl.slew - s.isl.slewIn 1536000) ∧
    (s.dieUp = true → t.kao.outbound = s.kao.outbound ++ [t.isl.resultFrame]) ∧ (s.dieUp = false → t.kao = s.kao) ∧
    (∀ c, c < 4 → t.isl.conf c = s.isl.conf c ∧ (t.isl.chan c).dirty = (t.isl.chan c).famOn ∧
      (t.isl.chan c).sig = (i.chan c).sig.newInterval ∧ (rest = [] → i = s.isl) ∧
      ((s.isl.conf c).enable = true → (s.isl.chan c).mic = 0 → (s.isl.chan c).left_ = false →
        natBit (s.isl.chan c).dirty 0 = false → ∀ q sens, q = (i.chan c).sig → sens = (s.isl.conf c).sens → q.clipped = false →
        (t.isl.chan c).energies.head? = some (some (q.sumA, sens)) ∧
        ∃ v, (t.isl.chan c).res.getD 4 none = some v ∧ (q.peakC ≠ 0 → v = satS 32 (levelOf 0 sens (q.peakC * q.peakC)))) ∧
      ((s.isl.conf c).enable = false → (t.isl.chan c).energies.head? = some none ∧
        (t.isl.chan c).res = [none, none, none, none, none])) ∧
    (s.isl.minute + 1 < 480 → t.isl.minute = s.isl.minute + 1 ∧ t.isl.done = s.isl.done) ∧
    (480 ≤ s.isl.minute + 1 → t.isl.minute = 0 ∧ t.isl.done ≠ none ∧ t.isl.minStart = t.isl.time) ∧ t.dict = s.dict ∧ s.sameBlock t)

/-- The island's records, answers, images, status frames, raw samples and console (R286, R404, R417, R419 to R423, R426,
R428). -/
def Obligations.IslandRecordsAndAnswers : Prop :=
  (∀ body failed (s : State), s.isl.on = true → s.isl.done = some body → s.dieUp = true → s.isl.slot < logSlots → ∃ t sig,
    exec (.minuteRecord ⟨failed, false⟩) s = .next t ∧
    let front := beBytes 4 s.isl.seq ++ body ++ (if s.isl.prevHash = [] then List.replicate 32 0 else s.isl.prevHash)
    t.out = .kaoRecord (front ++ sig ++ List.replicate 32 0) :: s.out ∧
    t.isl.log.head? = some ⟨(s.isl.slot + failed) % logSlots, s.isl.seq, front ++ sig ++ List.replicate 32 0⟩ ∧
    (failed = 0 → (s.isl.slot + 1) % 16 ≠ 0 → t.isl.log.tail = s.isl.log) ∧
    (∀ e ∈ s.isl.log, e ∉ t.isl.log → failed ≠ 0 ∨ e.slot / 16 = (s.isl.slot + 1) % logSlots / 16) ∧ t.isl.seq = (s.isl.seq + 1) % 2 ^ 32 ∧
    t.isl.prevHash = sha256 front ∧ t.isl.done = none ∧ t.kao = s.kao ∧ t.dict = s.dict ∧ s.sameBlock t) ∧
  (∀ n pre post (s : State), s.isl.on = true → s.dieUp = true → s.kao.inbound = pre ++ .logReq n :: post →
    (∀ k, KaoIn.logReq k ∉ pre) → ∃ t, exec (.logRequestReceive false) s = .next t ∧ t.kao.inbound = pre ++ post ∧
    t.kao.outbound = s.kao.outbound ++ [.logPage (s.isl.record n)] ∧ t.isl = s.isl ∧ t.dict = s.dict ∧ s.sameBlock t) ∧
  (∀ n pre post (s : State), s.isl.on = true → s.kao.inbound = pre ++ .logReq n :: post → (∀ k, KaoIn.logReq k ∉ pre) → ∃ t,
    exec (.logRequestReceive true) s = .next t ∧ t.kao.inbound = pre ++ post ∧ t.kao.outbound = s.kao.outbound ∧
    t.isl = s.isl.discard ∧ t.dict = s.dict ∧ s.sameBlock t) ∧
  (∀ i pre post (s : State), s.isl.on = true → isImage i = true → s.kao.inbound = pre ++ i :: post → (∀ k ∈ pre, isImage k = false) →
    (s.isl.unsealed = true → ∃ t, exec (.imageBlockReceive false) s = .next t ∧ t.kao.inbound = pre ++ post ∧ t.dict = s.dict ∧
      s.sameBlock t ∧ (∀ n, i = .imgStart n → t.isl.rxImg = some [] ∧ t.isl.staging = 3 ∧ t.isl.tag = n) ∧
      (∀ b l, i = .imgBlock b → s.isl.rxImg = some l → t.isl = { s.isl with rxImg := some (l ++ b) }) ∧
      (∀ n l, i = .imgEnd n → s.isl.rxImg = some l → 255 ≤ s.isl.audit →
        t.isl = { { s.isl with rxImg := none, tag := n }.storeImg l with staging := 5 })) ∧
    (s.isl.unsealed = false → ∃ t, exec (.imageBlockReceive false) s = .next t ∧ t.kao.inbound = pre ++ post ∧
      t.isl = s.isl.discard.reject ∧ t.dict = s.dict ∧ s.sameBlock t)) ∧
  (∀ (s : State), s.isl.on = true → s.dieUp = true → ∃ t, exec .statusFrame s = .next t ∧ t.kao.outbound = s.kao.outbound ++
      [.status s.isl.swid s.isl.audit s.isl.unsealed 748291 s.isl.staging s.isl.tag s.isl.qual s.isl.discarded s.isl.wdRestarts] ∧
    t.isl = s.isl ∧ t.dict = s.dict ∧ s.sameBlock t) ∧
  (∀ k volts (s : State), s.canonical = true → s.isl.on = true → s.dieUp = true → natBit (s.reg .shared 0x30060000) 0 = true →
    s.capOn = true →
    let x := s.isl.stamp k * s.rate / secUnit
    ∃ t, exec (.rawSample k volts false false) s = .next t ∧ t.out = s.out ∧ s.sameBlock t ∧
      (∀ c, c < 4 → (t.isl.chan c).sig = (s.isl.chan c).sig.sample c (s.isl.conf c).rangeMode (volts.getD c [])) ∧
      ∀ c m, c < 4 → m < 4 → s.feN 0xA000 2 c = m → (s.isl.conf m).enable = true →
        (∀ l, (s.surv.cap.getD c {}).last = some l → l < x) →
        (t.surv.cap.getD c {}).val = 2 * (t.isl.chan m).sig.raw ∧
        (t.surv.cap.getD c {}).last = some (x + (if s.rate = 96000 then 2 else 1) - 1)) ∧
  (∀ k volts (s : State), s.canonical = true → s.isl.on = true → s.dieUp = true → natBit (s.reg .shared 0x30060000) 0 = true → ∃ t,
    exec (.rawSample k volts false true) s = .next t ∧ t.isl = (s.isl.run (256 * min k 5999)).sampled volts ∧
    t.reg .shared 0x3006001C = min 0xFFFFFFFF (s.reg .shared 0x3006001C + 1) ∧ natBit (t.reg .shared 0x30060004) 7 = true ∧
    t.surv = s.surv ∧ t.dict = s.dict ∧ s.sameBytes t) ∧
  (∀ k volts full (s : State), s.isl.on = true → natBit (s.reg .shared 0x30060000) 0 = false →
    exec (.rawSample k volts false full) s = .next { s with isl := (s.isl.run (256 * min k 5999)).sampled volts }) ∧
  (∀ k volts bad full (s : State), s.isl.on = false → exec (.rawSample k volts bad full) s = .next s) ∧
  (∀ (s : State), s.isl.on = true → ∃ id, exec .consoleId s = .next (s.emit (.console id))) ∧
  (∀ (s : State), s.isl.on = true → exec .consoleKey s = .next (s.emit (.console (hexText (p256Public Config.islPrivate))))) ∧
  (∀ (s : State), s.isl.on = true → exec .consoleTime s = .next (s.emit (.console (decText (s.isl.time / secUnit) ++ txt " " ++
    (decText (s.isl.time / nsUnit % 1000000000) ++ txt " " ++ decText s.isl.qual))))) ∧
  (∀ (s : State), s.isl.on = true → ∃ t, exec .consoleStatus s = .next t ∧
    t.out = ([3, 2, 1, 0] : List Nat).map (fun c => Out.console (s.isl.statusLine c)) ++ s.out ∧ t.isl = s.isl ∧ s.sameBlock t) ∧
  (∀ n (s : State), s.isl.on = true →
    (∀ r, s.isl.record n = some r → exec (.consoleLog n) s = .next (s.emit (.console (hexText r)))) ∧
    (s.isl.record n = none → exec (.consoleLog n) s = .next (s.emit (.console (txt "not held"))))) ∧
  (∀ (s : State), s.isl.on = true → exec .consoleUnknown s = .next (s.emit (.console (txt "?")))) ∧
  (∀ (s : State), s.isl.on = false → ∀ c ∈ ([.consoleId, .consoleKey, .consoleTime, .consoleStatus, .consoleUnknown] : List Instr),
    exec c s = .next s)

/-- The island link as the die sees it: mirrored results, exposure groups, the link, log pages, status frames, time words and
image transfers (R157 to R160, R394, R395, R416, R417, R419, R423, R426, R429, R430). -/
def Obligations.IslandLinkIsMirrored : Prop :=
  (∀ chans sec ns pre post (s : State), s.canonical = true → s.dam.cur = none → s.kao.outbound = pre ++ .result chans sec ns :: post →
    (∀ a b c, KaoOut.result a b c ∉ pre) → (∀ j ∈ s.fePend, keyIdx j.key ≠ 0x6500) → ∃ t, exec (.mirrorResult false) s = .next t ∧ t.kao.outbound = pre ++ post ∧
    t.kao.link = true ∧ t.kao.resultUs = s.tb.us ∧ t.reg .shared 0x30060008 = (s.reg .shared 0x30060008 + 1) % 2 ^ 32 ∧ s.sameBytes t ∧
    (s.sub.restarting = true → t.dict = s.dict ∧ t.fePend = s.fePend) ∧
    (s.sub.restarting = false →
      (∀ c k, c < 4 → k < 5 → baseVal t.dict (dkey 0xB000 (k + 1) c) =
        .num (((chans.getD c ([], 3)).1.getD k none).getD (-(2 ^ 31)))) ∧
      (∀ c, c < 4 → baseVal t.dict (dkey 0xB000 7 c) = .num (chans.getD c ([], 3)).2) ∧
      baseVal t.dict (dkey 0xB000 9 0) = .num (sec * 2 ^ 32 + ns : Nat) ∧ t.dictRead (dkey 0xB000 0xA 0) t.tb.sidx = .num 1 ∧
      (∀ g v, g < 8 → s.expoMembers g = true →
        (chans.getD (s.feN 0x6500 1 g % 4) ([], 3)).1.getD (s.feN 0x6500 1 g / 4 % 4) none = some v →
        baseVal t.dict (dkey 0x6500 7 g) = .num 1 ∧ t.kao.misses.getD g 0 = 0 ∧ ∃ j ∈ t.sub.journal,
          j.key = dkey 0x6500 6 g ∧ j.apply = 32 * (s.tb.sidx / 32 + 2) ∧ j.session = 0 ∧
          j.val = .num (expoOffset (satS 16 (rneDiv v 256)) (s.feI 0x6500 2 g) (s.feI 0x6500 3 g) (s.feI 0x6500 4 g))) ∧
      (∀ g, g < 8 → s.expoMembers g = false → baseVal t.dict (dkey 0x6500 7 g) = .num 0 ∧ t.kao.misses.getD g 0 = 0))) ∧
  (∀ (s : State), s.finishMsg.dam.cur = none → exec (.mirrorResult false) s = exec (.mirrorResult false) s.finishMsg) ∧
  (∀ (s : State), s.canonical = true → s.sub.porN = true → 125000 ≤ s.usSince s.kao.expoUs →
    (∀ j ∈ s.fePend, keyIdx j.key ≠ 0x6500) → ∃ t, exec .expoIntervalMissed s = .next t ∧ s.sameBytes t ∧ t.regs = s.regs ∧
    (∀ g, g < 8 → s.expoMembers g = true → t.kao.misses.getD g 0 = s.kao.misses.getD g 0 + 1 ∧
      (s.kao.misses.getD g 0 < 7 → baseVal t.dict (dkey 0x6500 7 g) = .num 2) ∧
      (s.sub.restarting = true → s.feN 0x6500 7 g ≠ 3 → baseVal t.dict (dkey 0x6500 7 g) = .num 2) ∧
      (s.sub.restarting = false → 7 ≤ s.kao.misses.getD g 0 → s.feN 0x6500 7 g ≠ 3 → baseVal t.dict (dkey 0x6500 7 g) = .num 3 ∧
        (s.feN 0x6500 5 g = 1 → ∃ j ∈ t.sub.journal, j.key = dkey 0x6500 6 g ∧ j.val = .num (-(s.feI 0x6500 4 g))))) ∧
    (∀ g, g < 8 → s.expoMembers g = false → baseVal t.dict (dkey 0x6500 7 g) = .num 0)) ∧
  (∀ (s : State), s.canonical = true → s.kao.link = true → 250000 ≤ s.usSince s.kao.resultUs → ∃ t, exec .koLinkLost s = .next t ∧
    t.kao.link = false ∧ t.dictRead (dkey 0xB000 0xA 0) t.tb.sidx = .num 0 ∧ natBit (t.reg .shared koStat) 1 = true ∧
    (s.mayLog 0x60 = true → t.logged 0x60) ∧ s.sameBytes t ∧ s.sameRegsBut [(.shared, koStat)] t) ∧
  (∀ (s : State), natBit (s.reg .shared 0x30060000) 1 = true → s.tbRuns = true → s.isl.on = true → ∃ t,
    exec .timeWordSend s = .next t ∧
    t.kao.inbound = s.kao.inbound ++ [.time ((s.tb.sec + 1) % 2 ^ 48) 0 (s.ptp.lock == .locked)] ∧ t.dict = s.dict ∧ s.sameBlock t) ∧
  (∀ u (s : State), s.canonical = true → s.kao.logReq = some u → 2000000 ≤ s.usSince u → ∃ t, exec .logRequestTimeout s = .next t ∧
    t.kao.logReq = none ∧ baseVal t.dict (dkey 0xB010 3 0) = .num 4 ∧ s.sameBlock t) ∧
  (∀ page pre post (s : State), s.canonical = true → s.kao.outbound = pre ++ .logPage page :: post → (∀ a, KaoOut.logPage a ∉ pre) →
    ∃ t, exec (.logPageReceive false) s = .next t ∧ t.kao.outbound = pre ++ post ∧ t.kao.logReq = none ∧
    natBit (t.reg .shared koStat) 5 = true ∧
    (∀ b, page = some b → baseVal t.dict (dkey 0xB010 2 0) = .bytes b ∧ baseVal t.dict (dkey 0xB010 3 0) = .num 2) ∧
    (page = none → baseVal t.dict (dkey 0xB010 3 0) = .num 3) ∧ s.sameBytes t ∧ s.sameRegsBut [(.shared, koStat)] t) ∧
  (∀ (swid : List Byte) (audit : Nat) (un : Bool) (chain st n q d w : Nat) pre post (s : State), s.canonical = true →
    s.kao.outbound = pre ++ .status swid audit un chain st n q d w :: post → (∀ f ∈ pre, f.isStatus = false) → ∃ t,
    exec (.statusFrameReceive false) s = .next t ∧ t.kao.outbound = pre ++ post ∧ t.kao.unsealed = un ∧
    t.kao.statusUs = some s.tb.us ∧ baseVal t.dict (dkey 0xB020 1 0) = .bytes swid ∧ baseVal t.dict (dkey 0xB020 2 0) = .num audit ∧
    baseVal t.dict (dkey 0xB020 3 0) = .num chain ∧
    (s.kao.tag = n → s.feN 0xB030 3 0 = 3 → 4 ≤ st → baseVal t.dict (dkey 0xB030 3 0) = .num st) ∧ s.sameBlock t) ∧
  (∀ (s : State), s.isl.on = true → ∃ t, exec (.koImgStart .mgmt) s = .next t ∧ t.kao.imgOpen = true ∧
    t.kao.inbound = s.kao.inbound ++ [.imgStart (s.kao.tag + 1)] ∧ t.kao.tag = s.kao.tag + 1 ∧ t.dict = s.dict ∧ s.sameBlock t) ∧
  (∀ v (s : State), s.isl.on = true → s.kao.imgOpen = true → ∃ t, exec (.koImgData .mgmt v) s = .next t ∧ t.kao.imgOpen = true ∧
    t.kao.inbound = s.kao.inbound ++ [.imgBlock (beBytes 4 v)] ∧ t.dict = s.dict ∧ s.sameBlock t) ∧
  (∀ (s : State), s.isl.on = true → s.kao.imgOpen = true → ∃ t, exec (.koImgEnd .mgmt) s = .next t ∧ t.kao.imgOpen = false ∧
    t.kao.inbound = s.kao.inbound ++ [.imgEnd s.kao.tag] ∧ t.dict = s.dict ∧ s.sameBlock t) ∧
  (∀ (c : Core) v (s : State), c ≠ .mgmt → exec (.koImgStart c) s = .next (s.regFail c .shared 0x30060018 5 true) ∧
    exec (.koImgData c v) s = .next (s.regFail c .shared 0x30060014 5 true) ∧
    exec (.koImgEnd c) s = .next (s.regFail c .shared 0x30060018 5 true))
end

