-- ==== Sys2Proof/Laws/Maps.lean ====
section
/-!
SUPPORT. The laws of the finite maps, lists and byte memories: a read finds what was written, a write leaves every other key
alone, and every operation keeps the canonical form.
-/
namespace Sys2Proof.Machine
open Sys2Proof

variable {α : Type}

theorem aget?_aput_same (l : Assoc α) (k : Nat) (v : α) : aget? (aput l k v) k = some v := by
  induction l with
  | nil => simp [aput, aget?]
  | cons e l ih =>
    obtain ⟨a, w⟩ := e
    simp only [aput]
    split
    · simp [aget?]
    · split
      · simp [aget?]
      · next h => simp [aget?, Ne.symm h, ih]

theorem aget?_aput_other (l : Assoc α) (k j : Nat) (v : α) (h : j ≠ k) : aget? (aput l k v) j = aget? l j := by
  induction l with
  | nil => simp [aput, aget?, Ne.symm h]
  | cons e l ih =>
    obtain ⟨a, w⟩ := e
    simp only [aput]
    split
    · simp [aget?, Ne.symm h]
    · split
      · next e => subst e; simp [aget?, Ne.symm h]
      · simp [aget?, ih]

theorem aget?_adel_other (l : Assoc α) (k j : Nat) (h : j ≠ k) : aget? (adel l k) j = aget? l j := by
  induction l with
  | nil => rfl
  | cons e l ih =>
    obtain ⟨a, w⟩ := e
    simp only [adel]
    split
    · next e => subst e; simp [aget?, Ne.symm h]
    · simp [aget?, ih]

theorem asorted_cons (a : Nat) (v : α) (l : Assoc α) :
    asorted ((a, v) :: l) = true ↔ (∀ e ∈ l, a < e.1) ∧ asorted l = true := by
  simp [asorted]

theorem aget?_none_of_lt (l : Assoc α) (k : Nat) (h : ∀ e ∈ l, k < e.1) : aget? l k = none := by
  induction l with
  | nil => rfl
  | cons e l ih =>
    obtain ⟨a, w⟩ := e
    have := h (a, w) (by simp)
    simp only [aget?]
    rw [if_neg (by simp at this; omega)]
    exact ih (fun e he => h e (by simp [he]))

theorem aget?_adel_same (l : Assoc α) (k : Nat) (hs : asorted l = true) : aget? (adel l k) k = none := by
  induction l with
  | nil => rfl
  | cons e l ih =>
    obtain ⟨a, w⟩ := e
    rw [asorted_cons] at hs
    simp only [adel]
    split
    · next e => subst e; exact aget?_none_of_lt l a hs.1
    · next e => simp [aget?, e, ih hs.2]

theorem mem_aput (l : Assoc α) (k : Nat) (v : α) (e : Nat × α) (h : e ∈ aput l k v) : e = (k, v) ∨ e ∈ l := by
  induction l with
  | nil => simpa [aput] using h
  | cons x l ih =>
    obtain ⟨a, w⟩ := x
    simp only [aput] at h
    split at h
    · simpa using h
    · split at h
      · rcases List.mem_cons.mp h with h | h
        · exact .inl h
        · exact .inr (by simp [h])
      · rcases List.mem_cons.mp h with h | h
        · exact .inr (by simp [h])
        · rcases ih h with h | h
          · exact .inl h
          · exact .inr (by simp [h])

theorem mem_adel (l : Assoc α) (k : Nat) (e : Nat × α) (h : e ∈ adel l k) : e ∈ l := by
  induction l with
  | nil => simpa [adel] using h
  | cons x l ih =>
    obtain ⟨a, w⟩ := x
    simp only [adel] at h
    split at h
    · simp [h]
    · rcases List.mem_cons.mp h with h | h
      · simp [h]
      · simp [ih h]

theorem asorted_aput (l : Assoc α) (k : Nat) (v : α) (hs : asorted l = true) : asorted (aput l k v) = true := by
  induction l with
  | nil => simp [aput, asorted]
  | cons x l ih =>
    obtain ⟨a, w⟩ := x
    have h := (asorted_cons a w l).mp hs
    simp only [aput]
    split
    · next lt =>
      rw [asorted_cons]
      refine ⟨fun e he => ?_, hs⟩
      rcases List.mem_cons.mp he with he | he
      · subst he; exact lt
      · have := h.1 e he; omega
    · split
      · next e => subst e; rw [asorted_cons]; exact h
      · next n1 n2 =>
        rw [asorted_cons]
        refine ⟨fun e he => ?_, ih h.2⟩
        rcases mem_aput l k v e he with he | he
        · subst he; simp only []; omega
        · exact h.1 e he

theorem asorted_adel (l : Assoc α) (k : Nat) (hs : asorted l = true) : asorted (adel l k) = true := by
  induction l with
  | nil => rfl
  | cons x l ih =>
    obtain ⟨a, w⟩ := x
    have h := (asorted_cons a w l).mp hs
    simp only [adel]
    split
    · exact h.2
    · rw [asorted_cons]; exact ⟨fun e he => h.1 e (mem_adel l k e he), ih h.2⟩

theorem asorted_aputD [DecidableEq α] (l : Assoc α) (k : Nat) (v d : α) (hs : asorted l = true) :
    asorted (aputD l k v d) = true := by
  simp only [aputD]
  split
  · exact asorted_adel l k hs
  · exact asorted_aput l k v hs

theorem asorted_filter (l : Assoc α) (p : Nat × α → Bool) (hs : asorted l = true) : asorted (l.filter p) = true := by
  induction l with
  | nil => rfl
  | cons x l ih =>
    obtain ⟨a, w⟩ := x
    have h := (asorted_cons a w l).mp hs
    simp only [List.filter]
    split
    · rw [asorted_cons]; exact ⟨fun e he => h.1 e (List.mem_filter.mp he).1, ih h.2⟩
    · exact ih h.2

theorem agetD_aputD_same [DecidableEq α] (l : Assoc α) (k : Nat) (v d : α) (hs : asorted l = true) :
    agetD (aputD l k v d) k d = v := by
  simp only [agetD, aputD]
  split
  · next e => rw [aget?_adel_same l k hs, e]; rfl
  · rw [aget?_aput_same]; rfl

/-- A value that is no default reads back, in any map. -/
theorem agetD_aputD_ne [DecidableEq α] (l : Assoc α) (k : Nat) (v d : α) (h : v ≠ d) : agetD (aputD l k v d) k d = v := by
  simp [agetD, aputD, h, aget?_aput_same]

theorem agetD_aputD_other [DecidableEq α] (l : Assoc α) (k j : Nat) (v d e : α) (h : j ≠ k) :
    agetD (aputD l k v d) j e = agetD l j e := by
  simp only [agetD, aputD]
  split
  · rw [aget?_adel_other l k j h]
  · rw [aget?_aput_other l k j v h]

/-! ### Lists -/

@[simp] theorem length_lset (l : List α) (i : Nat) (v : α) : (lset l i v).length = l.length := by
  induction l generalizing i with
  | nil => rfl
  | cons a l ih => cases i <;> simp [lset, ih]

theorem getD_lset_same (l : List α) (i : Nat) (v d : α) (h : i < l.length) : (lset l i v).getD i d = v := by
  induction l generalizing i with
  | nil => simp at h
  | cons a l ih =>
    cases i with
    | zero => simp [lset]
    | succ i => simpa [lset] using ih i (by simpa using h)

theorem getD_lset_other (l : List α) (i j : Nat) (v d : α) (h : j ≠ i) : (lset l i v).getD j d = l.getD j d := by
  induction l generalizing i j with
  | nil => rfl
  | cons a l ih =>
    cases i <;> cases j <;> simp_all [lset]

/-! ### Byte memories (R310, R468) -/

theorem cellRead_eq (l : List Host.Cell) (k : Nat) : cellRead l k = agetD l k 0 := by
  induction l with
  | nil => rfl
  | cons e l ih =>
    obtain ⟨a, v⟩ := e
    simp only [cellRead, agetD, aget?]
    split
    · rfl
    · exact ih

theorem Memory.wf_iff (l : List Host.Cell) : Memory.wf l = true ↔ asorted l = true ∧ ∀ c ∈ l, c.2 ≠ 0 := by
  simp [Memory.wf]

theorem cellRead_cellWrite_same (l : List Host.Cell) (k : Nat) (v : Byte) (h : Memory.wf l = true) :
    cellRead (cellWrite l k v) k = v := by
  rw [cellRead_eq]
  exact agetD_aputD_same l k v 0 ((Memory.wf_iff l).mp h).1

theorem cellRead_cellWrite_other (l : List Host.Cell) (k j : Nat) (v : Byte) (h : j ≠ k) :
    cellRead (cellWrite l k v) j = cellRead l j := by
  rw [cellRead_eq, cellRead_eq]
  exact agetD_aputD_other l k j v 0 0 h

theorem wf_cellWrite (l : List Host.Cell) (k : Nat) (v : Byte) (h : Memory.wf l = true) :
    Memory.wf (cellWrite l k v) = true := by
  rw [Memory.wf_iff] at h ⊢
  refine ⟨asorted_aputD l k v 0 h.1, fun c hc => ?_⟩
  simp only [cellWrite, aputD] at hc
  split at hc
  · exact h.2 c (mem_adel l k c hc)
  · next e =>
    rcases mem_aput l k v c hc with hc | hc
    · subst hc; exact e
    · exact h.2 c hc

/-- Every memory operation keeps the canonical form. -/
theorem wf_cellWrites (bs : List Byte) (l : List Host.Cell) (k : Nat) (h : Memory.wf l = true) :
    Memory.wf (cellWrites l k bs) = true := by
  induction bs generalizing l k with
  | nil => exact h
  | cons b bs ih => exact ih _ _ (wf_cellWrite l k b h)

/-- Bytes outside a written range read as before. -/
theorem cellRead_cellWrites_other (bs : List Byte) (l : List Host.Cell) (k j : Nat) (h : j < k ∨ k + bs.length ≤ j) :
    cellRead (cellWrites l k bs) j = cellRead l j := by
  induction bs generalizing l k with
  | nil => rfl
  | cons b bs ih =>
    simp only [List.length_cons] at h
    simp only [cellWrites]
    rw [ih (cellWrite l k b) (k + 1) (by omega), cellRead_cellWrite_other l k j b (by omega)]

/-- A written range reads back. -/
theorem cellReads_cellWrites (bs : List Byte) (l : List Host.Cell) (k : Nat) (h : Memory.wf l = true) :
    cellReads (cellWrites l k bs) k bs.length = bs := by
  induction bs generalizing l k with
  | nil => rfl
  | cons b bs ih =>
    simp only [List.length_cons, cellReads, cellWrites]
    rw [cellRead_cellWrites_other bs _ (k + 1) k (by omega), cellRead_cellWrite_same l k b h,
      ih (cellWrite l k b) (k + 1) (wf_cellWrite l k b h)]

end Sys2Proof.Machine
end

