-- ==== Sys2Proof/Laws/Dict.lean ====
section
/-!
SUPPORT. The dictionary: its rows are found by their index and sub-index, keys are read back, and a stored value reads as
written.
-/
set_option Elab.async false
namespace Sys2Proof.Machine
open Sys2Proof

/-- Every row of the dictionary is the one that its index and sub-index find, so no two rows share them. -/
theorem dictFind_row : dictTable.all (fun e => dictFind e.idx e.sub == some e) = true := by decide +kernel

theorem keyIdx_dkey (i b e : Nat) (hb : b < 256) (he : e < 65536) : keyIdx (dkey i b e) = i := by
  simp only [keyIdx, dkey]; omega

theorem keySub_dkey (i b e : Nat) (hb : b < 256) (he : e < 65536) : keySub (dkey i b e) = b := by
  simp only [keySub, dkey]; omega

theorem keyElem_dkey (i b e : Nat) (he : e < 65536) : keyElem (dkey i b e) = e := by
  simp only [keyElem, dkey]; omega

/-- A stored value reads back. -/
theorem baseVal_putVal_same (m : Assoc DVal) (k : Nat) (v : DVal) (hs : asorted m = true) : baseVal (putVal m k v) k = v :=
  agetD_aputD_same m k v (keyDefault k) hs

/-- Storing a value leaves every other key alone. -/
theorem baseVal_putVal_other (m : Assoc DVal) (k j : Nat) (v : DVal) (h : j ≠ k) : baseVal (putVal m k v) j = baseVal m j :=
  agetD_aputD_other m k j v (keyDefault k) (keyDefault j) h

theorem asorted_putVal (m : Assoc DVal) (k : Nat) (v : DVal) (hs : asorted m = true) : asorted (putVal m k v) = true :=
  asorted_aputD m k v (keyDefault k) hs

end Sys2Proof.Machine
end

