-- ==== Sys2Proof/Laws/State.lean ====
section
/-!
SUPPORT. One law per field of the state and per operation that changes the state: what the operation leaves of the field, so
that no proof unfolds a record update. All are simp lemmas.
-/
namespace Sys2Proof.Machine
open Sys2Proof

set_option Elab.async false

variable (s : State)

/-! ### emit -/

@[simp] theorem State.emit_pending (o : Out) : (s.emit o).pending = s.pending := rfl
@[simp] theorem State.emit_out (o : Out) : (s.emit o).out = o :: s.out := rfl
@[simp] theorem State.emit_draws (o : Out) : (s.emit o).draws = s.draws := rfl
@[simp] theorem State.emit_tb (o : Out) : (s.emit o).tb = s.tb := rfl
@[simp] theorem State.emit_ptp (o : Out) : (s.emit o).ptp = s.ptp := rfl
@[simp] theorem State.emit_trig (o : Out) : (s.emit o).trig = s.trig := rfl
@[simp] theorem State.emit_owners (o : Out) : (s.emit o).owners = s.owners := rfl
@[simp] theorem State.emit_gpio (o : Out) : (s.emit o).gpio = s.gpio := rfl
@[simp] theorem State.emit_icM (o : Out) : (s.emit o).icM = s.icM := rfl
@[simp] theorem State.emit_icA (o : Out) : (s.emit o).icA = s.icA := rfl
@[simp] theorem State.emit_icB (o : Out) : (s.emit o).icB = s.icB := rfl
@[simp] theorem State.emit_latch (o : Out) : (s.emit o).latch = s.latch := rfl
@[simp] theorem State.emit_regs (o : Out) : (s.emit o).regs = s.regs := rfl
@[simp] theorem State.emit_dict (o : Out) : (s.emit o).dict = s.dict := rfl
@[simp] theorem State.emit_fePend (o : Out) : (s.emit o).fePend = s.fePend := rfl
@[simp] theorem State.emit_sub (o : Out) : (s.emit o).sub = s.sub := rfl
@[simp] theorem State.emit_dam (o : Out) : (s.emit o).dam = s.dam := rfl
@[simp] theorem State.emit_ua (o : Out) : (s.emit o).ua = s.ua := rfl
@[simp] theorem State.emit_ub (o : Out) : (s.emit o).ub = s.ub := rfl
@[simp] theorem State.emit_arb (o : Out) : (s.emit o).arb = s.arb := rfl
@[simp] theorem State.emit_ports (o : Out) : (s.emit o).ports = s.ports := rfl
@[simp] theorem State.emit_st (o : Out) : (s.emit o).st = s.st := rfl
@[simp] theorem State.emit_tdm (o : Out) : (s.emit o).tdm = s.tdm := rfl
@[simp] theorem State.emit_surv (o : Out) : (s.emit o).surv = s.surv := rfl
@[simp] theorem State.emit_isl (o : Out) : (s.emit o).isl = s.isl := rfl
@[simp] theorem State.emit_kao (o : Out) : (s.emit o).kao = s.kao := rfl
@[simp] theorem State.emit_tap (o : Out) : (s.emit o).tap = s.tap := rfl

/-! ### drawn -/

@[simp] theorem State.drawn_pending : (s.drawn).pending = s.pending := rfl
@[simp] theorem State.drawn_out : (s.drawn).out = s.out := rfl
@[simp] theorem State.drawn_draws : (s.drawn).draws = s.draws + 1 := rfl
@[simp] theorem State.drawn_tb : (s.drawn).tb = s.tb := rfl
@[simp] theorem State.drawn_ptp : (s.drawn).ptp = s.ptp := rfl
@[simp] theorem State.drawn_trig : (s.drawn).trig = s.trig := rfl
@[simp] theorem State.drawn_owners : (s.drawn).owners = s.owners := rfl
@[simp] theorem State.drawn_gpio : (s.drawn).gpio = s.gpio := rfl
@[simp] theorem State.drawn_icM : (s.drawn).icM = s.icM := rfl
@[simp] theorem State.drawn_icA : (s.drawn).icA = s.icA := rfl
@[simp] theorem State.drawn_icB : (s.drawn).icB = s.icB := rfl
@[simp] theorem State.drawn_latch : (s.drawn).latch = s.latch := rfl
@[simp] theorem State.drawn_regs : (s.drawn).regs = s.regs := rfl
@[simp] theorem State.drawn_dict : (s.drawn).dict = s.dict := rfl
@[simp] theorem State.drawn_fePend : (s.drawn).fePend = s.fePend := rfl
@[simp] theorem State.drawn_sub : (s.drawn).sub = s.sub := rfl
@[simp] theorem State.drawn_dam : (s.drawn).dam = s.dam := rfl
@[simp] theorem State.drawn_ua : (s.drawn).ua = s.ua := rfl
@[simp] theorem State.drawn_ub : (s.drawn).ub = s.ub := rfl
@[simp] theorem State.drawn_arb : (s.drawn).arb = s.arb := rfl
@[simp] theorem State.drawn_ports : (s.drawn).ports = s.ports := rfl
@[simp] theorem State.drawn_st : (s.drawn).st = s.st := rfl
@[simp] theorem State.drawn_tdm : (s.drawn).tdm = s.tdm := rfl
@[simp] theorem State.drawn_surv : (s.drawn).surv = s.surv := rfl
@[simp] theorem State.drawn_isl : (s.drawn).isl = s.isl := rfl
@[simp] theorem State.drawn_kao : (s.drawn).kao = s.kao := rfl
@[simp] theorem State.drawn_tap : (s.drawn).tap = s.tap := rfl

/-! ### setReg -/

@[simp] theorem State.setReg_pending (sp : Space) (addr v : Nat) : (s.setReg sp addr v).pending = s.pending := rfl
@[simp] theorem State.setReg_out (sp : Space) (addr v : Nat) : (s.setReg sp addr v).out = s.out := rfl
@[simp] theorem State.setReg_draws (sp : Space) (addr v : Nat) : (s.setReg sp addr v).draws = s.draws := rfl
@[simp] theorem State.setReg_tb (sp : Space) (addr v : Nat) : (s.setReg sp addr v).tb = s.tb := rfl
@[simp] theorem State.setReg_ptp (sp : Space) (addr v : Nat) : (s.setReg sp addr v).ptp = s.ptp := rfl
@[simp] theorem State.setReg_trig (sp : Space) (addr v : Nat) : (s.setReg sp addr v).trig = s.trig := rfl
@[simp] theorem State.setReg_owners (sp : Space) (addr v : Nat) : (s.setReg sp addr v).owners = s.owners := rfl
@[simp] theorem State.setReg_gpio (sp : Space) (addr v : Nat) : (s.setReg sp addr v).gpio = s.gpio := rfl
@[simp] theorem State.setReg_icM (sp : Space) (addr v : Nat) : (s.setReg sp addr v).icM = s.icM := rfl
@[simp] theorem State.setReg_icA (sp : Space) (addr v : Nat) : (s.setReg sp addr v).icA = s.icA := rfl
@[simp] theorem State.setReg_icB (sp : Space) (addr v : Nat) : (s.setReg sp addr v).icB = s.icB := rfl
@[simp] theorem State.setReg_latch (sp : Space) (addr v : Nat) : (s.setReg sp addr v).latch = s.latch := rfl
@[simp] theorem State.setReg_regs (sp : Space) (addr v : Nat) : (s.setReg sp addr v).regs = aputD s.regs (regKey sp addr) v (regReset addr) := rfl
@[simp] theorem State.setReg_dict (sp : Space) (addr v : Nat) : (s.setReg sp addr v).dict = s.dict := rfl
@[simp] theorem State.setReg_fePend (sp : Space) (addr v : Nat) : (s.setReg sp addr v).fePend = s.fePend := rfl
@[simp] theorem State.setReg_sub (sp : Space) (addr v : Nat) : (s.setReg sp addr v).sub = s.sub := rfl
@[simp] theorem State.setReg_dam (sp : Space) (addr v : Nat) : (s.setReg sp addr v).dam = s.dam := rfl
@[simp] theorem State.setReg_ua (sp : Space) (addr v : Nat) : (s.setReg sp addr v).ua = s.ua := rfl
@[simp] theorem State.setReg_ub (sp : Space) (addr v : Nat) : (s.setReg sp addr v).ub = s.ub := rfl
@[simp] theorem State.setReg_arb (sp : Space) (addr v : Nat) : (s.setReg sp addr v).arb = s.arb := rfl
@[simp] theorem State.setReg_ports (sp : Space) (addr v : Nat) : (s.setReg sp addr v).ports = s.ports := rfl
@[simp] theorem State.setReg_st (sp : Space) (addr v : Nat) : (s.setReg sp addr v).st = s.st := rfl
@[simp] theorem State.setReg_tdm (sp : Space) (addr v : Nat) : (s.setReg sp addr v).tdm = s.tdm := rfl
@[simp] theorem State.setReg_surv (sp : Space) (addr v : Nat) : (s.setReg sp addr v).surv = s.surv := rfl
@[simp] theorem State.setReg_isl (sp : Space) (addr v : Nat) : (s.setReg sp addr v).isl = s.isl := rfl
@[simp] theorem State.setReg_kao (sp : Space) (addr v : Nat) : (s.setReg sp addr v).kao = s.kao := rfl
@[simp] theorem State.setReg_tap (sp : Space) (addr v : Nat) : (s.setReg sp addr v).tap = s.tap := rfl

/-! ### countReg -/

@[simp] theorem State.countReg_pending (sp : Space) (addr n : Nat) : (s.countReg sp addr n).pending = s.pending := rfl
@[simp] theorem State.countReg_out (sp : Space) (addr n : Nat) : (s.countReg sp addr n).out = s.out := rfl
@[simp] theorem State.countReg_draws (sp : Space) (addr n : Nat) : (s.countReg sp addr n).draws = s.draws := rfl
@[simp] theorem State.countReg_tb (sp : Space) (addr n : Nat) : (s.countReg sp addr n).tb = s.tb := rfl
@[simp] theorem State.countReg_ptp (sp : Space) (addr n : Nat) : (s.countReg sp addr n).ptp = s.ptp := rfl
@[simp] theorem State.countReg_trig (sp : Space) (addr n : Nat) : (s.countReg sp addr n).trig = s.trig := rfl
@[simp] theorem State.countReg_owners (sp : Space) (addr n : Nat) : (s.countReg sp addr n).owners = s.owners := rfl
@[simp] theorem State.countReg_gpio (sp : Space) (addr n : Nat) : (s.countReg sp addr n).gpio = s.gpio := rfl
@[simp] theorem State.countReg_icM (sp : Space) (addr n : Nat) : (s.countReg sp addr n).icM = s.icM := rfl
@[simp] theorem State.countReg_icA (sp : Space) (addr n : Nat) : (s.countReg sp addr n).icA = s.icA := rfl
@[simp] theorem State.countReg_icB (sp : Space) (addr n : Nat) : (s.countReg sp addr n).icB = s.icB := rfl
@[simp] theorem State.countReg_latch (sp : Space) (addr n : Nat) : (s.countReg sp addr n).latch = s.latch := rfl
@[simp] theorem State.countReg_regs (sp : Space) (addr n : Nat) : (s.countReg sp addr n).regs = aputD s.regs (regKey sp addr) (min 0xFFFFFFFF (s.reg sp addr + n)) (regReset addr) := rfl
@[simp] theorem State.countReg_dict (sp : Space) (addr n : Nat) : (s.countReg sp addr n).dict = s.dict := rfl
@[simp] theorem State.countReg_fePend (sp : Space) (addr n : Nat) : (s.countReg sp addr n).fePend = s.fePend := rfl
@[simp] theorem State.countReg_sub (sp : Space) (addr n : Nat) : (s.countReg sp addr n).sub = s.sub := rfl
@[simp] theorem State.countReg_dam (sp : Space) (addr n : Nat) : (s.countReg sp addr n).dam = s.dam := rfl
@[simp] theorem State.countReg_ua (sp : Space) (addr n : Nat) : (s.countReg sp addr n).ua = s.ua := rfl
@[simp] theorem State.countReg_ub (sp : Space) (addr n : Nat) : (s.countReg sp addr n).ub = s.ub := rfl
@[simp] theorem State.countReg_arb (sp : Space) (addr n : Nat) : (s.countReg sp addr n).arb = s.arb := rfl
@[simp] theorem State.countReg_ports (sp : Space) (addr n : Nat) : (s.countReg sp addr n).ports = s.ports := rfl
@[simp] theorem State.countReg_st (sp : Space) (addr n : Nat) : (s.countReg sp addr n).st = s.st := rfl
@[simp] theorem State.countReg_tdm (sp : Space) (addr n : Nat) : (s.countReg sp addr n).tdm = s.tdm := rfl
@[simp] theorem State.countReg_surv (sp : Space) (addr n : Nat) : (s.countReg sp addr n).surv = s.surv := rfl
@[simp] theorem State.countReg_isl (sp : Space) (addr n : Nat) : (s.countReg sp addr n).isl = s.isl := rfl
@[simp] theorem State.countReg_kao (sp : Space) (addr n : Nat) : (s.countReg sp addr n).kao = s.kao := rfl
@[simp] theorem State.countReg_tap (sp : Space) (addr n : Nat) : (s.countReg sp addr n).tap = s.tap := rfl

/-! ### clearStat -/

@[simp] theorem State.clearStat_pending (sp : Space) (addr mask : Nat) : (s.clearStat sp addr mask).pending = s.pending := rfl
@[simp] theorem State.clearStat_out (sp : Space) (addr mask : Nat) : (s.clearStat sp addr mask).out = s.out := rfl
@[simp] theorem State.clearStat_draws (sp : Space) (addr mask : Nat) : (s.clearStat sp addr mask).draws = s.draws := rfl
@[simp] theorem State.clearStat_tb (sp : Space) (addr mask : Nat) : (s.clearStat sp addr mask).tb = s.tb := rfl
@[simp] theorem State.clearStat_ptp (sp : Space) (addr mask : Nat) : (s.clearStat sp addr mask).ptp = s.ptp := rfl
@[simp] theorem State.clearStat_trig (sp : Space) (addr mask : Nat) : (s.clearStat sp addr mask).trig = s.trig := rfl
@[simp] theorem State.clearStat_owners (sp : Space) (addr mask : Nat) : (s.clearStat sp addr mask).owners = s.owners := rfl
@[simp] theorem State.clearStat_gpio (sp : Space) (addr mask : Nat) : (s.clearStat sp addr mask).gpio = s.gpio := rfl
@[simp] theorem State.clearStat_icM (sp : Space) (addr mask : Nat) : (s.clearStat sp addr mask).icM = s.icM := rfl
@[simp] theorem State.clearStat_icA (sp : Space) (addr mask : Nat) : (s.clearStat sp addr mask).icA = s.icA := rfl
@[simp] theorem State.clearStat_icB (sp : Space) (addr mask : Nat) : (s.clearStat sp addr mask).icB = s.icB := rfl
@[simp] theorem State.clearStat_latch (sp : Space) (addr mask : Nat) : (s.clearStat sp addr mask).latch = s.latch := rfl
@[simp] theorem State.clearStat_regs (sp : Space) (addr mask : Nat) : (s.clearStat sp addr mask).regs = aputD s.regs (regKey sp addr) (s.reg sp addr &&& (0xFFFFFFFF ^^^ mask)) (regReset addr) := rfl
@[simp] theorem State.clearStat_dict (sp : Space) (addr mask : Nat) : (s.clearStat sp addr mask).dict = s.dict := rfl
@[simp] theorem State.clearStat_fePend (sp : Space) (addr mask : Nat) : (s.clearStat sp addr mask).fePend = s.fePend := rfl
@[simp] theorem State.clearStat_sub (sp : Space) (addr mask : Nat) : (s.clearStat sp addr mask).sub = s.sub := rfl
@[simp] theorem State.clearStat_dam (sp : Space) (addr mask : Nat) : (s.clearStat sp addr mask).dam = s.dam := rfl
@[simp] theorem State.clearStat_ua (sp : Space) (addr mask : Nat) : (s.clearStat sp addr mask).ua = s.ua := rfl
@[simp] theorem State.clearStat_ub (sp : Space) (addr mask : Nat) : (s.clearStat sp addr mask).ub = s.ub := rfl
@[simp] theorem State.clearStat_arb (sp : Space) (addr mask : Nat) : (s.clearStat sp addr mask).arb = s.arb := rfl
@[simp] theorem State.clearStat_ports (sp : Space) (addr mask : Nat) : (s.clearStat sp addr mask).ports = s.ports := rfl
@[simp] theorem State.clearStat_st (sp : Space) (addr mask : Nat) : (s.clearStat sp addr mask).st = s.st := rfl
@[simp] theorem State.clearStat_tdm (sp : Space) (addr mask : Nat) : (s.clearStat sp addr mask).tdm = s.tdm := rfl
@[simp] theorem State.clearStat_surv (sp : Space) (addr mask : Nat) : (s.clearStat sp addr mask).surv = s.surv := rfl
@[simp] theorem State.clearStat_isl (sp : Space) (addr mask : Nat) : (s.clearStat sp addr mask).isl = s.isl := rfl
@[simp] theorem State.clearStat_kao (sp : Space) (addr mask : Nat) : (s.clearStat sp addr mask).kao = s.kao := rfl
@[simp] theorem State.clearStat_tap (sp : Space) (addr mask : Nat) : (s.clearStat sp addr mask).tap = s.tap := rfl

/-! ### setSess -/

@[simp] theorem State.setSess_pending (n : Nat) (x : Session) : (s.setSess n x).pending = s.pending := rfl
@[simp] theorem State.setSess_out (n : Nat) (x : Session) : (s.setSess n x).out = s.out := rfl
@[simp] theorem State.setSess_draws (n : Nat) (x : Session) : (s.setSess n x).draws = s.draws := rfl
@[simp] theorem State.setSess_tb (n : Nat) (x : Session) : (s.setSess n x).tb = s.tb := rfl
@[simp] theorem State.setSess_ptp (n : Nat) (x : Session) : (s.setSess n x).ptp = s.ptp := rfl
@[simp] theorem State.setSess_trig (n : Nat) (x : Session) : (s.setSess n x).trig = s.trig := rfl
@[simp] theorem State.setSess_owners (n : Nat) (x : Session) : (s.setSess n x).owners = s.owners := rfl
@[simp] theorem State.setSess_gpio (n : Nat) (x : Session) : (s.setSess n x).gpio = s.gpio := rfl
@[simp] theorem State.setSess_icM (n : Nat) (x : Session) : (s.setSess n x).icM = s.icM := rfl
@[simp] theorem State.setSess_icA (n : Nat) (x : Session) : (s.setSess n x).icA = s.icA := rfl
@[simp] theorem State.setSess_icB (n : Nat) (x : Session) : (s.setSess n x).icB = s.icB := rfl
@[simp] theorem State.setSess_latch (n : Nat) (x : Session) : (s.setSess n x).latch = s.latch := rfl
@[simp] theorem State.setSess_regs (n : Nat) (x : Session) : (s.setSess n x).regs = s.regs := rfl
@[simp] theorem State.setSess_dict (n : Nat) (x : Session) : (s.setSess n x).dict = s.dict := rfl
@[simp] theorem State.setSess_fePend (n : Nat) (x : Session) : (s.setSess n x).fePend = s.fePend := rfl
@[simp] theorem State.setSess_sub (n : Nat) (x : Session) : (s.setSess n x).sub = s.sub := rfl
@[simp] theorem State.setSess_dam (n : Nat) (x : Session) : (s.setSess n x).dam = { s.dam with sessions := aputD s.dam.sessions n x {} } := rfl
@[simp] theorem State.setSess_ua (n : Nat) (x : Session) : (s.setSess n x).ua = s.ua := rfl
@[simp] theorem State.setSess_ub (n : Nat) (x : Session) : (s.setSess n x).ub = s.ub := rfl
@[simp] theorem State.setSess_arb (n : Nat) (x : Session) : (s.setSess n x).arb = s.arb := rfl
@[simp] theorem State.setSess_ports (n : Nat) (x : Session) : (s.setSess n x).ports = s.ports := rfl
@[simp] theorem State.setSess_st (n : Nat) (x : Session) : (s.setSess n x).st = s.st := rfl
@[simp] theorem State.setSess_tdm (n : Nat) (x : Session) : (s.setSess n x).tdm = s.tdm := rfl
@[simp] theorem State.setSess_surv (n : Nat) (x : Session) : (s.setSess n x).surv = s.surv := rfl
@[simp] theorem State.setSess_isl (n : Nat) (x : Session) : (s.setSess n x).isl = s.isl := rfl
@[simp] theorem State.setSess_kao (n : Nat) (x : Session) : (s.setSess n x).kao = s.kao := rfl
@[simp] theorem State.setSess_tap (n : Nat) (x : Session) : (s.setSess n x).tap = s.tap := rfl

/-! ### setOwn -/

@[simp] theorem State.setOwn_pending (r : Res) (w : OwnerWord) : (s.setOwn r w).pending = s.pending := rfl
@[simp] theorem State.setOwn_out (r : Res) (w : OwnerWord) : (s.setOwn r w).out = s.out := rfl
@[simp] theorem State.setOwn_draws (r : Res) (w : OwnerWord) : (s.setOwn r w).draws = s.draws := rfl
@[simp] theorem State.setOwn_tb (r : Res) (w : OwnerWord) : (s.setOwn r w).tb = s.tb := rfl
@[simp] theorem State.setOwn_ptp (r : Res) (w : OwnerWord) : (s.setOwn r w).ptp = s.ptp := rfl
@[simp] theorem State.setOwn_trig (r : Res) (w : OwnerWord) : (s.setOwn r w).trig = s.trig := rfl
@[simp] theorem State.setOwn_owners (r : Res) (w : OwnerWord) : (s.setOwn r w).owners = aputD s.owners (resKey r) w {} := rfl
@[simp] theorem State.setOwn_gpio (r : Res) (w : OwnerWord) : (s.setOwn r w).gpio = s.gpio := rfl
@[simp] theorem State.setOwn_icM (r : Res) (w : OwnerWord) : (s.setOwn r w).icM = s.icM := rfl
@[simp] theorem State.setOwn_icA (r : Res) (w : OwnerWord) : (s.setOwn r w).icA = s.icA := rfl
@[simp] theorem State.setOwn_icB (r : Res) (w : OwnerWord) : (s.setOwn r w).icB = s.icB := rfl
@[simp] theorem State.setOwn_latch (r : Res) (w : OwnerWord) : (s.setOwn r w).latch = s.latch := rfl
@[simp] theorem State.setOwn_regs (r : Res) (w : OwnerWord) : (s.setOwn r w).regs = s.regs := rfl
@[simp] theorem State.setOwn_dict (r : Res) (w : OwnerWord) : (s.setOwn r w).dict = s.dict := rfl
@[simp] theorem State.setOwn_fePend (r : Res) (w : OwnerWord) : (s.setOwn r w).fePend = s.fePend := rfl
@[simp] theorem State.setOwn_sub (r : Res) (w : OwnerWord) : (s.setOwn r w).sub = s.sub := rfl
@[simp] theorem State.setOwn_dam (r : Res) (w : OwnerWord) : (s.setOwn r w).dam = s.dam := rfl
@[simp] theorem State.setOwn_ua (r : Res) (w : OwnerWord) : (s.setOwn r w).ua = s.ua := rfl
@[simp] theorem State.setOwn_ub (r : Res) (w : OwnerWord) : (s.setOwn r w).ub = s.ub := rfl
@[simp] theorem State.setOwn_arb (r : Res) (w : OwnerWord) : (s.setOwn r w).arb = s.arb := rfl
@[simp] theorem State.setOwn_ports (r : Res) (w : OwnerWord) : (s.setOwn r w).ports = s.ports := rfl
@[simp] theorem State.setOwn_st (r : Res) (w : OwnerWord) : (s.setOwn r w).st = s.st := rfl
@[simp] theorem State.setOwn_tdm (r : Res) (w : OwnerWord) : (s.setOwn r w).tdm = s.tdm := rfl
@[simp] theorem State.setOwn_surv (r : Res) (w : OwnerWord) : (s.setOwn r w).surv = s.surv := rfl
@[simp] theorem State.setOwn_isl (r : Res) (w : OwnerWord) : (s.setOwn r w).isl = s.isl := rfl
@[simp] theorem State.setOwn_kao (r : Res) (w : OwnerWord) : (s.setOwn r w).kao = s.kao := rfl
@[simp] theorem State.setOwn_tap (r : Res) (w : OwnerWord) : (s.setOwn r w).tap = s.tap := rfl

/-! ### setTt -/

@[simp] theorem State.setTt_pending (t : Nat) (q : Trigger) : (s.setTt t q).pending = s.pending := rfl
@[simp] theorem State.setTt_out (t : Nat) (q : Trigger) : (s.setTt t q).out = s.out := rfl
@[simp] theorem State.setTt_draws (t : Nat) (q : Trigger) : (s.setTt t q).draws = s.draws := rfl
@[simp] theorem State.setTt_tb (t : Nat) (q : Trigger) : (s.setTt t q).tb = s.tb := rfl
@[simp] theorem State.setTt_ptp (t : Nat) (q : Trigger) : (s.setTt t q).ptp = s.ptp := rfl
@[simp] theorem State.setTt_trig (t : Nat) (q : Trigger) : (s.setTt t q).trig = aputD s.trig t q {} := rfl
@[simp] theorem State.setTt_owners (t : Nat) (q : Trigger) : (s.setTt t q).owners = s.owners := rfl
@[simp] theorem State.setTt_gpio (t : Nat) (q : Trigger) : (s.setTt t q).gpio = s.gpio := rfl
@[simp] theorem State.setTt_icM (t : Nat) (q : Trigger) : (s.setTt t q).icM = s.icM := rfl
@[simp] theorem State.setTt_icA (t : Nat) (q : Trigger) : (s.setTt t q).icA = s.icA := rfl
@[simp] theorem State.setTt_icB (t : Nat) (q : Trigger) : (s.setTt t q).icB = s.icB := rfl
@[simp] theorem State.setTt_latch (t : Nat) (q : Trigger) : (s.setTt t q).latch = s.latch := rfl
@[simp] theorem State.setTt_regs (t : Nat) (q : Trigger) : (s.setTt t q).regs = s.regs := rfl
@[simp] theorem State.setTt_dict (t : Nat) (q : Trigger) : (s.setTt t q).dict = s.dict := rfl
@[simp] theorem State.setTt_fePend (t : Nat) (q : Trigger) : (s.setTt t q).fePend = s.fePend := rfl
@[simp] theorem State.setTt_sub (t : Nat) (q : Trigger) : (s.setTt t q).sub = s.sub := rfl
@[simp] theorem State.setTt_dam (t : Nat) (q : Trigger) : (s.setTt t q).dam = s.dam := rfl
@[simp] theorem State.setTt_ua (t : Nat) (q : Trigger) : (s.setTt t q).ua = s.ua := rfl
@[simp] theorem State.setTt_ub (t : Nat) (q : Trigger) : (s.setTt t q).ub = s.ub := rfl
@[simp] theorem State.setTt_arb (t : Nat) (q : Trigger) : (s.setTt t q).arb = s.arb := rfl
@[simp] theorem State.setTt_ports (t : Nat) (q : Trigger) : (s.setTt t q).ports = s.ports := rfl
@[simp] theorem State.setTt_st (t : Nat) (q : Trigger) : (s.setTt t q).st = s.st := rfl
@[simp] theorem State.setTt_tdm (t : Nat) (q : Trigger) : (s.setTt t q).tdm = s.tdm := rfl
@[simp] theorem State.setTt_surv (t : Nat) (q : Trigger) : (s.setTt t q).surv = s.surv := rfl
@[simp] theorem State.setTt_isl (t : Nat) (q : Trigger) : (s.setTt t q).isl = s.isl := rfl
@[simp] theorem State.setTt_kao (t : Nat) (q : Trigger) : (s.setTt t q).kao = s.kao := rfl
@[simp] theorem State.setTt_tap (t : Nat) (q : Trigger) : (s.setTt t q).tap = s.tap := rfl

/-! ### setPort -/

@[simp] theorem State.setPort_pending (p : Nat) (q : Port) : (s.setPort p q).pending = s.pending := rfl
@[simp] theorem State.setPort_out (p : Nat) (q : Port) : (s.setPort p q).out = s.out := rfl
@[simp] theorem State.setPort_draws (p : Nat) (q : Port) : (s.setPort p q).draws = s.draws := rfl
@[simp] theorem State.setPort_tb (p : Nat) (q : Port) : (s.setPort p q).tb = s.tb := rfl
@[simp] theorem State.setPort_ptp (p : Nat) (q : Port) : (s.setPort p q).ptp = s.ptp := rfl
@[simp] theorem State.setPort_trig (p : Nat) (q : Port) : (s.setPort p q).trig = s.trig := rfl
@[simp] theorem State.setPort_owners (p : Nat) (q : Port) : (s.setPort p q).owners = s.owners := rfl
@[simp] theorem State.setPort_gpio (p : Nat) (q : Port) : (s.setPort p q).gpio = s.gpio := rfl
@[simp] theorem State.setPort_icM (p : Nat) (q : Port) : (s.setPort p q).icM = s.icM := rfl
@[simp] theorem State.setPort_icA (p : Nat) (q : Port) : (s.setPort p q).icA = s.icA := rfl
@[simp] theorem State.setPort_icB (p : Nat) (q : Port) : (s.setPort p q).icB = s.icB := rfl
@[simp] theorem State.setPort_latch (p : Nat) (q : Port) : (s.setPort p q).latch = s.latch := rfl
@[simp] theorem State.setPort_regs (p : Nat) (q : Port) : (s.setPort p q).regs = s.regs := rfl
@[simp] theorem State.setPort_dict (p : Nat) (q : Port) : (s.setPort p q).dict = s.dict := rfl
@[simp] theorem State.setPort_fePend (p : Nat) (q : Port) : (s.setPort p q).fePend = s.fePend := rfl
@[simp] theorem State.setPort_sub (p : Nat) (q : Port) : (s.setPort p q).sub = s.sub := rfl
@[simp] theorem State.setPort_dam (p : Nat) (q : Port) : (s.setPort p q).dam = s.dam := rfl
@[simp] theorem State.setPort_ua (p : Nat) (q : Port) : (s.setPort p q).ua = s.ua := rfl
@[simp] theorem State.setPort_ub (p : Nat) (q : Port) : (s.setPort p q).ub = s.ub := rfl
@[simp] theorem State.setPort_arb (p : Nat) (q : Port) : (s.setPort p q).arb = s.arb := rfl
@[simp] theorem State.setPort_ports (p : Nat) (q : Port) : (s.setPort p q).ports = lset s.ports p q := rfl
@[simp] theorem State.setPort_st (p : Nat) (q : Port) : (s.setPort p q).st = s.st := rfl
@[simp] theorem State.setPort_tdm (p : Nat) (q : Port) : (s.setPort p q).tdm = s.tdm := rfl
@[simp] theorem State.setPort_surv (p : Nat) (q : Port) : (s.setPort p q).surv = s.surv := rfl
@[simp] theorem State.setPort_isl (p : Nat) (q : Port) : (s.setPort p q).isl = s.isl := rfl
@[simp] theorem State.setPort_kao (p : Nat) (q : Port) : (s.setPort p q).kao = s.kao := rfl
@[simp] theorem State.setPort_tap (p : Nat) (q : Port) : (s.setPort p q).tap = s.tap := rfl

/-! ### setTdm -/

@[simp] theorem State.setTdm_pending (t : Nat) (q : Tdm) : (s.setTdm t q).pending = s.pending := rfl
@[simp] theorem State.setTdm_out (t : Nat) (q : Tdm) : (s.setTdm t q).out = s.out := rfl
@[simp] theorem State.setTdm_draws (t : Nat) (q : Tdm) : (s.setTdm t q).draws = s.draws := rfl
@[simp] theorem State.setTdm_tb (t : Nat) (q : Tdm) : (s.setTdm t q).tb = s.tb := rfl
@[simp] theorem State.setTdm_ptp (t : Nat) (q : Tdm) : (s.setTdm t q).ptp = s.ptp := rfl
@[simp] theorem State.setTdm_trig (t : Nat) (q : Tdm) : (s.setTdm t q).trig = s.trig := rfl
@[simp] theorem State.setTdm_owners (t : Nat) (q : Tdm) : (s.setTdm t q).owners = s.owners := rfl
@[simp] theorem State.setTdm_gpio (t : Nat) (q : Tdm) : (s.setTdm t q).gpio = s.gpio := rfl
@[simp] theorem State.setTdm_icM (t : Nat) (q : Tdm) : (s.setTdm t q).icM = s.icM := rfl
@[simp] theorem State.setTdm_icA (t : Nat) (q : Tdm) : (s.setTdm t q).icA = s.icA := rfl
@[simp] theorem State.setTdm_icB (t : Nat) (q : Tdm) : (s.setTdm t q).icB = s.icB := rfl
@[simp] theorem State.setTdm_latch (t : Nat) (q : Tdm) : (s.setTdm t q).latch = s.latch := rfl
@[simp] theorem State.setTdm_regs (t : Nat) (q : Tdm) : (s.setTdm t q).regs = s.regs := rfl
@[simp] theorem State.setTdm_dict (t : Nat) (q : Tdm) : (s.setTdm t q).dict = s.dict := rfl
@[simp] theorem State.setTdm_fePend (t : Nat) (q : Tdm) : (s.setTdm t q).fePend = s.fePend := rfl
@[simp] theorem State.setTdm_sub (t : Nat) (q : Tdm) : (s.setTdm t q).sub = s.sub := rfl
@[simp] theorem State.setTdm_dam (t : Nat) (q : Tdm) : (s.setTdm t q).dam = s.dam := rfl
@[simp] theorem State.setTdm_ua (t : Nat) (q : Tdm) : (s.setTdm t q).ua = s.ua := rfl
@[simp] theorem State.setTdm_ub (t : Nat) (q : Tdm) : (s.setTdm t q).ub = s.ub := rfl
@[simp] theorem State.setTdm_arb (t : Nat) (q : Tdm) : (s.setTdm t q).arb = s.arb := rfl
@[simp] theorem State.setTdm_ports (t : Nat) (q : Tdm) : (s.setTdm t q).ports = s.ports := rfl
@[simp] theorem State.setTdm_st (t : Nat) (q : Tdm) : (s.setTdm t q).st = s.st := rfl
@[simp] theorem State.setTdm_tdm (t : Nat) (q : Tdm) : (s.setTdm t q).tdm = lset s.tdm t q := rfl
@[simp] theorem State.setTdm_surv (t : Nat) (q : Tdm) : (s.setTdm t q).surv = s.surv := rfl
@[simp] theorem State.setTdm_isl (t : Nat) (q : Tdm) : (s.setTdm t q).isl = s.isl := rfl
@[simp] theorem State.setTdm_kao (t : Nat) (q : Tdm) : (s.setTdm t q).kao = s.kao := rfl
@[simp] theorem State.setTdm_tap (t : Nat) (q : Tdm) : (s.setTdm t q).tap = s.tap := rfl

/-! ### setLeg -/

@[simp] theorem State.setLeg_pending (l : Nat) (q : IsLeg) : (s.setLeg l q).pending = s.pending := rfl
@[simp] theorem State.setLeg_out (l : Nat) (q : IsLeg) : (s.setLeg l q).out = s.out := rfl
@[simp] theorem State.setLeg_draws (l : Nat) (q : IsLeg) : (s.setLeg l q).draws = s.draws := rfl
@[simp] theorem State.setLeg_tb (l : Nat) (q : IsLeg) : (s.setLeg l q).tb = s.tb := rfl
@[simp] theorem State.setLeg_ptp (l : Nat) (q : IsLeg) : (s.setLeg l q).ptp = s.ptp := rfl
@[simp] theorem State.setLeg_trig (l : Nat) (q : IsLeg) : (s.setLeg l q).trig = s.trig := rfl
@[simp] theorem State.setLeg_owners (l : Nat) (q : IsLeg) : (s.setLeg l q).owners = s.owners := rfl
@[simp] theorem State.setLeg_gpio (l : Nat) (q : IsLeg) : (s.setLeg l q).gpio = s.gpio := rfl
@[simp] theorem State.setLeg_icM (l : Nat) (q : IsLeg) : (s.setLeg l q).icM = s.icM := rfl
@[simp] theorem State.setLeg_icA (l : Nat) (q : IsLeg) : (s.setLeg l q).icA = s.icA := rfl
@[simp] theorem State.setLeg_icB (l : Nat) (q : IsLeg) : (s.setLeg l q).icB = s.icB := rfl
@[simp] theorem State.setLeg_latch (l : Nat) (q : IsLeg) : (s.setLeg l q).latch = s.latch := rfl
@[simp] theorem State.setLeg_regs (l : Nat) (q : IsLeg) : (s.setLeg l q).regs = s.regs := rfl
@[simp] theorem State.setLeg_dict (l : Nat) (q : IsLeg) : (s.setLeg l q).dict = s.dict := rfl
@[simp] theorem State.setLeg_fePend (l : Nat) (q : IsLeg) : (s.setLeg l q).fePend = s.fePend := rfl
@[simp] theorem State.setLeg_sub (l : Nat) (q : IsLeg) : (s.setLeg l q).sub = s.sub := rfl
@[simp] theorem State.setLeg_dam (l : Nat) (q : IsLeg) : (s.setLeg l q).dam = s.dam := rfl
@[simp] theorem State.setLeg_ua (l : Nat) (q : IsLeg) : (s.setLeg l q).ua = s.ua := rfl
@[simp] theorem State.setLeg_ub (l : Nat) (q : IsLeg) : (s.setLeg l q).ub = s.ub := rfl
@[simp] theorem State.setLeg_arb (l : Nat) (q : IsLeg) : (s.setLeg l q).arb = s.arb := rfl
@[simp] theorem State.setLeg_ports (l : Nat) (q : IsLeg) : (s.setLeg l q).ports = s.ports := rfl
@[simp] theorem State.setLeg_st (l : Nat) (q : IsLeg) : (s.setLeg l q).st = { s.st with legs := aputD s.st.legs l q {} } := rfl
@[simp] theorem State.setLeg_tdm (l : Nat) (q : IsLeg) : (s.setLeg l q).tdm = s.tdm := rfl
@[simp] theorem State.setLeg_surv (l : Nat) (q : IsLeg) : (s.setLeg l q).surv = s.surv := rfl
@[simp] theorem State.setLeg_isl (l : Nat) (q : IsLeg) : (s.setLeg l q).isl = s.isl := rfl
@[simp] theorem State.setLeg_kao (l : Nat) (q : IsLeg) : (s.setLeg l q).kao = s.kao := rfl
@[simp] theorem State.setLeg_tap (l : Nat) (q : IsLeg) : (s.setLeg l q).tap = s.tap := rfl

/-! ### onKao -/

@[simp] theorem State.onKao_pending (f : Mirror → Mirror) : (s.onKao f).pending = s.pending := rfl
@[simp] theorem State.onKao_out (f : Mirror → Mirror) : (s.onKao f).out = s.out := rfl
@[simp] theorem State.onKao_draws (f : Mirror → Mirror) : (s.onKao f).draws = s.draws := rfl
@[simp] theorem State.onKao_tb (f : Mirror → Mirror) : (s.onKao f).tb = s.tb := rfl
@[simp] theorem State.onKao_ptp (f : Mirror → Mirror) : (s.onKao f).ptp = s.ptp := rfl
@[simp] theorem State.onKao_trig (f : Mirror → Mirror) : (s.onKao f).trig = s.trig := rfl
@[simp] theorem State.onKao_owners (f : Mirror → Mirror) : (s.onKao f).owners = s.owners := rfl
@[simp] theorem State.onKao_gpio (f : Mirror → Mirror) : (s.onKao f).gpio = s.gpio := rfl
@[simp] theorem State.onKao_icM (f : Mirror → Mirror) : (s.onKao f).icM = s.icM := rfl
@[simp] theorem State.onKao_icA (f : Mirror → Mirror) : (s.onKao f).icA = s.icA := rfl
@[simp] theorem State.onKao_icB (f : Mirror → Mirror) : (s.onKao f).icB = s.icB := rfl
@[simp] theorem State.onKao_latch (f : Mirror → Mirror) : (s.onKao f).latch = s.latch := rfl
@[simp] theorem State.onKao_regs (f : Mirror → Mirror) : (s.onKao f).regs = s.regs := rfl
@[simp] theorem State.onKao_dict (f : Mirror → Mirror) : (s.onKao f).dict = s.dict := rfl
@[simp] theorem State.onKao_fePend (f : Mirror → Mirror) : (s.onKao f).fePend = s.fePend := rfl
@[simp] theorem State.onKao_sub (f : Mirror → Mirror) : (s.onKao f).sub = s.sub := rfl
@[simp] theorem State.onKao_dam (f : Mirror → Mirror) : (s.onKao f).dam = s.dam := rfl
@[simp] theorem State.onKao_ua (f : Mirror → Mirror) : (s.onKao f).ua = s.ua := rfl
@[simp] theorem State.onKao_ub (f : Mirror → Mirror) : (s.onKao f).ub = s.ub := rfl
@[simp] theorem State.onKao_arb (f : Mirror → Mirror) : (s.onKao f).arb = s.arb := rfl
@[simp] theorem State.onKao_ports (f : Mirror → Mirror) : (s.onKao f).ports = s.ports := rfl
@[simp] theorem State.onKao_st (f : Mirror → Mirror) : (s.onKao f).st = s.st := rfl
@[simp] theorem State.onKao_tdm (f : Mirror → Mirror) : (s.onKao f).tdm = s.tdm := rfl
@[simp] theorem State.onKao_surv (f : Mirror → Mirror) : (s.onKao f).surv = s.surv := rfl
@[simp] theorem State.onKao_isl (f : Mirror → Mirror) : (s.onKao f).isl = s.isl := rfl
@[simp] theorem State.onKao_kao (f : Mirror → Mirror) : (s.onKao f).kao = f s.kao := rfl
@[simp] theorem State.onKao_tap (f : Mirror → Mirror) : (s.onKao f).tap = s.tap := rfl

/-! ### onIsl -/

@[simp] theorem State.onIsl_pending (f : Island → Island) : (s.onIsl f).pending = s.pending := rfl
@[simp] theorem State.onIsl_out (f : Island → Island) : (s.onIsl f).out = s.out := rfl
@[simp] theorem State.onIsl_draws (f : Island → Island) : (s.onIsl f).draws = s.draws := rfl
@[simp] theorem State.onIsl_tb (f : Island → Island) : (s.onIsl f).tb = s.tb := rfl
@[simp] theorem State.onIsl_ptp (f : Island → Island) : (s.onIsl f).ptp = s.ptp := rfl
@[simp] theorem State.onIsl_trig (f : Island → Island) : (s.onIsl f).trig = s.trig := rfl
@[simp] theorem State.onIsl_owners (f : Island → Island) : (s.onIsl f).owners = s.owners := rfl
@[simp] theorem State.onIsl_gpio (f : Island → Island) : (s.onIsl f).gpio = s.gpio := rfl
@[simp] theorem State.onIsl_icM (f : Island → Island) : (s.onIsl f).icM = s.icM := rfl
@[simp] theorem State.onIsl_icA (f : Island → Island) : (s.onIsl f).icA = s.icA := rfl
@[simp] theorem State.onIsl_icB (f : Island → Island) : (s.onIsl f).icB = s.icB := rfl
@[simp] theorem State.onIsl_latch (f : Island → Island) : (s.onIsl f).latch = s.latch := rfl
@[simp] theorem State.onIsl_regs (f : Island → Island) : (s.onIsl f).regs = s.regs := rfl
@[simp] theorem State.onIsl_dict (f : Island → Island) : (s.onIsl f).dict = s.dict := rfl
@[simp] theorem State.onIsl_fePend (f : Island → Island) : (s.onIsl f).fePend = s.fePend := rfl
@[simp] theorem State.onIsl_sub (f : Island → Island) : (s.onIsl f).sub = s.sub := rfl
@[simp] theorem State.onIsl_dam (f : Island → Island) : (s.onIsl f).dam = s.dam := rfl
@[simp] theorem State.onIsl_ua (f : Island → Island) : (s.onIsl f).ua = s.ua := rfl
@[simp] theorem State.onIsl_ub (f : Island → Island) : (s.onIsl f).ub = s.ub := rfl
@[simp] theorem State.onIsl_arb (f : Island → Island) : (s.onIsl f).arb = s.arb := rfl
@[simp] theorem State.onIsl_ports (f : Island → Island) : (s.onIsl f).ports = s.ports := rfl
@[simp] theorem State.onIsl_st (f : Island → Island) : (s.onIsl f).st = s.st := rfl
@[simp] theorem State.onIsl_tdm (f : Island → Island) : (s.onIsl f).tdm = s.tdm := rfl
@[simp] theorem State.onIsl_surv (f : Island → Island) : (s.onIsl f).surv = s.surv := rfl
@[simp] theorem State.onIsl_isl (f : Island → Island) : (s.onIsl f).isl = f s.isl := rfl
@[simp] theorem State.onIsl_kao (f : Island → Island) : (s.onIsl f).kao = s.kao := rfl
@[simp] theorem State.onIsl_tap (f : Island → Island) : (s.onIsl f).tap = s.tap := rfl

/-! ### onArb -/

@[simp] theorem State.onArb_pending (f : Arbiter → Arbiter) : (s.onArb f).pending = s.pending := rfl
@[simp] theorem State.onArb_out (f : Arbiter → Arbiter) : (s.onArb f).out = s.out := rfl
@[simp] theorem State.onArb_draws (f : Arbiter → Arbiter) : (s.onArb f).draws = s.draws := rfl
@[simp] theorem State.onArb_tb (f : Arbiter → Arbiter) : (s.onArb f).tb = s.tb := rfl
@[simp] theorem State.onArb_ptp (f : Arbiter → Arbiter) : (s.onArb f).ptp = s.ptp := rfl
@[simp] theorem State.onArb_trig (f : Arbiter → Arbiter) : (s.onArb f).trig = s.trig := rfl
@[simp] theorem State.onArb_owners (f : Arbiter → Arbiter) : (s.onArb f).owners = s.owners := rfl
@[simp] theorem State.onArb_gpio (f : Arbiter → Arbiter) : (s.onArb f).gpio = s.gpio := rfl
@[simp] theorem State.onArb_icM (f : Arbiter → Arbiter) : (s.onArb f).icM = s.icM := rfl
@[simp] theorem State.onArb_icA (f : Arbiter → Arbiter) : (s.onArb f).icA = s.icA := rfl
@[simp] theorem State.onArb_icB (f : Arbiter → Arbiter) : (s.onArb f).icB = s.icB := rfl
@[simp] theorem State.onArb_latch (f : Arbiter → Arbiter) : (s.onArb f).latch = s.latch := rfl
@[simp] theorem State.onArb_regs (f : Arbiter → Arbiter) : (s.onArb f).regs = s.regs := rfl
@[simp] theorem State.onArb_dict (f : Arbiter → Arbiter) : (s.onArb f).dict = s.dict := rfl
@[simp] theorem State.onArb_fePend (f : Arbiter → Arbiter) : (s.onArb f).fePend = s.fePend := rfl
@[simp] theorem State.onArb_sub (f : Arbiter → Arbiter) : (s.onArb f).sub = s.sub := rfl
@[simp] theorem State.onArb_dam (f : Arbiter → Arbiter) : (s.onArb f).dam = s.dam := rfl
@[simp] theorem State.onArb_ua (f : Arbiter → Arbiter) : (s.onArb f).ua = s.ua := rfl
@[simp] theorem State.onArb_ub (f : Arbiter → Arbiter) : (s.onArb f).ub = s.ub := rfl
@[simp] theorem State.onArb_arb (f : Arbiter → Arbiter) : (s.onArb f).arb = f s.arb := rfl
@[simp] theorem State.onArb_ports (f : Arbiter → Arbiter) : (s.onArb f).ports = s.ports := rfl
@[simp] theorem State.onArb_st (f : Arbiter → Arbiter) : (s.onArb f).st = s.st := rfl
@[simp] theorem State.onArb_tdm (f : Arbiter → Arbiter) : (s.onArb f).tdm = s.tdm := rfl
@[simp] theorem State.onArb_surv (f : Arbiter → Arbiter) : (s.onArb f).surv = s.surv := rfl
@[simp] theorem State.onArb_isl (f : Arbiter → Arbiter) : (s.onArb f).isl = s.isl := rfl
@[simp] theorem State.onArb_kao (f : Arbiter → Arbiter) : (s.onArb f).kao = s.kao := rfl
@[simp] theorem State.onArb_tap (f : Arbiter → Arbiter) : (s.onArb f).tap = s.tap := rfl

/-! ### setInbound -/

@[simp] theorem State.setInbound_pending (l : List KaoIn) : (s.setInbound l).pending = s.pending := rfl
@[simp] theorem State.setInbound_out (l : List KaoIn) : (s.setInbound l).out = s.out := rfl
@[simp] theorem State.setInbound_draws (l : List KaoIn) : (s.setInbound l).draws = s.draws := rfl
@[simp] theorem State.setInbound_tb (l : List KaoIn) : (s.setInbound l).tb = s.tb := rfl
@[simp] theorem State.setInbound_ptp (l : List KaoIn) : (s.setInbound l).ptp = s.ptp := rfl
@[simp] theorem State.setInbound_trig (l : List KaoIn) : (s.setInbound l).trig = s.trig := rfl
@[simp] theorem State.setInbound_owners (l : List KaoIn) : (s.setInbound l).owners = s.owners := rfl
@[simp] theorem State.setInbound_gpio (l : List KaoIn) : (s.setInbound l).gpio = s.gpio := rfl
@[simp] theorem State.setInbound_icM (l : List KaoIn) : (s.setInbound l).icM = s.icM := rfl
@[simp] theorem State.setInbound_icA (l : List KaoIn) : (s.setInbound l).icA = s.icA := rfl
@[simp] theorem State.setInbound_icB (l : List KaoIn) : (s.setInbound l).icB = s.icB := rfl
@[simp] theorem State.setInbound_latch (l : List KaoIn) : (s.setInbound l).latch = s.latch := rfl
@[simp] theorem State.setInbound_regs (l : List KaoIn) : (s.setInbound l).regs = s.regs := rfl
@[simp] theorem State.setInbound_dict (l : List KaoIn) : (s.setInbound l).dict = s.dict := rfl
@[simp] theorem State.setInbound_fePend (l : List KaoIn) : (s.setInbound l).fePend = s.fePend := rfl
@[simp] theorem State.setInbound_sub (l : List KaoIn) : (s.setInbound l).sub = s.sub := rfl
@[simp] theorem State.setInbound_dam (l : List KaoIn) : (s.setInbound l).dam = s.dam := rfl
@[simp] theorem State.setInbound_ua (l : List KaoIn) : (s.setInbound l).ua = s.ua := rfl
@[simp] theorem State.setInbound_ub (l : List KaoIn) : (s.setInbound l).ub = s.ub := rfl
@[simp] theorem State.setInbound_arb (l : List KaoIn) : (s.setInbound l).arb = s.arb := rfl
@[simp] theorem State.setInbound_ports (l : List KaoIn) : (s.setInbound l).ports = s.ports := rfl
@[simp] theorem State.setInbound_st (l : List KaoIn) : (s.setInbound l).st = s.st := rfl
@[simp] theorem State.setInbound_tdm (l : List KaoIn) : (s.setInbound l).tdm = s.tdm := rfl
@[simp] theorem State.setInbound_surv (l : List KaoIn) : (s.setInbound l).surv = s.surv := rfl
@[simp] theorem State.setInbound_isl (l : List KaoIn) : (s.setInbound l).isl = s.isl := rfl
@[simp] theorem State.setInbound_kao (l : List KaoIn) : (s.setInbound l).kao = { s.kao with inbound := l } := rfl
@[simp] theorem State.setInbound_tap (l : List KaoIn) : (s.setInbound l).tap = s.tap := rfl

/-! ### setUnit -/

@[simp] theorem State.setUnit_pending (u : UnitId) (r : RUnit) : (s.setUnit u r).pending = s.pending := by cases u <;> rfl
@[simp] theorem State.setUnit_out (u : UnitId) (r : RUnit) : (s.setUnit u r).out = s.out := by cases u <;> rfl
@[simp] theorem State.setUnit_draws (u : UnitId) (r : RUnit) : (s.setUnit u r).draws = s.draws := by cases u <;> rfl
@[simp] theorem State.setUnit_tb (u : UnitId) (r : RUnit) : (s.setUnit u r).tb = s.tb := by cases u <;> rfl
@[simp] theorem State.setUnit_ptp (u : UnitId) (r : RUnit) : (s.setUnit u r).ptp = s.ptp := by cases u <;> rfl
@[simp] theorem State.setUnit_trig (u : UnitId) (r : RUnit) : (s.setUnit u r).trig = s.trig := by cases u <;> rfl
@[simp] theorem State.setUnit_owners (u : UnitId) (r : RUnit) : (s.setUnit u r).owners = s.owners := by cases u <;> rfl
@[simp] theorem State.setUnit_gpio (u : UnitId) (r : RUnit) : (s.setUnit u r).gpio = s.gpio := by cases u <;> rfl
@[simp] theorem State.setUnit_icM (u : UnitId) (r : RUnit) : (s.setUnit u r).icM = s.icM := by cases u <;> rfl
@[simp] theorem State.setUnit_icA (u : UnitId) (r : RUnit) : (s.setUnit u r).icA = s.icA := by cases u <;> rfl
@[simp] theorem State.setUnit_icB (u : UnitId) (r : RUnit) : (s.setUnit u r).icB = s.icB := by cases u <;> rfl
@[simp] theorem State.setUnit_latch (u : UnitId) (r : RUnit) : (s.setUnit u r).latch = s.latch := by cases u <;> rfl
@[simp] theorem State.setUnit_regs (u : UnitId) (r : RUnit) : (s.setUnit u r).regs = s.regs := by cases u <;> rfl
@[simp] theorem State.setUnit_dict (u : UnitId) (r : RUnit) : (s.setUnit u r).dict = s.dict := by cases u <;> rfl
@[simp] theorem State.setUnit_fePend (u : UnitId) (r : RUnit) : (s.setUnit u r).fePend = s.fePend := by cases u <;> rfl
@[simp] theorem State.setUnit_sub (u : UnitId) (r : RUnit) : (s.setUnit u r).sub = s.sub := by cases u <;> rfl
@[simp] theorem State.setUnit_dam (u : UnitId) (r : RUnit) : (s.setUnit u r).dam = s.dam := by cases u <;> rfl
@[simp] theorem State.setUnit_arb (u : UnitId) (r : RUnit) : (s.setUnit u r).arb = s.arb := by cases u <;> rfl
@[simp] theorem State.setUnit_ports (u : UnitId) (r : RUnit) : (s.setUnit u r).ports = s.ports := by cases u <;> rfl
@[simp] theorem State.setUnit_st (u : UnitId) (r : RUnit) : (s.setUnit u r).st = s.st := by cases u <;> rfl
@[simp] theorem State.setUnit_tdm (u : UnitId) (r : RUnit) : (s.setUnit u r).tdm = s.tdm := by cases u <;> rfl
@[simp] theorem State.setUnit_surv (u : UnitId) (r : RUnit) : (s.setUnit u r).surv = s.surv := by cases u <;> rfl
@[simp] theorem State.setUnit_isl (u : UnitId) (r : RUnit) : (s.setUnit u r).isl = s.isl := by cases u <;> rfl
@[simp] theorem State.setUnit_kao (u : UnitId) (r : RUnit) : (s.setUnit u r).kao = s.kao := by cases u <;> rfl
@[simp] theorem State.setUnit_tap (u : UnitId) (r : RUnit) : (s.setUnit u r).tap = s.tap := by cases u <;> rfl

/-! ### onUnit -/

@[simp] theorem State.onUnit_pending (u : UnitId) (f : RUnit → RUnit) : (s.onUnit u f).pending = s.pending := by cases u <;> rfl
@[simp] theorem State.onUnit_out (u : UnitId) (f : RUnit → RUnit) : (s.onUnit u f).out = s.out := by cases u <;> rfl
@[simp] theorem State.onUnit_draws (u : UnitId) (f : RUnit → RUnit) : (s.onUnit u f).draws = s.draws := by cases u <;> rfl
@[simp] theorem State.onUnit_tb (u : UnitId) (f : RUnit → RUnit) : (s.onUnit u f).tb = s.tb := by cases u <;> rfl
@[simp] theorem State.onUnit_ptp (u : UnitId) (f : RUnit → RUnit) : (s.onUnit u f).ptp = s.ptp := by cases u <;> rfl
@[simp] theorem State.onUnit_trig (u : UnitId) (f : RUnit → RUnit) : (s.onUnit u f).trig = s.trig := by cases u <;> rfl
@[simp] theorem State.onUnit_owners (u : UnitId) (f : RUnit → RUnit) : (s.onUnit u f).owners = s.owners := by cases u <;> rfl
@[simp] theorem State.onUnit_gpio (u : UnitId) (f : RUnit → RUnit) : (s.onUnit u f).gpio = s.gpio := by cases u <;> rfl
@[simp] theorem State.onUnit_icM (u : UnitId) (f : RUnit → RUnit) : (s.onUnit u f).icM = s.icM := by cases u <;> rfl
@[simp] theorem State.onUnit_icA (u : UnitId) (f : RUnit → RUnit) : (s.onUnit u f).icA = s.icA := by cases u <;> rfl
@[simp] theorem State.onUnit_icB (u : UnitId) (f : RUnit → RUnit) : (s.onUnit u f).icB = s.icB := by cases u <;> rfl
@[simp] theorem State.onUnit_latch (u : UnitId) (f : RUnit → RUnit) : (s.onUnit u f).latch = s.latch := by cases u <;> rfl
@[simp] theorem State.onUnit_regs (u : UnitId) (f : RUnit → RUnit) : (s.onUnit u f).regs = s.regs := by cases u <;> rfl
@[simp] theorem State.onUnit_dict (u : UnitId) (f : RUnit → RUnit) : (s.onUnit u f).dict = s.dict := by cases u <;> rfl
@[simp] theorem State.onUnit_fePend (u : UnitId) (f : RUnit → RUnit) : (s.onUnit u f).fePend = s.fePend := by cases u <;> rfl
@[simp] theorem State.onUnit_sub (u : UnitId) (f : RUnit → RUnit) : (s.onUnit u f).sub = s.sub := by cases u <;> rfl
@[simp] theorem State.onUnit_dam (u : UnitId) (f : RUnit → RUnit) : (s.onUnit u f).dam = s.dam := by cases u <;> rfl
@[simp] theorem State.onUnit_arb (u : UnitId) (f : RUnit → RUnit) : (s.onUnit u f).arb = s.arb := by cases u <;> rfl
@[simp] theorem State.onUnit_ports (u : UnitId) (f : RUnit → RUnit) : (s.onUnit u f).ports = s.ports := by cases u <;> rfl
@[simp] theorem State.onUnit_st (u : UnitId) (f : RUnit → RUnit) : (s.onUnit u f).st = s.st := by cases u <;> rfl
@[simp] theorem State.onUnit_tdm (u : UnitId) (f : RUnit → RUnit) : (s.onUnit u f).tdm = s.tdm := by cases u <;> rfl
@[simp] theorem State.onUnit_surv (u : UnitId) (f : RUnit → RUnit) : (s.onUnit u f).surv = s.surv := by cases u <;> rfl
@[simp] theorem State.onUnit_isl (u : UnitId) (f : RUnit → RUnit) : (s.onUnit u f).isl = s.isl := by cases u <;> rfl
@[simp] theorem State.onUnit_kao (u : UnitId) (f : RUnit → RUnit) : (s.onUnit u f).kao = s.kao := by cases u <;> rfl
@[simp] theorem State.onUnit_tap (u : UnitId) (f : RUnit → RUnit) : (s.onUnit u f).tap = s.tap := by cases u <;> rfl

/-! ### onFab -/

@[simp] theorem State.onFab_pending (u : UnitId) (f : Fabric → Fabric) : (s.onFab u f).pending = s.pending := by cases u <;> rfl
@[simp] theorem State.onFab_out (u : UnitId) (f : Fabric → Fabric) : (s.onFab u f).out = s.out := by cases u <;> rfl
@[simp] theorem State.onFab_draws (u : UnitId) (f : Fabric → Fabric) : (s.onFab u f).draws = s.draws := by cases u <;> rfl
@[simp] theorem State.onFab_tb (u : UnitId) (f : Fabric → Fabric) : (s.onFab u f).tb = s.tb := by cases u <;> rfl
@[simp] theorem State.onFab_ptp (u : UnitId) (f : Fabric → Fabric) : (s.onFab u f).ptp = s.ptp := by cases u <;> rfl
@[simp] theorem State.onFab_trig (u : UnitId) (f : Fabric → Fabric) : (s.onFab u f).trig = s.trig := by cases u <;> rfl
@[simp] theorem State.onFab_owners (u : UnitId) (f : Fabric → Fabric) : (s.onFab u f).owners = s.owners := by cases u <;> rfl
@[simp] theorem State.onFab_gpio (u : UnitId) (f : Fabric → Fabric) : (s.onFab u f).gpio = s.gpio := by cases u <;> rfl
@[simp] theorem State.onFab_icM (u : UnitId) (f : Fabric → Fabric) : (s.onFab u f).icM = s.icM := by cases u <;> rfl
@[simp] theorem State.onFab_icA (u : UnitId) (f : Fabric → Fabric) : (s.onFab u f).icA = s.icA := by cases u <;> rfl
@[simp] theorem State.onFab_icB (u : UnitId) (f : Fabric → Fabric) : (s.onFab u f).icB = s.icB := by cases u <;> rfl
@[simp] theorem State.onFab_latch (u : UnitId) (f : Fabric → Fabric) : (s.onFab u f).latch = s.latch := by cases u <;> rfl
@[simp] theorem State.onFab_regs (u : UnitId) (f : Fabric → Fabric) : (s.onFab u f).regs = s.regs := by cases u <;> rfl
@[simp] theorem State.onFab_dict (u : UnitId) (f : Fabric → Fabric) : (s.onFab u f).dict = s.dict := by cases u <;> rfl
@[simp] theorem State.onFab_fePend (u : UnitId) (f : Fabric → Fabric) : (s.onFab u f).fePend = s.fePend := by cases u <;> rfl
@[simp] theorem State.onFab_sub (u : UnitId) (f : Fabric → Fabric) : (s.onFab u f).sub = s.sub := by cases u <;> rfl
@[simp] theorem State.onFab_dam (u : UnitId) (f : Fabric → Fabric) : (s.onFab u f).dam = s.dam := by cases u <;> rfl
@[simp] theorem State.onFab_arb (u : UnitId) (f : Fabric → Fabric) : (s.onFab u f).arb = s.arb := by cases u <;> rfl
@[simp] theorem State.onFab_ports (u : UnitId) (f : Fabric → Fabric) : (s.onFab u f).ports = s.ports := by cases u <;> rfl
@[simp] theorem State.onFab_st (u : UnitId) (f : Fabric → Fabric) : (s.onFab u f).st = s.st := by cases u <;> rfl
@[simp] theorem State.onFab_tdm (u : UnitId) (f : Fabric → Fabric) : (s.onFab u f).tdm = s.tdm := by cases u <;> rfl
@[simp] theorem State.onFab_surv (u : UnitId) (f : Fabric → Fabric) : (s.onFab u f).surv = s.surv := by cases u <;> rfl
@[simp] theorem State.onFab_isl (u : UnitId) (f : Fabric → Fabric) : (s.onFab u f).isl = s.isl := by cases u <;> rfl
@[simp] theorem State.onFab_kao (u : UnitId) (f : Fabric → Fabric) : (s.onFab u f).kao = s.kao := by cases u <;> rfl
@[simp] theorem State.onFab_tap (u : UnitId) (f : Fabric → Fabric) : (s.onFab u f).tap = s.tap := by cases u <;> rfl

/-! ### onLp -/

@[simp] theorem State.onLp_pending (u : UnitId) (f : Lp5 → Lp5) : (s.onLp u f).pending = s.pending := by cases u <;> rfl
@[simp] theorem State.onLp_out (u : UnitId) (f : Lp5 → Lp5) : (s.onLp u f).out = s.out := by cases u <;> rfl
@[simp] theorem State.onLp_draws (u : UnitId) (f : Lp5 → Lp5) : (s.onLp u f).draws = s.draws := by cases u <;> rfl
@[simp] theorem State.onLp_tb (u : UnitId) (f : Lp5 → Lp5) : (s.onLp u f).tb = s.tb := by cases u <;> rfl
@[simp] theorem State.onLp_ptp (u : UnitId) (f : Lp5 → Lp5) : (s.onLp u f).ptp = s.ptp := by cases u <;> rfl
@[simp] theorem State.onLp_trig (u : UnitId) (f : Lp5 → Lp5) : (s.onLp u f).trig = s.trig := by cases u <;> rfl
@[simp] theorem State.onLp_owners (u : UnitId) (f : Lp5 → Lp5) : (s.onLp u f).owners = s.owners := by cases u <;> rfl
@[simp] theorem State.onLp_gpio (u : UnitId) (f : Lp5 → Lp5) : (s.onLp u f).gpio = s.gpio := by cases u <;> rfl
@[simp] theorem State.onLp_icM (u : UnitId) (f : Lp5 → Lp5) : (s.onLp u f).icM = s.icM := by cases u <;> rfl
@[simp] theorem State.onLp_icA (u : UnitId) (f : Lp5 → Lp5) : (s.onLp u f).icA = s.icA := by cases u <;> rfl
@[simp] theorem State.onLp_icB (u : UnitId) (f : Lp5 → Lp5) : (s.onLp u f).icB = s.icB := by cases u <;> rfl
@[simp] theorem State.onLp_latch (u : UnitId) (f : Lp5 → Lp5) : (s.onLp u f).latch = s.latch := by cases u <;> rfl
@[simp] theorem State.onLp_regs (u : UnitId) (f : Lp5 → Lp5) : (s.onLp u f).regs = s.regs := by cases u <;> rfl
@[simp] theorem State.onLp_dict (u : UnitId) (f : Lp5 → Lp5) : (s.onLp u f).dict = s.dict := by cases u <;> rfl
@[simp] theorem State.onLp_fePend (u : UnitId) (f : Lp5 → Lp5) : (s.onLp u f).fePend = s.fePend := by cases u <;> rfl
@[simp] theorem State.onLp_sub (u : UnitId) (f : Lp5 → Lp5) : (s.onLp u f).sub = s.sub := by cases u <;> rfl
@[simp] theorem State.onLp_dam (u : UnitId) (f : Lp5 → Lp5) : (s.onLp u f).dam = s.dam := by cases u <;> rfl
@[simp] theorem State.onLp_arb (u : UnitId) (f : Lp5 → Lp5) : (s.onLp u f).arb = s.arb := by cases u <;> rfl
@[simp] theorem State.onLp_ports (u : UnitId) (f : Lp5 → Lp5) : (s.onLp u f).ports = s.ports := by cases u <;> rfl
@[simp] theorem State.onLp_st (u : UnitId) (f : Lp5 → Lp5) : (s.onLp u f).st = s.st := by cases u <;> rfl
@[simp] theorem State.onLp_tdm (u : UnitId) (f : Lp5 → Lp5) : (s.onLp u f).tdm = s.tdm := by cases u <;> rfl
@[simp] theorem State.onLp_surv (u : UnitId) (f : Lp5 → Lp5) : (s.onLp u f).surv = s.surv := by cases u <;> rfl
@[simp] theorem State.onLp_isl (u : UnitId) (f : Lp5 → Lp5) : (s.onLp u f).isl = s.isl := by cases u <;> rfl
@[simp] theorem State.onLp_kao (u : UnitId) (f : Lp5 → Lp5) : (s.onLp u f).kao = s.kao := by cases u <;> rfl
@[simp] theorem State.onLp_tap (u : UnitId) (f : Lp5 → Lp5) : (s.onLp u f).tap = s.tap := by cases u <;> rfl

/-! ### onRd -/

@[simp] theorem State.onRd_pending (u : UnitId) (f : Render → Render) : (s.onRd u f).pending = s.pending := by cases u <;> rfl
@[simp] theorem State.onRd_out (u : UnitId) (f : Render → Render) : (s.onRd u f).out = s.out := by cases u <;> rfl
@[simp] theorem State.onRd_draws (u : UnitId) (f : Render → Render) : (s.onRd u f).draws = s.draws := by cases u <;> rfl
@[simp] theorem State.onRd_tb (u : UnitId) (f : Render → Render) : (s.onRd u f).tb = s.tb := by cases u <;> rfl
@[simp] theorem State.onRd_ptp (u : UnitId) (f : Render → Render) : (s.onRd u f).ptp = s.ptp := by cases u <;> rfl
@[simp] theorem State.onRd_trig (u : UnitId) (f : Render → Render) : (s.onRd u f).trig = s.trig := by cases u <;> rfl
@[simp] theorem State.onRd_owners (u : UnitId) (f : Render → Render) : (s.onRd u f).owners = s.owners := by cases u <;> rfl
@[simp] theorem State.onRd_gpio (u : UnitId) (f : Render → Render) : (s.onRd u f).gpio = s.gpio := by cases u <;> rfl
@[simp] theorem State.onRd_icM (u : UnitId) (f : Render → Render) : (s.onRd u f).icM = s.icM := by cases u <;> rfl
@[simp] theorem State.onRd_icA (u : UnitId) (f : Render → Render) : (s.onRd u f).icA = s.icA := by cases u <;> rfl
@[simp] theorem State.onRd_icB (u : UnitId) (f : Render → Render) : (s.onRd u f).icB = s.icB := by cases u <;> rfl
@[simp] theorem State.onRd_latch (u : UnitId) (f : Render → Render) : (s.onRd u f).latch = s.latch := by cases u <;> rfl
@[simp] theorem State.onRd_regs (u : UnitId) (f : Render → Render) : (s.onRd u f).regs = s.regs := by cases u <;> rfl
@[simp] theorem State.onRd_dict (u : UnitId) (f : Render → Render) : (s.onRd u f).dict = s.dict := by cases u <;> rfl
@[simp] theorem State.onRd_fePend (u : UnitId) (f : Render → Render) : (s.onRd u f).fePend = s.fePend := by cases u <;> rfl
@[simp] theorem State.onRd_sub (u : UnitId) (f : Render → Render) : (s.onRd u f).sub = s.sub := by cases u <;> rfl
@[simp] theorem State.onRd_dam (u : UnitId) (f : Render → Render) : (s.onRd u f).dam = s.dam := by cases u <;> rfl
@[simp] theorem State.onRd_arb (u : UnitId) (f : Render → Render) : (s.onRd u f).arb = s.arb := by cases u <;> rfl
@[simp] theorem State.onRd_ports (u : UnitId) (f : Render → Render) : (s.onRd u f).ports = s.ports := by cases u <;> rfl
@[simp] theorem State.onRd_st (u : UnitId) (f : Render → Render) : (s.onRd u f).st = s.st := by cases u <;> rfl
@[simp] theorem State.onRd_tdm (u : UnitId) (f : Render → Render) : (s.onRd u f).tdm = s.tdm := by cases u <;> rfl
@[simp] theorem State.onRd_surv (u : UnitId) (f : Render → Render) : (s.onRd u f).surv = s.surv := by cases u <;> rfl
@[simp] theorem State.onRd_isl (u : UnitId) (f : Render → Render) : (s.onRd u f).isl = s.isl := by cases u <;> rfl
@[simp] theorem State.onRd_kao (u : UnitId) (f : Render → Render) : (s.onRd u f).kao = s.kao := by cases u <;> rfl
@[simp] theorem State.onRd_tap (u : UnitId) (f : Render → Render) : (s.onRd u f).tap = s.tap := by cases u <;> rfl

/-! ### onNv -/

@[simp] theorem State.onNv_pending (u : UnitId) (f : NovilArray → NovilArray) : (s.onNv u f).pending = s.pending := by cases u <;> rfl
@[simp] theorem State.onNv_out (u : UnitId) (f : NovilArray → NovilArray) : (s.onNv u f).out = s.out := by cases u <;> rfl
@[simp] theorem State.onNv_draws (u : UnitId) (f : NovilArray → NovilArray) : (s.onNv u f).draws = s.draws := by cases u <;> rfl
@[simp] theorem State.onNv_tb (u : UnitId) (f : NovilArray → NovilArray) : (s.onNv u f).tb = s.tb := by cases u <;> rfl
@[simp] theorem State.onNv_ptp (u : UnitId) (f : NovilArray → NovilArray) : (s.onNv u f).ptp = s.ptp := by cases u <;> rfl
@[simp] theorem State.onNv_trig (u : UnitId) (f : NovilArray → NovilArray) : (s.onNv u f).trig = s.trig := by cases u <;> rfl
@[simp] theorem State.onNv_owners (u : UnitId) (f : NovilArray → NovilArray) : (s.onNv u f).owners = s.owners := by cases u <;> rfl
@[simp] theorem State.onNv_gpio (u : UnitId) (f : NovilArray → NovilArray) : (s.onNv u f).gpio = s.gpio := by cases u <;> rfl
@[simp] theorem State.onNv_icM (u : UnitId) (f : NovilArray → NovilArray) : (s.onNv u f).icM = s.icM := by cases u <;> rfl
@[simp] theorem State.onNv_icA (u : UnitId) (f : NovilArray → NovilArray) : (s.onNv u f).icA = s.icA := by cases u <;> rfl
@[simp] theorem State.onNv_icB (u : UnitId) (f : NovilArray → NovilArray) : (s.onNv u f).icB = s.icB := by cases u <;> rfl
@[simp] theorem State.onNv_latch (u : UnitId) (f : NovilArray → NovilArray) : (s.onNv u f).latch = s.latch := by cases u <;> rfl
@[simp] theorem State.onNv_regs (u : UnitId) (f : NovilArray → NovilArray) : (s.onNv u f).regs = s.regs := by cases u <;> rfl
@[simp] theorem State.onNv_dict (u : UnitId) (f : NovilArray → NovilArray) : (s.onNv u f).dict = s.dict := by cases u <;> rfl
@[simp] theorem State.onNv_fePend (u : UnitId) (f : NovilArray → NovilArray) : (s.onNv u f).fePend = s.fePend := by cases u <;> rfl
@[simp] theorem State.onNv_sub (u : UnitId) (f : NovilArray → NovilArray) : (s.onNv u f).sub = s.sub := by cases u <;> rfl
@[simp] theorem State.onNv_dam (u : UnitId) (f : NovilArray → NovilArray) : (s.onNv u f).dam = s.dam := by cases u <;> rfl
@[simp] theorem State.onNv_arb (u : UnitId) (f : NovilArray → NovilArray) : (s.onNv u f).arb = s.arb := by cases u <;> rfl
@[simp] theorem State.onNv_ports (u : UnitId) (f : NovilArray → NovilArray) : (s.onNv u f).ports = s.ports := by cases u <;> rfl
@[simp] theorem State.onNv_st (u : UnitId) (f : NovilArray → NovilArray) : (s.onNv u f).st = s.st := by cases u <;> rfl
@[simp] theorem State.onNv_tdm (u : UnitId) (f : NovilArray → NovilArray) : (s.onNv u f).tdm = s.tdm := by cases u <;> rfl
@[simp] theorem State.onNv_surv (u : UnitId) (f : NovilArray → NovilArray) : (s.onNv u f).surv = s.surv := by cases u <;> rfl
@[simp] theorem State.onNv_isl (u : UnitId) (f : NovilArray → NovilArray) : (s.onNv u f).isl = s.isl := by cases u <;> rfl
@[simp] theorem State.onNv_kao (u : UnitId) (f : NovilArray → NovilArray) : (s.onNv u f).kao = s.kao := by cases u <;> rfl
@[simp] theorem State.onNv_tap (u : UnitId) (f : NovilArray → NovilArray) : (s.onNv u f).tap = s.tap := by cases u <;> rfl

/-! ### setIc -/

@[simp] theorem State.setIc_pending (c : Core) (i : IntCtl) : (s.setIc c i).pending = s.pending := by cases c <;> rfl
@[simp] theorem State.setIc_out (c : Core) (i : IntCtl) : (s.setIc c i).out = s.out := by cases c <;> rfl
@[simp] theorem State.setIc_draws (c : Core) (i : IntCtl) : (s.setIc c i).draws = s.draws := by cases c <;> rfl
@[simp] theorem State.setIc_tb (c : Core) (i : IntCtl) : (s.setIc c i).tb = s.tb := by cases c <;> rfl
@[simp] theorem State.setIc_ptp (c : Core) (i : IntCtl) : (s.setIc c i).ptp = s.ptp := by cases c <;> rfl
@[simp] theorem State.setIc_trig (c : Core) (i : IntCtl) : (s.setIc c i).trig = s.trig := by cases c <;> rfl
@[simp] theorem State.setIc_owners (c : Core) (i : IntCtl) : (s.setIc c i).owners = s.owners := by cases c <;> rfl
@[simp] theorem State.setIc_gpio (c : Core) (i : IntCtl) : (s.setIc c i).gpio = s.gpio := by cases c <;> rfl
@[simp] theorem State.setIc_latch (c : Core) (i : IntCtl) : (s.setIc c i).latch = s.latch := by cases c <;> rfl
@[simp] theorem State.setIc_regs (c : Core) (i : IntCtl) : (s.setIc c i).regs = s.regs := by cases c <;> rfl
@[simp] theorem State.setIc_dict (c : Core) (i : IntCtl) : (s.setIc c i).dict = s.dict := by cases c <;> rfl
@[simp] theorem State.setIc_fePend (c : Core) (i : IntCtl) : (s.setIc c i).fePend = s.fePend := by cases c <;> rfl
@[simp] theorem State.setIc_sub (c : Core) (i : IntCtl) : (s.setIc c i).sub = s.sub := by cases c <;> rfl
@[simp] theorem State.setIc_dam (c : Core) (i : IntCtl) : (s.setIc c i).dam = s.dam := by cases c <;> rfl
@[simp] theorem State.setIc_ua (c : Core) (i : IntCtl) : (s.setIc c i).ua = s.ua := by cases c <;> rfl
@[simp] theorem State.setIc_ub (c : Core) (i : IntCtl) : (s.setIc c i).ub = s.ub := by cases c <;> rfl
@[simp] theorem State.setIc_arb (c : Core) (i : IntCtl) : (s.setIc c i).arb = s.arb := by cases c <;> rfl
@[simp] theorem State.setIc_ports (c : Core) (i : IntCtl) : (s.setIc c i).ports = s.ports := by cases c <;> rfl
@[simp] theorem State.setIc_st (c : Core) (i : IntCtl) : (s.setIc c i).st = s.st := by cases c <;> rfl
@[simp] theorem State.setIc_tdm (c : Core) (i : IntCtl) : (s.setIc c i).tdm = s.tdm := by cases c <;> rfl
@[simp] theorem State.setIc_surv (c : Core) (i : IntCtl) : (s.setIc c i).surv = s.surv := by cases c <;> rfl
@[simp] theorem State.setIc_isl (c : Core) (i : IntCtl) : (s.setIc c i).isl = s.isl := by cases c <;> rfl
@[simp] theorem State.setIc_kao (c : Core) (i : IntCtl) : (s.setIc c i).kao = s.kao := by cases c <;> rfl
@[simp] theorem State.setIc_tap (c : Core) (i : IntCtl) : (s.setIc c i).tap = s.tap := by cases c <;> rfl

/-! ### raiseEdge -/

@[simp] theorem State.raiseEdge_pending (c : Core) (src : Nat) : (s.raiseEdge c src).pending = s.pending := by cases c <;> rfl
@[simp] theorem State.raiseEdge_out (c : Core) (src : Nat) : (s.raiseEdge c src).out = s.out := by cases c <;> rfl
@[simp] theorem State.raiseEdge_draws (c : Core) (src : Nat) : (s.raiseEdge c src).draws = s.draws := by cases c <;> rfl
@[simp] theorem State.raiseEdge_tb (c : Core) (src : Nat) : (s.raiseEdge c src).tb = s.tb := by cases c <;> rfl
@[simp] theorem State.raiseEdge_ptp (c : Core) (src : Nat) : (s.raiseEdge c src).ptp = s.ptp := by cases c <;> rfl
@[simp] theorem State.raiseEdge_trig (c : Core) (src : Nat) : (s.raiseEdge c src).trig = s.trig := by cases c <;> rfl
@[simp] theorem State.raiseEdge_owners (c : Core) (src : Nat) : (s.raiseEdge c src).owners = s.owners := by cases c <;> rfl
@[simp] theorem State.raiseEdge_gpio (c : Core) (src : Nat) : (s.raiseEdge c src).gpio = s.gpio := by cases c <;> rfl
@[simp] theorem State.raiseEdge_latch (c : Core) (src : Nat) : (s.raiseEdge c src).latch = s.latch := by cases c <;> rfl
@[simp] theorem State.raiseEdge_regs (c : Core) (src : Nat) : (s.raiseEdge c src).regs = s.regs := by cases c <;> rfl
@[simp] theorem State.raiseEdge_dict (c : Core) (src : Nat) : (s.raiseEdge c src).dict = s.dict := by cases c <;> rfl
@[simp] theorem State.raiseEdge_fePend (c : Core) (src : Nat) : (s.raiseEdge c src).fePend = s.fePend := by cases c <;> rfl
@[simp] theorem State.raiseEdge_sub (c : Core) (src : Nat) : (s.raiseEdge c src).sub = s.sub := by cases c <;> rfl
@[simp] theorem State.raiseEdge_dam (c : Core) (src : Nat) : (s.raiseEdge c src).dam = s.dam := by cases c <;> rfl
@[simp] theorem State.raiseEdge_ua (c : Core) (src : Nat) : (s.raiseEdge c src).ua = s.ua := by cases c <;> rfl
@[simp] theorem State.raiseEdge_ub (c : Core) (src : Nat) : (s.raiseEdge c src).ub = s.ub := by cases c <;> rfl
@[simp] theorem State.raiseEdge_arb (c : Core) (src : Nat) : (s.raiseEdge c src).arb = s.arb := by cases c <;> rfl
@[simp] theorem State.raiseEdge_ports (c : Core) (src : Nat) : (s.raiseEdge c src).ports = s.ports := by cases c <;> rfl
@[simp] theorem State.raiseEdge_st (c : Core) (src : Nat) : (s.raiseEdge c src).st = s.st := by cases c <;> rfl
@[simp] theorem State.raiseEdge_tdm (c : Core) (src : Nat) : (s.raiseEdge c src).tdm = s.tdm := by cases c <;> rfl
@[simp] theorem State.raiseEdge_surv (c : Core) (src : Nat) : (s.raiseEdge c src).surv = s.surv := by cases c <;> rfl
@[simp] theorem State.raiseEdge_isl (c : Core) (src : Nat) : (s.raiseEdge c src).isl = s.isl := by cases c <;> rfl
@[simp] theorem State.raiseEdge_kao (c : Core) (src : Nat) : (s.raiseEdge c src).kao = s.kao := by cases c <;> rfl
@[simp] theorem State.raiseEdge_tap (c : Core) (src : Nat) : (s.raiseEdge c src).tap = s.tap := by cases c <;> rfl

/-! ### raiseLevel -/

@[simp] theorem State.raiseLevel_pending (c : Core) (src : Nat) : (s.raiseLevel c src).pending = s.pending := by unfold State.raiseLevel; split <;> simp
@[simp] theorem State.raiseLevel_out (c : Core) (src : Nat) : (s.raiseLevel c src).out = s.out := by unfold State.raiseLevel; split <;> simp
@[simp] theorem State.raiseLevel_draws (c : Core) (src : Nat) : (s.raiseLevel c src).draws = s.draws := by unfold State.raiseLevel; split <;> simp
@[simp] theorem State.raiseLevel_tb (c : Core) (src : Nat) : (s.raiseLevel c src).tb = s.tb := by unfold State.raiseLevel; split <;> simp
@[simp] theorem State.raiseLevel_ptp (c : Core) (src : Nat) : (s.raiseLevel c src).ptp = s.ptp := by unfold State.raiseLevel; split <;> simp
@[simp] theorem State.raiseLevel_trig (c : Core) (src : Nat) : (s.raiseLevel c src).trig = s.trig := by unfold State.raiseLevel; split <;> simp
@[simp] theorem State.raiseLevel_owners (c : Core) (src : Nat) : (s.raiseLevel c src).owners = s.owners := by unfold State.raiseLevel; split <;> simp
@[simp] theorem State.raiseLevel_gpio (c : Core) (src : Nat) : (s.raiseLevel c src).gpio = s.gpio := by unfold State.raiseLevel; split <;> simp
@[simp] theorem State.raiseLevel_latch (c : Core) (src : Nat) : (s.raiseLevel c src).latch = s.latch := by unfold State.raiseLevel; split <;> simp
@[simp] theorem State.raiseLevel_regs (c : Core) (src : Nat) : (s.raiseLevel c src).regs = s.regs := by unfold State.raiseLevel; split <;> simp
@[simp] theorem State.raiseLevel_dict (c : Core) (src : Nat) : (s.raiseLevel c src).dict = s.dict := by unfold State.raiseLevel; split <;> simp
@[simp] theorem State.raiseLevel_fePend (c : Core) (src : Nat) : (s.raiseLevel c src).fePend = s.fePend := by unfold State.raiseLevel; split <;> simp
@[simp] theorem State.raiseLevel_sub (c : Core) (src : Nat) : (s.raiseLevel c src).sub = s.sub := by unfold State.raiseLevel; split <;> simp
@[simp] theorem State.raiseLevel_dam (c : Core) (src : Nat) : (s.raiseLevel c src).dam = s.dam := by unfold State.raiseLevel; split <;> simp
@[simp] theorem State.raiseLevel_ua (c : Core) (src : Nat) : (s.raiseLevel c src).ua = s.ua := by unfold State.raiseLevel; split <;> simp
@[simp] theorem State.raiseLevel_ub (c : Core) (src : Nat) : (s.raiseLevel c src).ub = s.ub := by unfold State.raiseLevel; split <;> simp
@[simp] theorem State.raiseLevel_arb (c : Core) (src : Nat) : (s.raiseLevel c src).arb = s.arb := by unfold State.raiseLevel; split <;> simp
@[simp] theorem State.raiseLevel_ports (c : Core) (src : Nat) : (s.raiseLevel c src).ports = s.ports := by unfold State.raiseLevel; split <;> simp
@[simp] theorem State.raiseLevel_st (c : Core) (src : Nat) : (s.raiseLevel c src).st = s.st := by unfold State.raiseLevel; split <;> simp
@[simp] theorem State.raiseLevel_tdm (c : Core) (src : Nat) : (s.raiseLevel c src).tdm = s.tdm := by unfold State.raiseLevel; split <;> simp
@[simp] theorem State.raiseLevel_surv (c : Core) (src : Nat) : (s.raiseLevel c src).surv = s.surv := by unfold State.raiseLevel; split <;> simp
@[simp] theorem State.raiseLevel_isl (c : Core) (src : Nat) : (s.raiseLevel c src).isl = s.isl := by unfold State.raiseLevel; split <;> simp
@[simp] theorem State.raiseLevel_kao (c : Core) (src : Nat) : (s.raiseLevel c src).kao = s.kao := by unfold State.raiseLevel; split <;> simp
@[simp] theorem State.raiseLevel_tap (c : Core) (src : Nat) : (s.raiseLevel c src).tap = s.tap := by unfold State.raiseLevel; split <;> simp

/-! ### raiseLevels -/

@[simp] theorem State.raiseLevels_pending (l : List (Core × Nat)) : (s.raiseLevels l).pending = s.pending := by
  induction l generalizing s with
  | nil => rfl
  | cons p l ih => simp [State.raiseLevels, ih]
@[simp] theorem State.raiseLevels_out (l : List (Core × Nat)) : (s.raiseLevels l).out = s.out := by
  induction l generalizing s with
  | nil => rfl
  | cons p l ih => simp [State.raiseLevels, ih]
@[simp] theorem State.raiseLevels_draws (l : List (Core × Nat)) : (s.raiseLevels l).draws = s.draws := by
  induction l generalizing s with
  | nil => rfl
  | cons p l ih => simp [State.raiseLevels, ih]
@[simp] theorem State.raiseLevels_tb (l : List (Core × Nat)) : (s.raiseLevels l).tb = s.tb := by
  induction l generalizing s with
  | nil => rfl
  | cons p l ih => simp [State.raiseLevels, ih]
@[simp] theorem State.raiseLevels_ptp (l : List (Core × Nat)) : (s.raiseLevels l).ptp = s.ptp := by
  induction l generalizing s with
  | nil => rfl
  | cons p l ih => simp [State.raiseLevels, ih]
@[simp] theorem State.raiseLevels_trig (l : List (Core × Nat)) : (s.raiseLevels l).trig = s.trig := by
  induction l generalizing s with
  | nil => rfl
  | cons p l ih => simp [State.raiseLevels, ih]
@[simp] theorem State.raiseLevels_owners (l : List (Core × Nat)) : (s.raiseLevels l).owners = s.owners := by
  induction l generalizing s with
  | nil => rfl
  | cons p l ih => simp [State.raiseLevels, ih]
@[simp] theorem State.raiseLevels_gpio (l : List (Core × Nat)) : (s.raiseLevels l).gpio = s.gpio := by
  induction l generalizing s with
  | nil => rfl
  | cons p l ih => simp [State.raiseLevels, ih]
@[simp] theorem State.raiseLevels_latch (l : List (Core × Nat)) : (s.raiseLevels l).latch = s.latch := by
  induction l generalizing s with
  | nil => rfl
  | cons p l ih => simp [State.raiseLevels, ih]
@[simp] theorem State.raiseLevels_regs (l : List (Core × Nat)) : (s.raiseLevels l).regs = s.regs := by
  induction l generalizing s with
  | nil => rfl
  | cons p l ih => simp [State.raiseLevels, ih]
@[simp] theorem State.raiseLevels_dict (l : List (Core × Nat)) : (s.raiseLevels l).dict = s.dict := by
  induction l generalizing s with
  | nil => rfl
  | cons p l ih => simp [State.raiseLevels, ih]
@[simp] theorem State.raiseLevels_fePend (l : List (Core × Nat)) : (s.raiseLevels l).fePend = s.fePend := by
  induction l generalizing s with
  | nil => rfl
  | cons p l ih => simp [State.raiseLevels, ih]
@[simp] theorem State.raiseLevels_sub (l : List (Core × Nat)) : (s.raiseLevels l).sub = s.sub := by
  induction l generalizing s with
  | nil => rfl
  | cons p l ih => simp [State.raiseLevels, ih]
@[simp] theorem State.raiseLevels_dam (l : List (Core × Nat)) : (s.raiseLevels l).dam = s.dam := by
  induction l generalizing s with
  | nil => rfl
  | cons p l ih => simp [State.raiseLevels, ih]
@[simp] theorem State.raiseLevels_ua (l : List (Core × Nat)) : (s.raiseLevels l).ua = s.ua := by
  induction l generalizing s with
  | nil => rfl
  | cons p l ih => simp [State.raiseLevels, ih]
@[simp] theorem State.raiseLevels_ub (l : List (Core × Nat)) : (s.raiseLevels l).ub = s.ub := by
  induction l generalizing s with
  | nil => rfl
  | cons p l ih => simp [State.raiseLevels, ih]
@[simp] theorem State.raiseLevels_arb (l : List (Core × Nat)) : (s.raiseLevels l).arb = s.arb := by
  induction l generalizing s with
  | nil => rfl
  | cons p l ih => simp [State.raiseLevels, ih]
@[simp] theorem State.raiseLevels_ports (l : List (Core × Nat)) : (s.raiseLevels l).ports = s.ports := by
  induction l generalizing s with
  | nil => rfl
  | cons p l ih => simp [State.raiseLevels, ih]
@[simp] theorem State.raiseLevels_st (l : List (Core × Nat)) : (s.raiseLevels l).st = s.st := by
  induction l generalizing s with
  | nil => rfl
  | cons p l ih => simp [State.raiseLevels, ih]
@[simp] theorem State.raiseLevels_tdm (l : List (Core × Nat)) : (s.raiseLevels l).tdm = s.tdm := by
  induction l generalizing s with
  | nil => rfl
  | cons p l ih => simp [State.raiseLevels, ih]
@[simp] theorem State.raiseLevels_surv (l : List (Core × Nat)) : (s.raiseLevels l).surv = s.surv := by
  induction l generalizing s with
  | nil => rfl
  | cons p l ih => simp [State.raiseLevels, ih]
@[simp] theorem State.raiseLevels_isl (l : List (Core × Nat)) : (s.raiseLevels l).isl = s.isl := by
  induction l generalizing s with
  | nil => rfl
  | cons p l ih => simp [State.raiseLevels, ih]
@[simp] theorem State.raiseLevels_kao (l : List (Core × Nat)) : (s.raiseLevels l).kao = s.kao := by
  induction l generalizing s with
  | nil => rfl
  | cons p l ih => simp [State.raiseLevels, ih]
@[simp] theorem State.raiseLevels_tap (l : List (Core × Nat)) : (s.raiseLevels l).tap = s.tap := by
  induction l generalizing s with
  | nil => rfl
  | cons p l ih => simp [State.raiseLevels, ih]

/-! ### setStat -/

@[simp] theorem State.setStat_pending (sp : Space) (addr mask : Nat) : (s.setStat sp addr mask).pending = s.pending := by
  simp only [State.setStat]; split <;> simp
@[simp] theorem State.setStat_out (sp : Space) (addr mask : Nat) : (s.setStat sp addr mask).out = s.out := by
  simp only [State.setStat]; split <;> simp
@[simp] theorem State.setStat_draws (sp : Space) (addr mask : Nat) : (s.setStat sp addr mask).draws = s.draws := by
  simp only [State.setStat]; split <;> simp
@[simp] theorem State.setStat_tb (sp : Space) (addr mask : Nat) : (s.setStat sp addr mask).tb = s.tb := by
  simp only [State.setStat]; split <;> simp
@[simp] theorem State.setStat_ptp (sp : Space) (addr mask : Nat) : (s.setStat sp addr mask).ptp = s.ptp := by
  simp only [State.setStat]; split <;> simp
@[simp] theorem State.setStat_trig (sp : Space) (addr mask : Nat) : (s.setStat sp addr mask).trig = s.trig := by
  simp only [State.setStat]; split <;> simp
@[simp] theorem State.setStat_owners (sp : Space) (addr mask : Nat) : (s.setStat sp addr mask).owners = s.owners := by
  simp only [State.setStat]; split <;> simp
@[simp] theorem State.setStat_gpio (sp : Space) (addr mask : Nat) : (s.setStat sp addr mask).gpio = s.gpio := by
  simp only [State.setStat]; split <;> simp
@[simp] theorem State.setStat_latch (sp : Space) (addr mask : Nat) : (s.setStat sp addr mask).latch = s.latch := by
  simp only [State.setStat]; split <;> simp
@[simp] theorem State.setStat_regs (sp : Space) (addr mask : Nat) : (s.setStat sp addr mask).regs = aputD s.regs (regKey sp addr) (s.reg sp addr ||| mask) (regReset addr) := by
  simp only [State.setStat]; split <;> simp
@[simp] theorem State.setStat_dict (sp : Space) (addr mask : Nat) : (s.setStat sp addr mask).dict = s.dict := by
  simp only [State.setStat]; split <;> simp
@[simp] theorem State.setStat_fePend (sp : Space) (addr mask : Nat) : (s.setStat sp addr mask).fePend = s.fePend := by
  simp only [State.setStat]; split <;> simp
@[simp] theorem State.setStat_sub (sp : Space) (addr mask : Nat) : (s.setStat sp addr mask).sub = s.sub := by
  simp only [State.setStat]; split <;> simp
@[simp] theorem State.setStat_dam (sp : Space) (addr mask : Nat) : (s.setStat sp addr mask).dam = s.dam := by
  simp only [State.setStat]; split <;> simp
@[simp] theorem State.setStat_ua (sp : Space) (addr mask : Nat) : (s.setStat sp addr mask).ua = s.ua := by
  simp only [State.setStat]; split <;> simp
@[simp] theorem State.setStat_ub (sp : Space) (addr mask : Nat) : (s.setStat sp addr mask).ub = s.ub := by
  simp only [State.setStat]; split <;> simp
@[simp] theorem State.setStat_arb (sp : Space) (addr mask : Nat) : (s.setStat sp addr mask).arb = s.arb := by
  simp only [State.setStat]; split <;> simp
@[simp] theorem State.setStat_ports (sp : Space) (addr mask : Nat) : (s.setStat sp addr mask).ports = s.ports := by
  simp only [State.setStat]; split <;> simp
@[simp] theorem State.setStat_st (sp : Space) (addr mask : Nat) : (s.setStat sp addr mask).st = s.st := by
  simp only [State.setStat]; split <;> simp
@[simp] theorem State.setStat_tdm (sp : Space) (addr mask : Nat) : (s.setStat sp addr mask).tdm = s.tdm := by
  simp only [State.setStat]; split <;> simp
@[simp] theorem State.setStat_surv (sp : Space) (addr mask : Nat) : (s.setStat sp addr mask).surv = s.surv := by
  simp only [State.setStat]; split <;> simp
@[simp] theorem State.setStat_isl (sp : Space) (addr mask : Nat) : (s.setStat sp addr mask).isl = s.isl := by
  simp only [State.setStat]; split <;> simp
@[simp] theorem State.setStat_kao (sp : Space) (addr mask : Nat) : (s.setStat sp addr mask).kao = s.kao := by
  simp only [State.setStat]; split <;> simp
@[simp] theorem State.setStat_tap (sp : Space) (addr mask : Nat) : (s.setStat sp addr mask).tap = s.tap := by
  simp only [State.setStat]; split <;> simp

/-! ### bumpKey -/

@[simp] theorem State.bumpKey_pending (k : Nat) : (s.bumpKey k).pending = s.pending := rfl
@[simp] theorem State.bumpKey_out (k : Nat) : (s.bumpKey k).out = s.out := rfl
@[simp] theorem State.bumpKey_draws (k : Nat) : (s.bumpKey k).draws = s.draws := rfl
@[simp] theorem State.bumpKey_tb (k : Nat) : (s.bumpKey k).tb = s.tb := rfl
@[simp] theorem State.bumpKey_ptp (k : Nat) : (s.bumpKey k).ptp = s.ptp := rfl
@[simp] theorem State.bumpKey_trig (k : Nat) : (s.bumpKey k).trig = s.trig := rfl
@[simp] theorem State.bumpKey_owners (k : Nat) : (s.bumpKey k).owners = s.owners := rfl
@[simp] theorem State.bumpKey_gpio (k : Nat) : (s.bumpKey k).gpio = s.gpio := rfl
@[simp] theorem State.bumpKey_icM (k : Nat) : (s.bumpKey k).icM = s.icM := rfl
@[simp] theorem State.bumpKey_icA (k : Nat) : (s.bumpKey k).icA = s.icA := rfl
@[simp] theorem State.bumpKey_icB (k : Nat) : (s.bumpKey k).icB = s.icB := rfl
@[simp] theorem State.bumpKey_latch (k : Nat) : (s.bumpKey k).latch = s.latch := rfl
@[simp] theorem State.bumpKey_regs (k : Nat) : (s.bumpKey k).regs = s.regs := rfl
@[simp] theorem State.bumpKey_dict (k : Nat) : (s.bumpKey k).dict = s.dict := rfl
@[simp] theorem State.bumpKey_fePend (k : Nat) : (s.bumpKey k).fePend = s.fePend := rfl
@[simp] theorem State.bumpKey_sub (k : Nat) : (s.bumpKey k).sub = s.sub := rfl
@[simp] theorem State.bumpKey_ua (k : Nat) : (s.bumpKey k).ua = s.ua := rfl
@[simp] theorem State.bumpKey_ub (k : Nat) : (s.bumpKey k).ub = s.ub := rfl
@[simp] theorem State.bumpKey_arb (k : Nat) : (s.bumpKey k).arb = s.arb := rfl
@[simp] theorem State.bumpKey_ports (k : Nat) : (s.bumpKey k).ports = s.ports := rfl
@[simp] theorem State.bumpKey_st (k : Nat) : (s.bumpKey k).st = s.st := rfl
@[simp] theorem State.bumpKey_tdm (k : Nat) : (s.bumpKey k).tdm = s.tdm := rfl
@[simp] theorem State.bumpKey_surv (k : Nat) : (s.bumpKey k).surv = s.surv := rfl
@[simp] theorem State.bumpKey_isl (k : Nat) : (s.bumpKey k).isl = s.isl := rfl
@[simp] theorem State.bumpKey_kao (k : Nat) : (s.bumpKey k).kao = s.kao := rfl
@[simp] theorem State.bumpKey_tap (k : Nat) : (s.bumpKey k).tap = s.tap := rfl

/-! ### bumpKeys -/

@[simp] theorem State.bumpKeys_pending (l : List Nat) : (s.bumpKeys l).pending = s.pending := by
  simp only [State.bumpKeys]
  induction l generalizing s with
  | nil => rfl
  | cons k l ih => simp [List.foldl, ih]
@[simp] theorem State.bumpKeys_out (l : List Nat) : (s.bumpKeys l).out = s.out := by
  simp only [State.bumpKeys]
  induction l generalizing s with
  | nil => rfl
  | cons k l ih => simp [List.foldl, ih]
@[simp] theorem State.bumpKeys_draws (l : List Nat) : (s.bumpKeys l).draws = s.draws := by
  simp only [State.bumpKeys]
  induction l generalizing s with
  | nil => rfl
  | cons k l ih => simp [List.foldl, ih]
@[simp] theorem State.bumpKeys_tb (l : List Nat) : (s.bumpKeys l).tb = s.tb := by
  simp only [State.bumpKeys]
  induction l generalizing s with
  | nil => rfl
  | cons k l ih => simp [List.foldl, ih]
@[simp] theorem State.bumpKeys_ptp (l : List Nat) : (s.bumpKeys l).ptp = s.ptp := by
  simp only [State.bumpKeys]
  induction l generalizing s with
  | nil => rfl
  | cons k l ih => simp [List.foldl, ih]
@[simp] theorem State.bumpKeys_trig (l : List Nat) : (s.bumpKeys l).trig = s.trig := by
  simp only [State.bumpKeys]
  induction l generalizing s with
  | nil => rfl
  | cons k l ih => simp [List.foldl, ih]
@[simp] theorem State.bumpKeys_owners (l : List Nat) : (s.bumpKeys l).owners = s.owners := by
  simp only [State.bumpKeys]
  induction l generalizing s with
  | nil => rfl
  | cons k l ih => simp [List.foldl, ih]
@[simp] theorem State.bumpKeys_gpio (l : List Nat) : (s.bumpKeys l).gpio = s.gpio := by
  simp only [State.bumpKeys]
  induction l generalizing s with
  | nil => rfl
  | cons k l ih => simp [List.foldl, ih]
@[simp] theorem State.bumpKeys_icM (l : List Nat) : (s.bumpKeys l).icM = s.icM := by
  simp only [State.bumpKeys]
  induction l generalizing s with
  | nil => rfl
  | cons k l ih => simp [List.foldl, ih]
@[simp] theorem State.bumpKeys_icA (l : List Nat) : (s.bumpKeys l).icA = s.icA := by
  simp only [State.bumpKeys]
  induction l generalizing s with
  | nil => rfl
  | cons k l ih => simp [List.foldl, ih]
@[simp] theorem State.bumpKeys_icB (l : List Nat) : (s.bumpKeys l).icB = s.icB := by
  simp only [State.bumpKeys]
  induction l generalizing s with
  | nil => rfl
  | cons k l ih => simp [List.foldl, ih]
@[simp] theorem State.bumpKeys_latch (l : List Nat) : (s.bumpKeys l).latch = s.latch := by
  simp only [State.bumpKeys]
  induction l generalizing s with
  | nil => rfl
  | cons k l ih => simp [List.foldl, ih]
@[simp] theorem State.bumpKeys_regs (l : List Nat) : (s.bumpKeys l).regs = s.regs := by
  simp only [State.bumpKeys]
  induction l generalizing s with
  | nil => rfl
  | cons k l ih => simp [List.foldl, ih]
@[simp] theorem State.bumpKeys_dict (l : List Nat) : (s.bumpKeys l).dict = s.dict := by
  simp only [State.bumpKeys]
  induction l generalizing s with
  | nil => rfl
  | cons k l ih => simp [List.foldl, ih]
@[simp] theorem State.bumpKeys_fePend (l : List Nat) : (s.bumpKeys l).fePend = s.fePend := by
  simp only [State.bumpKeys]
  induction l generalizing s with
  | nil => rfl
  | cons k l ih => simp [List.foldl, ih]
@[simp] theorem State.bumpKeys_sub (l : List Nat) : (s.bumpKeys l).sub = s.sub := by
  simp only [State.bumpKeys]
  induction l generalizing s with
  | nil => rfl
  | cons k l ih => simp [List.foldl, ih]
@[simp] theorem State.bumpKeys_ua (l : List Nat) : (s.bumpKeys l).ua = s.ua := by
  simp only [State.bumpKeys]
  induction l generalizing s with
  | nil => rfl
  | cons k l ih => simp [List.foldl, ih]
@[simp] theorem State.bumpKeys_ub (l : List Nat) : (s.bumpKeys l).ub = s.ub := by
  simp only [State.bumpKeys]
  induction l generalizing s with
  | nil => rfl
  | cons k l ih => simp [List.foldl, ih]
@[simp] theorem State.bumpKeys_arb (l : List Nat) : (s.bumpKeys l).arb = s.arb := by
  simp only [State.bumpKeys]
  induction l generalizing s with
  | nil => rfl
  | cons k l ih => simp [List.foldl, ih]
@[simp] theorem State.bumpKeys_ports (l : List Nat) : (s.bumpKeys l).ports = s.ports := by
  simp only [State.bumpKeys]
  induction l generalizing s with
  | nil => rfl
  | cons k l ih => simp [List.foldl, ih]
@[simp] theorem State.bumpKeys_st (l : List Nat) : (s.bumpKeys l).st = s.st := by
  simp only [State.bumpKeys]
  induction l generalizing s with
  | nil => rfl
  | cons k l ih => simp [List.foldl, ih]
@[simp] theorem State.bumpKeys_tdm (l : List Nat) : (s.bumpKeys l).tdm = s.tdm := by
  simp only [State.bumpKeys]
  induction l generalizing s with
  | nil => rfl
  | cons k l ih => simp [List.foldl, ih]
@[simp] theorem State.bumpKeys_surv (l : List Nat) : (s.bumpKeys l).surv = s.surv := by
  simp only [State.bumpKeys]
  induction l generalizing s with
  | nil => rfl
  | cons k l ih => simp [List.foldl, ih]
@[simp] theorem State.bumpKeys_isl (l : List Nat) : (s.bumpKeys l).isl = s.isl := by
  simp only [State.bumpKeys]
  induction l generalizing s with
  | nil => rfl
  | cons k l ih => simp [List.foldl, ih]
@[simp] theorem State.bumpKeys_kao (l : List Nat) : (s.bumpKeys l).kao = s.kao := by
  simp only [State.bumpKeys]
  induction l generalizing s with
  | nil => rfl
  | cons k l ih => simp [List.foldl, ih]
@[simp] theorem State.bumpKeys_tap (l : List Nat) : (s.bumpKeys l).tap = s.tap := by
  simp only [State.bumpKeys]
  induction l generalizing s with
  | nil => rfl
  | cons k l ih => simp [List.foldl, ih]

/-! ### bumpVersion -/

@[simp] theorem State.bumpVersion_pending (k : Nat) (v : DVal) : (s.bumpVersion k v).pending = s.pending := by
  cases v with
  | num => rfl
  | bytes b => simp only [State.bumpVersion]; repeat (first | rfl | split)
@[simp] theorem State.bumpVersion_out (k : Nat) (v : DVal) : (s.bumpVersion k v).out = s.out := by
  cases v with
  | num => rfl
  | bytes b => simp only [State.bumpVersion]; repeat (first | rfl | split)
@[simp] theorem State.bumpVersion_draws (k : Nat) (v : DVal) : (s.bumpVersion k v).draws = s.draws := by
  cases v with
  | num => rfl
  | bytes b => simp only [State.bumpVersion]; repeat (first | rfl | split)
@[simp] theorem State.bumpVersion_tb (k : Nat) (v : DVal) : (s.bumpVersion k v).tb = s.tb := by
  cases v with
  | num => rfl
  | bytes b => simp only [State.bumpVersion]; repeat (first | rfl | split)
@[simp] theorem State.bumpVersion_ptp (k : Nat) (v : DVal) : (s.bumpVersion k v).ptp = s.ptp := by
  cases v with
  | num => rfl
  | bytes b => simp only [State.bumpVersion]; repeat (first | rfl | split)
@[simp] theorem State.bumpVersion_trig (k : Nat) (v : DVal) : (s.bumpVersion k v).trig = s.trig := by
  cases v with
  | num => rfl
  | bytes b => simp only [State.bumpVersion]; repeat (first | rfl | split)
@[simp] theorem State.bumpVersion_owners (k : Nat) (v : DVal) : (s.bumpVersion k v).owners = s.owners := by
  cases v with
  | num => rfl
  | bytes b => simp only [State.bumpVersion]; repeat (first | rfl | split)
@[simp] theorem State.bumpVersion_gpio (k : Nat) (v : DVal) : (s.bumpVersion k v).gpio = s.gpio := by
  cases v with
  | num => rfl
  | bytes b => simp only [State.bumpVersion]; repeat (first | rfl | split)
@[simp] theorem State.bumpVersion_icM (k : Nat) (v : DVal) : (s.bumpVersion k v).icM = s.icM := by
  cases v with
  | num => rfl
  | bytes b => simp only [State.bumpVersion]; repeat (first | rfl | split)
@[simp] theorem State.bumpVersion_icA (k : Nat) (v : DVal) : (s.bumpVersion k v).icA = s.icA := by
  cases v with
  | num => rfl
  | bytes b => simp only [State.bumpVersion]; repeat (first | rfl | split)
@[simp] theorem State.bumpVersion_icB (k : Nat) (v : DVal) : (s.bumpVersion k v).icB = s.icB := by
  cases v with
  | num => rfl
  | bytes b => simp only [State.bumpVersion]; repeat (first | rfl | split)
@[simp] theorem State.bumpVersion_latch (k : Nat) (v : DVal) : (s.bumpVersion k v).latch = s.latch := by
  cases v with
  | num => rfl
  | bytes b => simp only [State.bumpVersion]; repeat (first | rfl | split)
@[simp] theorem State.bumpVersion_regs (k : Nat) (v : DVal) : (s.bumpVersion k v).regs = s.regs := by
  cases v with
  | num => rfl
  | bytes b => simp only [State.bumpVersion]; repeat (first | rfl | split)
@[simp] theorem State.bumpVersion_dict (k : Nat) (v : DVal) : (s.bumpVersion k v).dict = s.dict := by
  cases v with
  | num => rfl
  | bytes b => simp only [State.bumpVersion]; repeat (first | rfl | split)
@[simp] theorem State.bumpVersion_fePend (k : Nat) (v : DVal) : (s.bumpVersion k v).fePend = s.fePend := by
  cases v with
  | num => rfl
  | bytes b => simp only [State.bumpVersion]; repeat (first | rfl | split)
@[simp] theorem State.bumpVersion_sub (k : Nat) (v : DVal) : (s.bumpVersion k v).sub = s.sub := by
  cases v with
  | num => rfl
  | bytes b => simp only [State.bumpVersion]; repeat (first | rfl | split)
@[simp] theorem State.bumpVersion_ua (k : Nat) (v : DVal) : (s.bumpVersion k v).ua = s.ua := by
  cases v with
  | num => rfl
  | bytes b => simp only [State.bumpVersion]; repeat (first | rfl | split)
@[simp] theorem State.bumpVersion_ub (k : Nat) (v : DVal) : (s.bumpVersion k v).ub = s.ub := by
  cases v with
  | num => rfl
  | bytes b => simp only [State.bumpVersion]; repeat (first | rfl | split)
@[simp] theorem State.bumpVersion_arb (k : Nat) (v : DVal) : (s.bumpVersion k v).arb = s.arb := by
  cases v with
  | num => rfl
  | bytes b => simp only [State.bumpVersion]; repeat (first | rfl | split)
@[simp] theorem State.bumpVersion_ports (k : Nat) (v : DVal) : (s.bumpVersion k v).ports = s.ports := by
  cases v with
  | num => rfl
  | bytes b => simp only [State.bumpVersion]; repeat (first | rfl | split)
@[simp] theorem State.bumpVersion_st (k : Nat) (v : DVal) : (s.bumpVersion k v).st = s.st := by
  cases v with
  | num => rfl
  | bytes b => simp only [State.bumpVersion]; repeat (first | rfl | split)
@[simp] theorem State.bumpVersion_tdm (k : Nat) (v : DVal) : (s.bumpVersion k v).tdm = s.tdm := by
  cases v with
  | num => rfl
  | bytes b => simp only [State.bumpVersion]; repeat (first | rfl | split)
@[simp] theorem State.bumpVersion_surv (k : Nat) (v : DVal) : (s.bumpVersion k v).surv = s.surv := by
  cases v with
  | num => rfl
  | bytes b => simp only [State.bumpVersion]; repeat (first | rfl | split)
@[simp] theorem State.bumpVersion_isl (k : Nat) (v : DVal) : (s.bumpVersion k v).isl = s.isl := by
  cases v with
  | num => rfl
  | bytes b => simp only [State.bumpVersion]; repeat (first | rfl | split)
@[simp] theorem State.bumpVersion_kao (k : Nat) (v : DVal) : (s.bumpVersion k v).kao = s.kao := by
  cases v with
  | num => rfl
  | bytes b => simp only [State.bumpVersion]; repeat (first | rfl | split)
@[simp] theorem State.bumpVersion_tap (k : Nat) (v : DVal) : (s.bumpVersion k v).tap = s.tap := by
  cases v with
  | num => rfl
  | bytes b => simp only [State.bumpVersion]; repeat (first | rfl | split)

/-! ### withDict -/

theorem State.withDict_pending (d : Assoc DVal) : ({ s with dict := d } : State).pending = s.pending := rfl
theorem State.withDict_out (d : Assoc DVal) : ({ s with dict := d } : State).out = s.out := rfl
theorem State.withDict_draws (d : Assoc DVal) : ({ s with dict := d } : State).draws = s.draws := rfl
theorem State.withDict_tb (d : Assoc DVal) : ({ s with dict := d } : State).tb = s.tb := rfl
theorem State.withDict_ptp (d : Assoc DVal) : ({ s with dict := d } : State).ptp = s.ptp := rfl
theorem State.withDict_trig (d : Assoc DVal) : ({ s with dict := d } : State).trig = s.trig := rfl
theorem State.withDict_owners (d : Assoc DVal) : ({ s with dict := d } : State).owners = s.owners := rfl
theorem State.withDict_gpio (d : Assoc DVal) : ({ s with dict := d } : State).gpio = s.gpio := rfl
theorem State.withDict_icM (d : Assoc DVal) : ({ s with dict := d } : State).icM = s.icM := rfl
theorem State.withDict_icA (d : Assoc DVal) : ({ s with dict := d } : State).icA = s.icA := rfl
theorem State.withDict_icB (d : Assoc DVal) : ({ s with dict := d } : State).icB = s.icB := rfl
theorem State.withDict_latch (d : Assoc DVal) : ({ s with dict := d } : State).latch = s.latch := rfl
theorem State.withDict_regs (d : Assoc DVal) : ({ s with dict := d } : State).regs = s.regs := rfl
theorem State.withDict_dict (d : Assoc DVal) : ({ s with dict := d } : State).dict = d := rfl
theorem State.withDict_fePend (d : Assoc DVal) : ({ s with dict := d } : State).fePend = s.fePend := rfl
theorem State.withDict_sub (d : Assoc DVal) : ({ s with dict := d } : State).sub = s.sub := rfl
theorem State.withDict_ua (d : Assoc DVal) : ({ s with dict := d } : State).ua = s.ua := rfl
theorem State.withDict_ub (d : Assoc DVal) : ({ s with dict := d } : State).ub = s.ub := rfl
theorem State.withDict_arb (d : Assoc DVal) : ({ s with dict := d } : State).arb = s.arb := rfl
theorem State.withDict_ports (d : Assoc DVal) : ({ s with dict := d } : State).ports = s.ports := rfl
theorem State.withDict_st (d : Assoc DVal) : ({ s with dict := d } : State).st = s.st := rfl
theorem State.withDict_tdm (d : Assoc DVal) : ({ s with dict := d } : State).tdm = s.tdm := rfl
theorem State.withDict_surv (d : Assoc DVal) : ({ s with dict := d } : State).surv = s.surv := rfl
theorem State.withDict_isl (d : Assoc DVal) : ({ s with dict := d } : State).isl = s.isl := rfl
theorem State.withDict_kao (d : Assoc DVal) : ({ s with dict := d } : State).kao = s.kao := rfl
theorem State.withDict_tap (d : Assoc DVal) : ({ s with dict := d } : State).tap = s.tap := rfl

/-! ### setFe -/

@[simp] theorem State.setFe_pending (idx sub elem : Nat) (v : DVal) : (s.setFe idx sub elem v).pending = s.pending := (State.withDict_pending (s.bumpVersion (dkey idx sub elem) v) (putVal s.dict (dkey idx sub elem) v)).trans (s.bumpVersion_pending _ v)
@[simp] theorem State.setFe_out (idx sub elem : Nat) (v : DVal) : (s.setFe idx sub elem v).out = s.out := (State.withDict_out (s.bumpVersion (dkey idx sub elem) v) (putVal s.dict (dkey idx sub elem) v)).trans (s.bumpVersion_out _ v)
@[simp] theorem State.setFe_draws (idx sub elem : Nat) (v : DVal) : (s.setFe idx sub elem v).draws = s.draws := (State.withDict_draws (s.bumpVersion (dkey idx sub elem) v) (putVal s.dict (dkey idx sub elem) v)).trans (s.bumpVersion_draws _ v)
@[simp] theorem State.setFe_tb (idx sub elem : Nat) (v : DVal) : (s.setFe idx sub elem v).tb = s.tb := (State.withDict_tb (s.bumpVersion (dkey idx sub elem) v) (putVal s.dict (dkey idx sub elem) v)).trans (s.bumpVersion_tb _ v)
@[simp] theorem State.setFe_ptp (idx sub elem : Nat) (v : DVal) : (s.setFe idx sub elem v).ptp = s.ptp := (State.withDict_ptp (s.bumpVersion (dkey idx sub elem) v) (putVal s.dict (dkey idx sub elem) v)).trans (s.bumpVersion_ptp _ v)
@[simp] theorem State.setFe_trig (idx sub elem : Nat) (v : DVal) : (s.setFe idx sub elem v).trig = s.trig := (State.withDict_trig (s.bumpVersion (dkey idx sub elem) v) (putVal s.dict (dkey idx sub elem) v)).trans (s.bumpVersion_trig _ v)
@[simp] theorem State.setFe_owners (idx sub elem : Nat) (v : DVal) : (s.setFe idx sub elem v).owners = s.owners := (State.withDict_owners (s.bumpVersion (dkey idx sub elem) v) (putVal s.dict (dkey idx sub elem) v)).trans (s.bumpVersion_owners _ v)
@[simp] theorem State.setFe_gpio (idx sub elem : Nat) (v : DVal) : (s.setFe idx sub elem v).gpio = s.gpio := (State.withDict_gpio (s.bumpVersion (dkey idx sub elem) v) (putVal s.dict (dkey idx sub elem) v)).trans (s.bumpVersion_gpio _ v)
@[simp] theorem State.setFe_icM (idx sub elem : Nat) (v : DVal) : (s.setFe idx sub elem v).icM = s.icM := (State.withDict_icM (s.bumpVersion (dkey idx sub elem) v) (putVal s.dict (dkey idx sub elem) v)).trans (s.bumpVersion_icM _ v)
@[simp] theorem State.setFe_icA (idx sub elem : Nat) (v : DVal) : (s.setFe idx sub elem v).icA = s.icA := (State.withDict_icA (s.bumpVersion (dkey idx sub elem) v) (putVal s.dict (dkey idx sub elem) v)).trans (s.bumpVersion_icA _ v)
@[simp] theorem State.setFe_icB (idx sub elem : Nat) (v : DVal) : (s.setFe idx sub elem v).icB = s.icB := (State.withDict_icB (s.bumpVersion (dkey idx sub elem) v) (putVal s.dict (dkey idx sub elem) v)).trans (s.bumpVersion_icB _ v)
@[simp] theorem State.setFe_latch (idx sub elem : Nat) (v : DVal) : (s.setFe idx sub elem v).latch = s.latch := (State.withDict_latch (s.bumpVersion (dkey idx sub elem) v) (putVal s.dict (dkey idx sub elem) v)).trans (s.bumpVersion_latch _ v)
@[simp] theorem State.setFe_regs (idx sub elem : Nat) (v : DVal) : (s.setFe idx sub elem v).regs = s.regs := (State.withDict_regs (s.bumpVersion (dkey idx sub elem) v) (putVal s.dict (dkey idx sub elem) v)).trans (s.bumpVersion_regs _ v)
@[simp] theorem State.setFe_dict (idx sub elem : Nat) (v : DVal) : (s.setFe idx sub elem v).dict = putVal s.dict (dkey idx sub elem) v := State.withDict_dict _ _
@[simp] theorem State.setFe_fePend (idx sub elem : Nat) (v : DVal) : (s.setFe idx sub elem v).fePend = s.fePend := (State.withDict_fePend (s.bumpVersion (dkey idx sub elem) v) (putVal s.dict (dkey idx sub elem) v)).trans (s.bumpVersion_fePend _ v)
@[simp] theorem State.setFe_sub (idx sub elem : Nat) (v : DVal) : (s.setFe idx sub elem v).sub = s.sub := (State.withDict_sub (s.bumpVersion (dkey idx sub elem) v) (putVal s.dict (dkey idx sub elem) v)).trans (s.bumpVersion_sub _ v)
@[simp] theorem State.setFe_ua (idx sub elem : Nat) (v : DVal) : (s.setFe idx sub elem v).ua = s.ua := (State.withDict_ua (s.bumpVersion (dkey idx sub elem) v) (putVal s.dict (dkey idx sub elem) v)).trans (s.bumpVersion_ua _ v)
@[simp] theorem State.setFe_ub (idx sub elem : Nat) (v : DVal) : (s.setFe idx sub elem v).ub = s.ub := (State.withDict_ub (s.bumpVersion (dkey idx sub elem) v) (putVal s.dict (dkey idx sub elem) v)).trans (s.bumpVersion_ub _ v)
@[simp] theorem State.setFe_arb (idx sub elem : Nat) (v : DVal) : (s.setFe idx sub elem v).arb = s.arb := (State.withDict_arb (s.bumpVersion (dkey idx sub elem) v) (putVal s.dict (dkey idx sub elem) v)).trans (s.bumpVersion_arb _ v)
@[simp] theorem State.setFe_ports (idx sub elem : Nat) (v : DVal) : (s.setFe idx sub elem v).ports = s.ports := (State.withDict_ports (s.bumpVersion (dkey idx sub elem) v) (putVal s.dict (dkey idx sub elem) v)).trans (s.bumpVersion_ports _ v)
@[simp] theorem State.setFe_st (idx sub elem : Nat) (v : DVal) : (s.setFe idx sub elem v).st = s.st := (State.withDict_st (s.bumpVersion (dkey idx sub elem) v) (putVal s.dict (dkey idx sub elem) v)).trans (s.bumpVersion_st _ v)
@[simp] theorem State.setFe_tdm (idx sub elem : Nat) (v : DVal) : (s.setFe idx sub elem v).tdm = s.tdm := (State.withDict_tdm (s.bumpVersion (dkey idx sub elem) v) (putVal s.dict (dkey idx sub elem) v)).trans (s.bumpVersion_tdm _ v)
@[simp] theorem State.setFe_surv (idx sub elem : Nat) (v : DVal) : (s.setFe idx sub elem v).surv = s.surv := (State.withDict_surv (s.bumpVersion (dkey idx sub elem) v) (putVal s.dict (dkey idx sub elem) v)).trans (s.bumpVersion_surv _ v)
@[simp] theorem State.setFe_isl (idx sub elem : Nat) (v : DVal) : (s.setFe idx sub elem v).isl = s.isl := (State.withDict_isl (s.bumpVersion (dkey idx sub elem) v) (putVal s.dict (dkey idx sub elem) v)).trans (s.bumpVersion_isl _ v)
@[simp] theorem State.setFe_kao (idx sub elem : Nat) (v : DVal) : (s.setFe idx sub elem v).kao = s.kao := (State.withDict_kao (s.bumpVersion (dkey idx sub elem) v) (putVal s.dict (dkey idx sub elem) v)).trans (s.bumpVersion_kao _ v)
@[simp] theorem State.setFe_tap (idx sub elem : Nat) (v : DVal) : (s.setFe idx sub elem v).tap = s.tap := (State.withDict_tap (s.bumpVersion (dkey idx sub elem) v) (putVal s.dict (dkey idx sub elem) v)).trans (s.bumpVersion_tap _ v)

/-! ### setFeN -/

theorem State.setFeN_eq (idx sub elem : Nat) (n : Int) : s.setFeN idx sub elem n = s.setFe idx sub elem (.num n) := rfl
@[simp] theorem State.setFeN_pending (idx sub elem : Nat) (n : Int) : (s.setFeN idx sub elem n).pending = s.pending := (congrArg State.pending (s.setFeN_eq idx sub elem n)).trans (s.setFe_pending idx sub elem (.num n))
@[simp] theorem State.setFeN_out (idx sub elem : Nat) (n : Int) : (s.setFeN idx sub elem n).out = s.out := (congrArg State.out (s.setFeN_eq idx sub elem n)).trans (s.setFe_out idx sub elem (.num n))
@[simp] theorem State.setFeN_draws (idx sub elem : Nat) (n : Int) : (s.setFeN idx sub elem n).draws = s.draws := (congrArg State.draws (s.setFeN_eq idx sub elem n)).trans (s.setFe_draws idx sub elem (.num n))
@[simp] theorem State.setFeN_tb (idx sub elem : Nat) (n : Int) : (s.setFeN idx sub elem n).tb = s.tb := (congrArg State.tb (s.setFeN_eq idx sub elem n)).trans (s.setFe_tb idx sub elem (.num n))
@[simp] theorem State.setFeN_ptp (idx sub elem : Nat) (n : Int) : (s.setFeN idx sub elem n).ptp = s.ptp := (congrArg State.ptp (s.setFeN_eq idx sub elem n)).trans (s.setFe_ptp idx sub elem (.num n))
@[simp] theorem State.setFeN_trig (idx sub elem : Nat) (n : Int) : (s.setFeN idx sub elem n).trig = s.trig := (congrArg State.trig (s.setFeN_eq idx sub elem n)).trans (s.setFe_trig idx sub elem (.num n))
@[simp] theorem State.setFeN_owners (idx sub elem : Nat) (n : Int) : (s.setFeN idx sub elem n).owners = s.owners := (congrArg State.owners (s.setFeN_eq idx sub elem n)).trans (s.setFe_owners idx sub elem (.num n))
@[simp] theorem State.setFeN_gpio (idx sub elem : Nat) (n : Int) : (s.setFeN idx sub elem n).gpio = s.gpio := (congrArg State.gpio (s.setFeN_eq idx sub elem n)).trans (s.setFe_gpio idx sub elem (.num n))
@[simp] theorem State.setFeN_icM (idx sub elem : Nat) (n : Int) : (s.setFeN idx sub elem n).icM = s.icM := (congrArg State.icM (s.setFeN_eq idx sub elem n)).trans (s.setFe_icM idx sub elem (.num n))
@[simp] theorem State.setFeN_icA (idx sub elem : Nat) (n : Int) : (s.setFeN idx sub elem n).icA = s.icA := (congrArg State.icA (s.setFeN_eq idx sub elem n)).trans (s.setFe_icA idx sub elem (.num n))
@[simp] theorem State.setFeN_icB (idx sub elem : Nat) (n : Int) : (s.setFeN idx sub elem n).icB = s.icB := (congrArg State.icB (s.setFeN_eq idx sub elem n)).trans (s.setFe_icB idx sub elem (.num n))
@[simp] theorem State.setFeN_latch (idx sub elem : Nat) (n : Int) : (s.setFeN idx sub elem n).latch = s.latch := (congrArg State.latch (s.setFeN_eq idx sub elem n)).trans (s.setFe_latch idx sub elem (.num n))
@[simp] theorem State.setFeN_regs (idx sub elem : Nat) (n : Int) : (s.setFeN idx sub elem n).regs = s.regs := (congrArg State.regs (s.setFeN_eq idx sub elem n)).trans (s.setFe_regs idx sub elem (.num n))
@[simp] theorem State.setFeN_dict (idx sub elem : Nat) (n : Int) : (s.setFeN idx sub elem n).dict = putVal s.dict (dkey idx sub elem) (.num n) := (congrArg State.dict (s.setFeN_eq idx sub elem n)).trans (s.setFe_dict idx sub elem (.num n))
@[simp] theorem State.setFeN_fePend (idx sub elem : Nat) (n : Int) : (s.setFeN idx sub elem n).fePend = s.fePend := (congrArg State.fePend (s.setFeN_eq idx sub elem n)).trans (s.setFe_fePend idx sub elem (.num n))
@[simp] theorem State.setFeN_sub (idx sub elem : Nat) (n : Int) : (s.setFeN idx sub elem n).sub = s.sub := (congrArg State.sub (s.setFeN_eq idx sub elem n)).trans (s.setFe_sub idx sub elem (.num n))
@[simp] theorem State.setFeN_ua (idx sub elem : Nat) (n : Int) : (s.setFeN idx sub elem n).ua = s.ua := (congrArg State.ua (s.setFeN_eq idx sub elem n)).trans (s.setFe_ua idx sub elem (.num n))
@[simp] theorem State.setFeN_ub (idx sub elem : Nat) (n : Int) : (s.setFeN idx sub elem n).ub = s.ub := (congrArg State.ub (s.setFeN_eq idx sub elem n)).trans (s.setFe_ub idx sub elem (.num n))
@[simp] theorem State.setFeN_arb (idx sub elem : Nat) (n : Int) : (s.setFeN idx sub elem n).arb = s.arb := (congrArg State.arb (s.setFeN_eq idx sub elem n)).trans (s.setFe_arb idx sub elem (.num n))
@[simp] theorem State.setFeN_ports (idx sub elem : Nat) (n : Int) : (s.setFeN idx sub elem n).ports = s.ports := (congrArg State.ports (s.setFeN_eq idx sub elem n)).trans (s.setFe_ports idx sub elem (.num n))
@[simp] theorem State.setFeN_st (idx sub elem : Nat) (n : Int) : (s.setFeN idx sub elem n).st = s.st := (congrArg State.st (s.setFeN_eq idx sub elem n)).trans (s.setFe_st idx sub elem (.num n))
@[simp] theorem State.setFeN_tdm (idx sub elem : Nat) (n : Int) : (s.setFeN idx sub elem n).tdm = s.tdm := (congrArg State.tdm (s.setFeN_eq idx sub elem n)).trans (s.setFe_tdm idx sub elem (.num n))
@[simp] theorem State.setFeN_surv (idx sub elem : Nat) (n : Int) : (s.setFeN idx sub elem n).surv = s.surv := (congrArg State.surv (s.setFeN_eq idx sub elem n)).trans (s.setFe_surv idx sub elem (.num n))
@[simp] theorem State.setFeN_isl (idx sub elem : Nat) (n : Int) : (s.setFeN idx sub elem n).isl = s.isl := (congrArg State.isl (s.setFeN_eq idx sub elem n)).trans (s.setFe_isl idx sub elem (.num n))
@[simp] theorem State.setFeN_kao (idx sub elem : Nat) (n : Int) : (s.setFeN idx sub elem n).kao = s.kao := (congrArg State.kao (s.setFeN_eq idx sub elem n)).trans (s.setFe_kao idx sub elem (.num n))
@[simp] theorem State.setFeN_tap (idx sub elem : Nat) (n : Int) : (s.setFeN idx sub elem n).tap = s.tap := (congrArg State.tap (s.setFeN_eq idx sub elem n)).trans (s.setFe_tap idx sub elem (.num n))

/-! ### countFe -/

theorem State.countFe_eq (idx sub elem n : Nat) :
    s.countFe idx sub elem n = s.setFeN idx sub elem (min 0xFFFFFFFF (s.feN idx sub elem + n : Nat)) := rfl
@[simp] theorem State.countFe_pending (idx sub elem n : Nat) : (s.countFe idx sub elem n).pending = s.pending := (congrArg State.pending (s.countFe_eq idx sub elem n)).trans (s.setFeN_pending idx sub elem _)
@[simp] theorem State.countFe_out (idx sub elem n : Nat) : (s.countFe idx sub elem n).out = s.out := (congrArg State.out (s.countFe_eq idx sub elem n)).trans (s.setFeN_out idx sub elem _)
@[simp] theorem State.countFe_draws (idx sub elem n : Nat) : (s.countFe idx sub elem n).draws = s.draws := (congrArg State.draws (s.countFe_eq idx sub elem n)).trans (s.setFeN_draws idx sub elem _)
@[simp] theorem State.countFe_tb (idx sub elem n : Nat) : (s.countFe idx sub elem n).tb = s.tb := (congrArg State.tb (s.countFe_eq idx sub elem n)).trans (s.setFeN_tb idx sub elem _)
@[simp] theorem State.countFe_ptp (idx sub elem n : Nat) : (s.countFe idx sub elem n).ptp = s.ptp := (congrArg State.ptp (s.countFe_eq idx sub elem n)).trans (s.setFeN_ptp idx sub elem _)
@[simp] theorem State.countFe_trig (idx sub elem n : Nat) : (s.countFe idx sub elem n).trig = s.trig := (congrArg State.trig (s.countFe_eq idx sub elem n)).trans (s.setFeN_trig idx sub elem _)
@[simp] theorem State.countFe_owners (idx sub elem n : Nat) : (s.countFe idx sub elem n).owners = s.owners := (congrArg State.owners (s.countFe_eq idx sub elem n)).trans (s.setFeN_owners idx sub elem _)
@[simp] theorem State.countFe_gpio (idx sub elem n : Nat) : (s.countFe idx sub elem n).gpio = s.gpio := (congrArg State.gpio (s.countFe_eq idx sub elem n)).trans (s.setFeN_gpio idx sub elem _)
@[simp] theorem State.countFe_icM (idx sub elem n : Nat) : (s.countFe idx sub elem n).icM = s.icM := (congrArg State.icM (s.countFe_eq idx sub elem n)).trans (s.setFeN_icM idx sub elem _)
@[simp] theorem State.countFe_icA (idx sub elem n : Nat) : (s.countFe idx sub elem n).icA = s.icA := (congrArg State.icA (s.countFe_eq idx sub elem n)).trans (s.setFeN_icA idx sub elem _)
@[simp] theorem State.countFe_icB (idx sub elem n : Nat) : (s.countFe idx sub elem n).icB = s.icB := (congrArg State.icB (s.countFe_eq idx sub elem n)).trans (s.setFeN_icB idx sub elem _)
@[simp] theorem State.countFe_latch (idx sub elem n : Nat) : (s.countFe idx sub elem n).latch = s.latch := (congrArg State.latch (s.countFe_eq idx sub elem n)).trans (s.setFeN_latch idx sub elem _)
@[simp] theorem State.countFe_regs (idx sub elem n : Nat) : (s.countFe idx sub elem n).regs = s.regs := (congrArg State.regs (s.countFe_eq idx sub elem n)).trans (s.setFeN_regs idx sub elem _)
@[simp] theorem State.countFe_dict (idx sub elem n : Nat) : (s.countFe idx sub elem n).dict = putVal s.dict (dkey idx sub elem) (.num (min 0xFFFFFFFF (s.feN idx sub elem + n : Nat))) := (congrArg State.dict (s.countFe_eq idx sub elem n)).trans (s.setFeN_dict idx sub elem _)
@[simp] theorem State.countFe_fePend (idx sub elem n : Nat) : (s.countFe idx sub elem n).fePend = s.fePend := (congrArg State.fePend (s.countFe_eq idx sub elem n)).trans (s.setFeN_fePend idx sub elem _)
@[simp] theorem State.countFe_sub (idx sub elem n : Nat) : (s.countFe idx sub elem n).sub = s.sub := (congrArg State.sub (s.countFe_eq idx sub elem n)).trans (s.setFeN_sub idx sub elem _)
@[simp] theorem State.countFe_ua (idx sub elem n : Nat) : (s.countFe idx sub elem n).ua = s.ua := (congrArg State.ua (s.countFe_eq idx sub elem n)).trans (s.setFeN_ua idx sub elem _)
@[simp] theorem State.countFe_ub (idx sub elem n : Nat) : (s.countFe idx sub elem n).ub = s.ub := (congrArg State.ub (s.countFe_eq idx sub elem n)).trans (s.setFeN_ub idx sub elem _)
@[simp] theorem State.countFe_arb (idx sub elem n : Nat) : (s.countFe idx sub elem n).arb = s.arb := (congrArg State.arb (s.countFe_eq idx sub elem n)).trans (s.setFeN_arb idx sub elem _)
@[simp] theorem State.countFe_ports (idx sub elem n : Nat) : (s.countFe idx sub elem n).ports = s.ports := (congrArg State.ports (s.countFe_eq idx sub elem n)).trans (s.setFeN_ports idx sub elem _)
@[simp] theorem State.countFe_st (idx sub elem n : Nat) : (s.countFe idx sub elem n).st = s.st := (congrArg State.st (s.countFe_eq idx sub elem n)).trans (s.setFeN_st idx sub elem _)
@[simp] theorem State.countFe_tdm (idx sub elem n : Nat) : (s.countFe idx sub elem n).tdm = s.tdm := (congrArg State.tdm (s.countFe_eq idx sub elem n)).trans (s.setFeN_tdm idx sub elem _)
@[simp] theorem State.countFe_surv (idx sub elem n : Nat) : (s.countFe idx sub elem n).surv = s.surv := (congrArg State.surv (s.countFe_eq idx sub elem n)).trans (s.setFeN_surv idx sub elem _)
@[simp] theorem State.countFe_isl (idx sub elem n : Nat) : (s.countFe idx sub elem n).isl = s.isl := (congrArg State.isl (s.countFe_eq idx sub elem n)).trans (s.setFeN_isl idx sub elem _)
@[simp] theorem State.countFe_kao (idx sub elem n : Nat) : (s.countFe idx sub elem n).kao = s.kao := (congrArg State.kao (s.countFe_eq idx sub elem n)).trans (s.setFeN_kao idx sub elem _)
@[simp] theorem State.countFe_tap (idx sub elem n : Nat) : (s.countFe idx sub elem n).tap = s.tap := (congrArg State.tap (s.countFe_eq idx sub elem n)).trans (s.setFeN_tap idx sub elem _)

/-! ### logAt and logEvent -/

@[simp] theorem State.logAt_pending (sec ns code source level d0 d1 : Nat) : (s.logAt sec ns code source level d0 d1).pending = s.pending := by
  simp only [State.logAt]; split <;> rfl
@[simp] theorem State.logAt_out (sec ns code source level d0 d1 : Nat) : (s.logAt sec ns code source level d0 d1).out = s.out := by
  simp only [State.logAt]; split <;> rfl
@[simp] theorem State.logAt_draws (sec ns code source level d0 d1 : Nat) : (s.logAt sec ns code source level d0 d1).draws = s.draws := by
  simp only [State.logAt]; split <;> rfl
@[simp] theorem State.logAt_tb (sec ns code source level d0 d1 : Nat) : (s.logAt sec ns code source level d0 d1).tb = s.tb := by
  simp only [State.logAt]; split <;> rfl
@[simp] theorem State.logAt_ptp (sec ns code source level d0 d1 : Nat) : (s.logAt sec ns code source level d0 d1).ptp = s.ptp := by
  simp only [State.logAt]; split <;> rfl
@[simp] theorem State.logAt_trig (sec ns code source level d0 d1 : Nat) : (s.logAt sec ns code source level d0 d1).trig = s.trig := by
  simp only [State.logAt]; split <;> rfl
@[simp] theorem State.logAt_owners (sec ns code source level d0 d1 : Nat) : (s.logAt sec ns code source level d0 d1).owners = s.owners := by
  simp only [State.logAt]; split <;> rfl
@[simp] theorem State.logAt_gpio (sec ns code source level d0 d1 : Nat) : (s.logAt sec ns code source level d0 d1).gpio = s.gpio := by
  simp only [State.logAt]; split <;> rfl
@[simp] theorem State.logAt_icM (sec ns code source level d0 d1 : Nat) : (s.logAt sec ns code source level d0 d1).icM = s.icM := by
  simp only [State.logAt]; split <;> rfl
@[simp] theorem State.logAt_icA (sec ns code source level d0 d1 : Nat) : (s.logAt sec ns code source level d0 d1).icA = s.icA := by
  simp only [State.logAt]; split <;> rfl
@[simp] theorem State.logAt_icB (sec ns code source level d0 d1 : Nat) : (s.logAt sec ns code source level d0 d1).icB = s.icB := by
  simp only [State.logAt]; split <;> rfl
@[simp] theorem State.logAt_latch (sec ns code source level d0 d1 : Nat) : (s.logAt sec ns code source level d0 d1).latch = s.latch := by
  simp only [State.logAt]; split <;> rfl
@[simp] theorem State.logAt_regs (sec ns code source level d0 d1 : Nat) : (s.logAt sec ns code source level d0 d1).regs = s.regs := by
  simp only [State.logAt]; split <;> rfl
@[simp] theorem State.logAt_dict (sec ns code source level d0 d1 : Nat) : (s.logAt sec ns code source level d0 d1).dict = s.dict := by
  simp only [State.logAt]; split <;> rfl
@[simp] theorem State.logAt_fePend (sec ns code source level d0 d1 : Nat) : (s.logAt sec ns code source level d0 d1).fePend = s.fePend := by
  simp only [State.logAt]; split <;> rfl
@[simp] theorem State.logAt_dam (sec ns code source level d0 d1 : Nat) : (s.logAt sec ns code source level d0 d1).dam = s.dam := by
  simp only [State.logAt]; split <;> rfl
@[simp] theorem State.logAt_ua (sec ns code source level d0 d1 : Nat) : (s.logAt sec ns code source level d0 d1).ua = s.ua := by
  simp only [State.logAt]; split <;> rfl
@[simp] theorem State.logAt_ub (sec ns code source level d0 d1 : Nat) : (s.logAt sec ns code source level d0 d1).ub = s.ub := by
  simp only [State.logAt]; split <;> rfl
@[simp] theorem State.logAt_arb (sec ns code source level d0 d1 : Nat) : (s.logAt sec ns code source level d0 d1).arb = s.arb := by
  simp only [State.logAt]; split <;> rfl
@[simp] theorem State.logAt_ports (sec ns code source level d0 d1 : Nat) : (s.logAt sec ns code source level d0 d1).ports = s.ports := by
  simp only [State.logAt]; split <;> rfl
@[simp] theorem State.logAt_st (sec ns code source level d0 d1 : Nat) : (s.logAt sec ns code source level d0 d1).st = s.st := by
  simp only [State.logAt]; split <;> rfl
@[simp] theorem State.logAt_tdm (sec ns code source level d0 d1 : Nat) : (s.logAt sec ns code source level d0 d1).tdm = s.tdm := by
  simp only [State.logAt]; split <;> rfl
@[simp] theorem State.logAt_surv (sec ns code source level d0 d1 : Nat) : (s.logAt sec ns code source level d0 d1).surv = s.surv := by
  simp only [State.logAt]; split <;> rfl
@[simp] theorem State.logAt_isl (sec ns code source level d0 d1 : Nat) : (s.logAt sec ns code source level d0 d1).isl = s.isl := by
  simp only [State.logAt]; split <;> rfl
@[simp] theorem State.logAt_kao (sec ns code source level d0 d1 : Nat) : (s.logAt sec ns code source level d0 d1).kao = s.kao := by
  simp only [State.logAt]; split <;> rfl
@[simp] theorem State.logAt_tap (sec ns code source level d0 d1 : Nat) : (s.logAt sec ns code source level d0 d1).tap = s.tap := by
  simp only [State.logAt]; split <;> rfl
@[simp] theorem State.logEvent_pending (code source level d0 d1 : Nat) : (s.logEvent code source level d0 d1).pending = s.pending := s.logAt_pending ..
@[simp] theorem State.logEvent_out (code source level d0 d1 : Nat) : (s.logEvent code source level d0 d1).out = s.out := s.logAt_out ..
@[simp] theorem State.logEvent_draws (code source level d0 d1 : Nat) : (s.logEvent code source level d0 d1).draws = s.draws := s.logAt_draws ..
@[simp] theorem State.logEvent_tb (code source level d0 d1 : Nat) : (s.logEvent code source level d0 d1).tb = s.tb := s.logAt_tb ..
@[simp] theorem State.logEvent_ptp (code source level d0 d1 : Nat) : (s.logEvent code source level d0 d1).ptp = s.ptp := s.logAt_ptp ..
@[simp] theorem State.logEvent_trig (code source level d0 d1 : Nat) : (s.logEvent code source level d0 d1).trig = s.trig := s.logAt_trig ..
@[simp] theorem State.logEvent_owners (code source level d0 d1 : Nat) : (s.logEvent code source level d0 d1).owners = s.owners := s.logAt_owners ..
@[simp] theorem State.logEvent_gpio (code source level d0 d1 : Nat) : (s.logEvent code source level d0 d1).gpio = s.gpio := s.logAt_gpio ..
@[simp] theorem State.logEvent_icM (code source level d0 d1 : Nat) : (s.logEvent code source level d0 d1).icM = s.icM := s.logAt_icM ..
@[simp] theorem State.logEvent_icA (code source level d0 d1 : Nat) : (s.logEvent code source level d0 d1).icA = s.icA := s.logAt_icA ..
@[simp] theorem State.logEvent_icB (code source level d0 d1 : Nat) : (s.logEvent code source level d0 d1).icB = s.icB := s.logAt_icB ..
@[simp] theorem State.logEvent_latch (code source level d0 d1 : Nat) : (s.logEvent code source level d0 d1).latch = s.latch := s.logAt_latch ..
@[simp] theorem State.logEvent_regs (code source level d0 d1 : Nat) : (s.logEvent code source level d0 d1).regs = s.regs := s.logAt_regs ..
@[simp] theorem State.logEvent_dict (code source level d0 d1 : Nat) : (s.logEvent code source level d0 d1).dict = s.dict := s.logAt_dict ..
@[simp] theorem State.logEvent_fePend (code source level d0 d1 : Nat) : (s.logEvent code source level d0 d1).fePend = s.fePend := s.logAt_fePend ..
@[simp] theorem State.logEvent_dam (code source level d0 d1 : Nat) : (s.logEvent code source level d0 d1).dam = s.dam := s.logAt_dam ..
@[simp] theorem State.logEvent_ua (code source level d0 d1 : Nat) : (s.logEvent code source level d0 d1).ua = s.ua := s.logAt_ua ..
@[simp] theorem State.logEvent_ub (code source level d0 d1 : Nat) : (s.logEvent code source level d0 d1).ub = s.ub := s.logAt_ub ..
@[simp] theorem State.logEvent_arb (code source level d0 d1 : Nat) : (s.logEvent code source level d0 d1).arb = s.arb := s.logAt_arb ..
@[simp] theorem State.logEvent_ports (code source level d0 d1 : Nat) : (s.logEvent code source level d0 d1).ports = s.ports := s.logAt_ports ..
@[simp] theorem State.logEvent_st (code source level d0 d1 : Nat) : (s.logEvent code source level d0 d1).st = s.st := s.logAt_st ..
@[simp] theorem State.logEvent_tdm (code source level d0 d1 : Nat) : (s.logEvent code source level d0 d1).tdm = s.tdm := s.logAt_tdm ..
@[simp] theorem State.logEvent_surv (code source level d0 d1 : Nat) : (s.logEvent code source level d0 d1).surv = s.surv := s.logAt_surv ..
@[simp] theorem State.logEvent_isl (code source level d0 d1 : Nat) : (s.logEvent code source level d0 d1).isl = s.isl := s.logAt_isl ..
@[simp] theorem State.logEvent_kao (code source level d0 d1 : Nat) : (s.logEvent code source level d0 d1).kao = s.kao := s.logAt_kao ..
@[simp] theorem State.logEvent_tap (code source level d0 d1 : Nat) : (s.logEvent code source level d0 d1).tap = s.tap := s.logAt_tap ..

/-! ### noteTo -/

@[simp] theorem State.noteTo_pending (n : Nat) (note : Note) : (s.noteTo n note).pending = s.pending := by
  simp only [State.noteTo]; split <;> simp
@[simp] theorem State.noteTo_out (n : Nat) (note : Note) : (s.noteTo n note).out = s.out := by
  simp only [State.noteTo]; split <;> simp
@[simp] theorem State.noteTo_draws (n : Nat) (note : Note) : (s.noteTo n note).draws = s.draws := by
  simp only [State.noteTo]; split <;> simp
@[simp] theorem State.noteTo_tb (n : Nat) (note : Note) : (s.noteTo n note).tb = s.tb := by
  simp only [State.noteTo]; split <;> simp
@[simp] theorem State.noteTo_ptp (n : Nat) (note : Note) : (s.noteTo n note).ptp = s.ptp := by
  simp only [State.noteTo]; split <;> simp
@[simp] theorem State.noteTo_trig (n : Nat) (note : Note) : (s.noteTo n note).trig = s.trig := by
  simp only [State.noteTo]; split <;> simp
@[simp] theorem State.noteTo_owners (n : Nat) (note : Note) : (s.noteTo n note).owners = s.owners := by
  simp only [State.noteTo]; split <;> simp
@[simp] theorem State.noteTo_gpio (n : Nat) (note : Note) : (s.noteTo n note).gpio = s.gpio := by
  simp only [State.noteTo]; split <;> simp
@[simp] theorem State.noteTo_icM (n : Nat) (note : Note) : (s.noteTo n note).icM = s.icM := by
  simp only [State.noteTo]; split <;> simp
@[simp] theorem State.noteTo_icA (n : Nat) (note : Note) : (s.noteTo n note).icA = s.icA := by
  simp only [State.noteTo]; split <;> simp
@[simp] theorem State.noteTo_icB (n : Nat) (note : Note) : (s.noteTo n note).icB = s.icB := by
  simp only [State.noteTo]; split <;> simp
@[simp] theorem State.noteTo_latch (n : Nat) (note : Note) : (s.noteTo n note).latch = s.latch := by
  simp only [State.noteTo]; split <;> simp
@[simp] theorem State.noteTo_regs (n : Nat) (note : Note) : (s.noteTo n note).regs = s.regs := by
  simp only [State.noteTo]; split <;> simp
@[simp] theorem State.noteTo_dict (n : Nat) (note : Note) : (s.noteTo n note).dict = s.dict := by
  simp only [State.noteTo]; split <;> simp
@[simp] theorem State.noteTo_fePend (n : Nat) (note : Note) : (s.noteTo n note).fePend = s.fePend := by
  simp only [State.noteTo]; split <;> simp
@[simp] theorem State.noteTo_sub (n : Nat) (note : Note) : (s.noteTo n note).sub = s.sub := by
  simp only [State.noteTo]; split <;> simp
@[simp] theorem State.noteTo_ua (n : Nat) (note : Note) : (s.noteTo n note).ua = s.ua := by
  simp only [State.noteTo]; split <;> simp
@[simp] theorem State.noteTo_ub (n : Nat) (note : Note) : (s.noteTo n note).ub = s.ub := by
  simp only [State.noteTo]; split <;> simp
@[simp] theorem State.noteTo_arb (n : Nat) (note : Note) : (s.noteTo n note).arb = s.arb := by
  simp only [State.noteTo]; split <;> simp
@[simp] theorem State.noteTo_ports (n : Nat) (note : Note) : (s.noteTo n note).ports = s.ports := by
  simp only [State.noteTo]; split <;> simp
@[simp] theorem State.noteTo_st (n : Nat) (note : Note) : (s.noteTo n note).st = s.st := by
  simp only [State.noteTo]; split <;> simp
@[simp] theorem State.noteTo_tdm (n : Nat) (note : Note) : (s.noteTo n note).tdm = s.tdm := by
  simp only [State.noteTo]; split <;> simp
@[simp] theorem State.noteTo_surv (n : Nat) (note : Note) : (s.noteTo n note).surv = s.surv := by
  simp only [State.noteTo]; split <;> simp
@[simp] theorem State.noteTo_isl (n : Nat) (note : Note) : (s.noteTo n note).isl = s.isl := by
  simp only [State.noteTo]; split <;> simp
@[simp] theorem State.noteTo_kao (n : Nat) (note : Note) : (s.noteTo n note).kao = s.kao := by
  simp only [State.noteTo]; split <;> simp
@[simp] theorem State.noteTo_tap (n : Nat) (note : Note) : (s.noteTo n note).tap = s.tap := by
  simp only [State.noteTo]; split <;> simp

/-! ### noteAll -/

@[simp] theorem State.noteAll_pending (note : Note) (l : List Nat) : (s.noteAll note l).pending = s.pending := by
  induction l generalizing s with
  | nil => rfl
  | cons n l ih => simp [State.noteAll, ih]
@[simp] theorem State.noteAll_out (note : Note) (l : List Nat) : (s.noteAll note l).out = s.out := by
  induction l generalizing s with
  | nil => rfl
  | cons n l ih => simp [State.noteAll, ih]
@[simp] theorem State.noteAll_draws (note : Note) (l : List Nat) : (s.noteAll note l).draws = s.draws := by
  induction l generalizing s with
  | nil => rfl
  | cons n l ih => simp [State.noteAll, ih]
@[simp] theorem State.noteAll_tb (note : Note) (l : List Nat) : (s.noteAll note l).tb = s.tb := by
  induction l generalizing s with
  | nil => rfl
  | cons n l ih => simp [State.noteAll, ih]
@[simp] theorem State.noteAll_ptp (note : Note) (l : List Nat) : (s.noteAll note l).ptp = s.ptp := by
  induction l generalizing s with
  | nil => rfl
  | cons n l ih => simp [State.noteAll, ih]
@[simp] theorem State.noteAll_trig (note : Note) (l : List Nat) : (s.noteAll note l).trig = s.trig := by
  induction l generalizing s with
  | nil => rfl
  | cons n l ih => simp [State.noteAll, ih]
@[simp] theorem State.noteAll_owners (note : Note) (l : List Nat) : (s.noteAll note l).owners = s.owners := by
  induction l generalizing s with
  | nil => rfl
  | cons n l ih => simp [State.noteAll, ih]
@[simp] theorem State.noteAll_gpio (note : Note) (l : List Nat) : (s.noteAll note l).gpio = s.gpio := by
  induction l generalizing s with
  | nil => rfl
  | cons n l ih => simp [State.noteAll, ih]
@[simp] theorem State.noteAll_icM (note : Note) (l : List Nat) : (s.noteAll note l).icM = s.icM := by
  induction l generalizing s with
  | nil => rfl
  | cons n l ih => simp [State.noteAll, ih]
@[simp] theorem State.noteAll_icA (note : Note) (l : List Nat) : (s.noteAll note l).icA = s.icA := by
  induction l generalizing s with
  | nil => rfl
  | cons n l ih => simp [State.noteAll, ih]
@[simp] theorem State.noteAll_icB (note : Note) (l : List Nat) : (s.noteAll note l).icB = s.icB := by
  induction l generalizing s with
  | nil => rfl
  | cons n l ih => simp [State.noteAll, ih]
@[simp] theorem State.noteAll_latch (note : Note) (l : List Nat) : (s.noteAll note l).latch = s.latch := by
  induction l generalizing s with
  | nil => rfl
  | cons n l ih => simp [State.noteAll, ih]
@[simp] theorem State.noteAll_regs (note : Note) (l : List Nat) : (s.noteAll note l).regs = s.regs := by
  induction l generalizing s with
  | nil => rfl
  | cons n l ih => simp [State.noteAll, ih]
@[simp] theorem State.noteAll_dict (note : Note) (l : List Nat) : (s.noteAll note l).dict = s.dict := by
  induction l generalizing s with
  | nil => rfl
  | cons n l ih => simp [State.noteAll, ih]
@[simp] theorem State.noteAll_fePend (note : Note) (l : List Nat) : (s.noteAll note l).fePend = s.fePend := by
  induction l generalizing s with
  | nil => rfl
  | cons n l ih => simp [State.noteAll, ih]
@[simp] theorem State.noteAll_sub (note : Note) (l : List Nat) : (s.noteAll note l).sub = s.sub := by
  induction l generalizing s with
  | nil => rfl
  | cons n l ih => simp [State.noteAll, ih]
@[simp] theorem State.noteAll_ua (note : Note) (l : List Nat) : (s.noteAll note l).ua = s.ua := by
  induction l generalizing s with
  | nil => rfl
  | cons n l ih => simp [State.noteAll, ih]
@[simp] theorem State.noteAll_ub (note : Note) (l : List Nat) : (s.noteAll note l).ub = s.ub := by
  induction l generalizing s with
  | nil => rfl
  | cons n l ih => simp [State.noteAll, ih]
@[simp] theorem State.noteAll_arb (note : Note) (l : List Nat) : (s.noteAll note l).arb = s.arb := by
  induction l generalizing s with
  | nil => rfl
  | cons n l ih => simp [State.noteAll, ih]
@[simp] theorem State.noteAll_ports (note : Note) (l : List Nat) : (s.noteAll note l).ports = s.ports := by
  induction l generalizing s with
  | nil => rfl
  | cons n l ih => simp [State.noteAll, ih]
@[simp] theorem State.noteAll_st (note : Note) (l : List Nat) : (s.noteAll note l).st = s.st := by
  induction l generalizing s with
  | nil => rfl
  | cons n l ih => simp [State.noteAll, ih]
@[simp] theorem State.noteAll_tdm (note : Note) (l : List Nat) : (s.noteAll note l).tdm = s.tdm := by
  induction l generalizing s with
  | nil => rfl
  | cons n l ih => simp [State.noteAll, ih]
@[simp] theorem State.noteAll_surv (note : Note) (l : List Nat) : (s.noteAll note l).surv = s.surv := by
  induction l generalizing s with
  | nil => rfl
  | cons n l ih => simp [State.noteAll, ih]
@[simp] theorem State.noteAll_isl (note : Note) (l : List Nat) : (s.noteAll note l).isl = s.isl := by
  induction l generalizing s with
  | nil => rfl
  | cons n l ih => simp [State.noteAll, ih]
@[simp] theorem State.noteAll_kao (note : Note) (l : List Nat) : (s.noteAll note l).kao = s.kao := by
  induction l generalizing s with
  | nil => rfl
  | cons n l ih => simp [State.noteAll, ih]
@[simp] theorem State.noteAll_tap (note : Note) (l : List Nat) : (s.noteAll note l).tap = s.tap := by
  induction l generalizing s with
  | nil => rfl
  | cons n l ih => simp [State.noteAll, ih]

/-! ### notify -/

@[simp] theorem State.notify_pending (code key block : Nat) (payload : List Byte) : (s.notify code key block payload).pending = s.pending := by simp [State.notify]
@[simp] theorem State.notify_out (code key block : Nat) (payload : List Byte) : (s.notify code key block payload).out = s.out := by simp [State.notify]
@[simp] theorem State.notify_draws (code key block : Nat) (payload : List Byte) : (s.notify code key block payload).draws = s.draws := by simp [State.notify]
@[simp] theorem State.notify_tb (code key block : Nat) (payload : List Byte) : (s.notify code key block payload).tb = s.tb := by simp [State.notify]
@[simp] theorem State.notify_ptp (code key block : Nat) (payload : List Byte) : (s.notify code key block payload).ptp = s.ptp := by simp [State.notify]
@[simp] theorem State.notify_trig (code key block : Nat) (payload : List Byte) : (s.notify code key block payload).trig = s.trig := by simp [State.notify]
@[simp] theorem State.notify_owners (code key block : Nat) (payload : List Byte) : (s.notify code key block payload).owners = s.owners := by simp [State.notify]
@[simp] theorem State.notify_gpio (code key block : Nat) (payload : List Byte) : (s.notify code key block payload).gpio = s.gpio := by simp [State.notify]
@[simp] theorem State.notify_icM (code key block : Nat) (payload : List Byte) : (s.notify code key block payload).icM = s.icM := by simp [State.notify]
@[simp] theorem State.notify_icA (code key block : Nat) (payload : List Byte) : (s.notify code key block payload).icA = s.icA := by simp [State.notify]
@[simp] theorem State.notify_icB (code key block : Nat) (payload : List Byte) : (s.notify code key block payload).icB = s.icB := by simp [State.notify]
@[simp] theorem State.notify_latch (code key block : Nat) (payload : List Byte) : (s.notify code key block payload).latch = s.latch := by simp [State.notify]
@[simp] theorem State.notify_regs (code key block : Nat) (payload : List Byte) : (s.notify code key block payload).regs = s.regs := by simp [State.notify]
@[simp] theorem State.notify_dict (code key block : Nat) (payload : List Byte) : (s.notify code key block payload).dict = s.dict := by simp [State.notify]
@[simp] theorem State.notify_fePend (code key block : Nat) (payload : List Byte) : (s.notify code key block payload).fePend = s.fePend := by simp [State.notify]
@[simp] theorem State.notify_sub (code key block : Nat) (payload : List Byte) : (s.notify code key block payload).sub = s.sub := by simp [State.notify]
@[simp] theorem State.notify_ua (code key block : Nat) (payload : List Byte) : (s.notify code key block payload).ua = s.ua := by simp [State.notify]
@[simp] theorem State.notify_ub (code key block : Nat) (payload : List Byte) : (s.notify code key block payload).ub = s.ub := by simp [State.notify]
@[simp] theorem State.notify_arb (code key block : Nat) (payload : List Byte) : (s.notify code key block payload).arb = s.arb := by simp [State.notify]
@[simp] theorem State.notify_ports (code key block : Nat) (payload : List Byte) : (s.notify code key block payload).ports = s.ports := by simp [State.notify]
@[simp] theorem State.notify_st (code key block : Nat) (payload : List Byte) : (s.notify code key block payload).st = s.st := by simp [State.notify]
@[simp] theorem State.notify_tdm (code key block : Nat) (payload : List Byte) : (s.notify code key block payload).tdm = s.tdm := by simp [State.notify]
@[simp] theorem State.notify_surv (code key block : Nat) (payload : List Byte) : (s.notify code key block payload).surv = s.surv := by simp [State.notify]
@[simp] theorem State.notify_isl (code key block : Nat) (payload : List Byte) : (s.notify code key block payload).isl = s.isl := by simp [State.notify]
@[simp] theorem State.notify_kao (code key block : Nat) (payload : List Byte) : (s.notify code key block payload).kao = s.kao := by simp [State.notify]
@[simp] theorem State.notify_tap (code key block : Nat) (payload : List Byte) : (s.notify code key block payload).tap = s.tap := by simp [State.notify]

/-! ### What the changed fields read as -/

@[simp] theorem State.setUnit_unit (u : UnitId) (r : RUnit) : (s.setUnit u r).unit u = r := by cases u <;> rfl
@[simp] theorem State.onUnit_unit (u : UnitId) (f : RUnit → RUnit) : (s.onUnit u f).unit u = f (s.unit u) := by cases u <;> rfl
theorem State.setUnit_unit_other (u v : UnitId) (r : RUnit) (h : v ≠ u) : (s.setUnit u r).unit v = s.unit v := by
  cases u <;> cases v <;> first | rfl | exact absurd rfl h
theorem State.onUnit_unit_other (u v : UnitId) (f : RUnit → RUnit) (h : v ≠ u) : (s.onUnit u f).unit v = s.unit v :=
  s.setUnit_unit_other u v _ h
@[simp] theorem State.setIc_ic (c : Core) (i : IntCtl) : (s.setIc c i).ic c = i := by cases c <;> rfl
theorem State.setIc_ic_other (c d : Core) (i : IntCtl) (h : d ≠ c) : (s.setIc c i).ic d = s.ic d := by
  cases c <;> cases d <;> first | rfl | exact absurd rfl h
@[simp] theorem State.onRd_rd (u : UnitId) (f : Render → Render) : ((s.onRd u f).unit u).rd = f (s.unit u).rd := by
  cases u <;> rfl
@[simp] theorem State.onNv_nv (u : UnitId) (f : NovilArray → NovilArray) : ((s.onNv u f).unit u).nv = f (s.unit u).nv := by
  cases u <;> rfl
@[simp] theorem State.onFab_fab (u : UnitId) (f : Fabric → Fabric) : ((s.onFab u f).unit u).fab = f (s.unit u).fab := by
  cases u <;> rfl

/-- In a canonical register map a plain register reads what was last stored in it. -/
theorem State.reg_setReg (sp : Space) (addr v : Nat) (h : asorted s.regs = true) : (s.setReg sp addr v).reg sp addr = v :=
  agetD_aputD_same _ _ _ _ h

/-- Storing a register leaves every register with another key. -/
theorem State.reg_setReg_other (sp sq : Space) (a b v : Nat) (h : regKey sq b ≠ regKey sp a) :
    (s.setReg sp a v).reg sq b = s.reg sq b :=
  agetD_aputD_other _ _ _ _ _ _ h

end Sys2Proof.Machine
end

