-- ==== Sys2Proof/Laws/Ops.lean ====
section
/-!
SUPPORT. What each shared operation can do, said once: FIFOs (R477 to R479), interrupt sources (R515), event records (R457),
notes (R363), values in force (R63) and owner words (R29).
-/
namespace Sys2Proof.Machine
open Sys2Proof

set_option Elab.async false

variable {α : Type}

/-! ### Fall-through FIFOs -/

/-- Making a gap marker keeps the number of stages occupied. -/
@[simp] theorem gapLast_length : ∀ l : List (FItem α), (gapLast l).length = l.length
  | [] => rfl
  | [.item _ _] => rfl
  | [.gap _] => rfl
  | x :: y :: l => by simp only [gapLast, List.length_cons, gapLast_length (y :: l)]

/-- An item that finds a free stage enters it. -/
theorem Fifo.push_items_of_room (d : Nat) (f : Fifo α) (v : α) (e : Bool) (hd : f.dropping = false)
    (h : f.items.length < d) : (f.push d v e).items = f.items ++ [.item v e] := by
  simp [Fifo.push, hd, h, Fifo.relevel]

/-- An item that finds every stage occupied turns the input-most one into a gap marker, or extends the marker there. -/
theorem Fifo.push_items_of_full (d : Nat) (f : Fifo α) (v : α) (e : Bool) (hd : f.dropping = false)
    (h : ¬ f.items.length < d) : (f.push d v e).items = gapLast f.items := by
  simp [Fifo.push, hd, h]

/-- While a packet is being dropped an arriving item is discarded. -/
theorem Fifo.push_items_of_dropping (d : Nat) (f : Fifo α) (v : α) (e : Bool) (hd : f.dropping = true) :
    (f.push d v e).items = f.items := by
  simp [Fifo.push, hd]

/-- A FIFO never holds more than its depth. -/
theorem Fifo.push_level_le (d : Nat) (f : Fifo α) (v : α) (e : Bool) (h : f.items.length ≤ d) :
    (f.push d v e).items.length ≤ d := by
  unfold Fifo.push
  split
  · exact h
  · split
    · simp only [Fifo.relevel, List.length_append, List.length_cons, List.length_nil]; omega
    · simpa using h

/-- The watermark of a FIFO is software's: an arrival leaves it. -/
@[simp] theorem Fifo.push_wm (d : Nat) (f : Fifo α) (v : α) (e : Bool) : (f.push d v e).wm = f.wm := by
  unfold Fifo.push
  split
  · rfl
  · split <;> rfl

/-- DROP_PKT never lengthens a FIFO. -/
theorem dropPkt_length_le : ∀ l : List (FItem α), (dropPkt l).1.length ≤ l.length
  | [] => Nat.le_refl _
  | .gap _ :: l => Nat.le_succ_of_le (dropPkt_length_le l)
  | .item _ true :: _ => Nat.le_succ _
  | .item _ false :: l => Nat.le_succ_of_le (dropPkt_length_le l)

/-- DROP_PKT goes on dropping exactly where it emptied the FIFO without an end item. -/
theorem dropPkt_going : ∀ l : List (FItem α), (dropPkt l).2 = true ↔ ∀ v, FItem.item v true ∉ l
  | [] => by simp [dropPkt]
  | .gap _ :: l => by simp [dropPkt, dropPkt_going l]
  | .item w true :: l => by
    simp only [dropPkt, Bool.false_eq_true, false_iff]
    exact fun h => h w (by simp)
  | .item _ false :: l => by simp [dropPkt, dropPkt_going l]

/-! ### Interrupt sources -/

@[simp] theorem IntCtl.setPend_insvc (i : IntCtl) (us n : Nat) : (i.setPend us n).insvc = i.insvc := by
  unfold IntCtl.setPend; split; · rfl
  · dsimp only; split <;> rfl
@[simp] theorem IntCtl.setPend_enable (i : IntCtl) (us n : Nat) : (i.setPend us n).enable = i.enable := by
  unfold IntCtl.setPend; split; · rfl
  · dsimp only; split <;> rfl
@[simp] theorem IntCtl.setPend_srccfg (i : IntCtl) (us n : Nat) : (i.setPend us n).srccfg = i.srccfg := by
  unfold IntCtl.setPend; split; · rfl
  · dsimp only; split <;> rfl
@[simp] theorem IntCtl.setPend_threshold (i : IntCtl) (us n : Nat) : (i.setPend us n).threshold = i.threshold := by
  unfold IntCtl.setPend; split; · rfl
  · dsimp only; split <;> rfl

/-- After a source fires it is pending, and every other source is pending exactly if it was. -/
@[simp] theorem IntCtl.mem_setPend (i : IntCtl) (us n m : Nat) :
    m ∈ (i.setPend us n).pend ↔ m = n ∨ m ∈ i.pend := by
  unfold IntCtl.setPend
  split
  · next h => constructor
              · exact Or.inr
              · rintro (rfl | h2)
                · exact h
                · exact h2
  · dsimp only; split <;> simp

/-- No source is listed as pending twice. -/
theorem IntCtl.setPend_nodup (i : IntCtl) (us n : Nat) (h : i.pend.Nodup) : (i.setPend us n).pend.Nodup := by
  unfold IntCtl.setPend
  split
  · exact h
  · next hn => dsimp only; split <;> simp [hn, h]

/-- An edge source that fires becomes pending at its core and stays enabled, in service or neither as it was. -/
theorem State.mem_raiseEdge (s : State) (c : Core) (n m : Nat) :
    m ∈ ((s.raiseEdge c n).ic c).pend ↔ m = n ∨ m ∈ (s.ic c).pend := by
  simp [State.raiseEdge]

/-- The other cores' controllers do not see it. -/
theorem State.raiseEdge_ic_other (s : State) (c d : Core) (n : Nat) (h : d ≠ c) : (s.raiseEdge c n).ic d = s.ic d :=
  s.setIc_ic_other c d _ h

/-- A level source that is in service stays as it is. -/
theorem State.raiseLevel_of_insvc (s : State) (c : Core) (n : Nat) (h : n ∈ (s.ic c).insvc) : s.raiseLevel c n = s := by
  simp [State.raiseLevel, h]

/-- A level source that is not in service becomes pending. -/
theorem State.raiseLevel_of_not_insvc (s : State) (c : Core) (n : Nat) (h : n ∉ (s.ic c).insvc) :
    s.raiseLevel c n = s.raiseEdge c n := by
  simp [State.raiseLevel, h]

/-- Setting sticky bits changes the one register, whatever its level source does. -/
theorem State.reg_setStat (s : State) (sp : Space) (a m : Nat) (h : asorted s.regs = true) :
    (s.setStat sp a m).reg sp a = s.reg sp a ||| m := by
  simp only [State.reg, State.setStat_regs]
  exact agetD_aputD_same _ _ _ _ h

theorem State.reg_setStat_other (s : State) (sp sq : Space) (a b m : Nat) (h : regKey sq b ≠ regKey sp a) :
    (s.setStat sp a m).reg sq b = s.reg sq b := by
  simp only [State.reg, State.setStat_regs]
  exact agetD_aputD_other _ _ _ _ _ _ h

/-! ### Event records -/

/-- An event is recorded, or it is counted as suppressed: over its code's rate, or with the buffer full. -/
theorem State.logEvent_cases (s : State) (code source level d0 d1 : Nat) :
    (((10 ≤ agetD s.sub.logRate code 0 ∨ 1024 ≤ s.sub.logBuf.length) ∧
      (s.logEvent code source level d0 d1).sub =
        { s.sub with logSuppressed := aput s.sub.logSuppressed code (agetD s.sub.logSuppressed code 0 + 1) })) ∨
    ((agetD s.sub.logRate code 0 < 10 ∧ s.sub.logBuf.length < 1024) ∧
      (s.logEvent code source level d0 d1).sub =
        { s.sub with
          logBuf := s.sub.logBuf ++ [⟨s.sub.logNext, s.tb.sec, s.tb.ns, code, source, level, d0, d1⟩]
          logNext := if s.sub.logNext = 0xFFFFFFFF then 1 else s.sub.logNext + 1
          logRate := aput s.sub.logRate code (agetD s.sub.logRate code 0 + 1) }) := by
  by_cases h : 10 ≤ agetD s.sub.logRate code 0 ∨ 1024 ≤ s.sub.logBuf.length
  · exact .inl ⟨h, by simp only [State.logEvent, State.logAt, if_pos h]⟩
  · exact .inr ⟨by omega, by simp only [State.logEvent, State.logAt, if_neg h]⟩

/-- The event buffer never exceeds its 1,024 records. -/
theorem State.logEvent_logBuf_le (s : State) (code source level d0 d1 : Nat) (h : s.sub.logBuf.length ≤ 1024) :
    (s.logEvent code source level d0 d1).sub.logBuf.length ≤ 1024 := by
  obtain ⟨_, e⟩ | ⟨⟨_, hl⟩, e⟩ := s.logEvent_cases code source level d0 d1
  · rw [e]; exact h
  · rw [e]; simp only [List.length_append, List.length_cons, List.length_nil]; omega

/-! ### Notes -/

/-- A note to a closed session goes nowhere. -/
theorem State.noteTo_of_closed (s : State) (n : Nat) (x : Note) (h : (s.sess n).isOpen = false) : s.noteTo n x = s := by
  simp [State.noteTo, h]

/-- A note to an open session joins its queue of 64. -/
theorem State.noteTo_of_open (s : State) (n : Nat) (x : Note) (h : (s.sess n).isOpen = true) :
    s.noteTo n x = s.setSess n { s.sess n with queue := (s.sess n).queue.push 64 x false } := by
  simp [State.noteTo, h]

/-- A session is changed alone. -/
theorem State.sess_setSess_other (s : State) (n m : Nat) (x : Session) (h : m ≠ n) : (s.setSess n x).sess m = s.sess m := by
  simp only [State.sess, State.setSess]
  exact agetD_aputD_other _ _ _ _ _ _ h

/-- A session reads back as it was set, in a canonical session map. -/
theorem State.sess_setSess (s : State) (n : Nat) (x : Session) (h : asorted s.dam.sessions = true) :
    (s.setSess n x).sess n = x := by
  simp only [State.sess, State.setSess]
  exact agetD_aputD_same _ _ _ _ h

/-! ### Values in force -/

/-- With no accepted write of a key that applies by index `x`, the stored value is in force. -/
theorem valueAt_of_none (m : Assoc DVal) (p : List JRec) (k x : Nat)
    (h : ∀ r ∈ p, ¬ (r.key = k ∧ r.wins = true ∧ r.apply ≤ x)) : valueAt m p k x = baseVal m k := by
  have : pendAt k x p = none := by
    induction p with
    | nil => rfl
    | cons r l ih =>
      have h1 := h r (by simp)
      have h2 := ih (fun q hq => h q (by simp [hq]))
      simp only [pendAt, h2]
      rw [if_neg h1]
  simp only [valueAt, this]

/-- A write accepted last is in force from its apply index on, where no standing write of its key applies later. -/
theorem pendAt_append (k x : Nat) (r : JRec) (h1 : r.key = k) (h2 : r.wins = true) (h3 : r.apply ≤ x) :
    ∀ p : List JRec, (∀ q ∈ p, q.apply ≤ r.apply) → pendAt k x (p ++ [r]) = some r
  | [], _ => by simp [pendAt, h1, h2, h3]
  | q :: l, h => by
    have ih := pendAt_append k x r h1 h2 h3 l (fun a ha => h a (by simp [ha]))
    have hq := h q (by simp)
    simp only [List.cons_append, pendAt, ih]
    rw [if_neg (by omega)]

/-! ### Owner words -/

theorem State.own_setOwn_other (s : State) (r q : Res) (w : OwnerWord) (h : resKey q ≠ resKey r) :
    (s.setOwn r w).own q = s.own q := by
  simp only [State.own, State.setOwn]
  exact agetD_aputD_other _ _ _ _ _ _ h

theorem State.own_setOwn (s : State) (r : Res) (w : OwnerWord) (h : asorted s.owners = true) :
    (s.setOwn r w).own r = w := by
  simp only [State.own, State.setOwn]
  exact agetD_aputD_same _ _ _ _ h

end Sys2Proof.Machine
end

