-- ==== Sys2Proof/Machine/TapPort.lean ====
section
/-!
DEFINITION. The test access port (R532): boundary scan of the balls but those of the island, and IDCODE. Its controller is that of
IEEE 1149.1; no command of the spec's table clocks it (log entry 176).
-/
namespace Sys2Proof.Machine
open Sys2Proof

/-- IDCODE (R532). -/
def tapIdcode : Nat := 0xB104A2D3

/-- Bits of a number, the least significant first. -/
def numBits (n v : Nat) : List Bool := (List.range n).map (fun i => natBit v i)

/-- The controller's next state at a rising edge of TCK, by TMS. -/
def TapCtl.next (c : TapCtl) (tms : Bool) : TapCtl :=
  match c with
  | .reset => if tms then .reset else .idle
  | .idle => if tms then .selectDr else .idle
  | .selectDr => if tms then .selectIr else .captureDr
  | .captureDr => if tms then .exit1Dr else .shiftDr
  | .shiftDr => if tms then .exit1Dr else .shiftDr
  | .exit1Dr => if tms then .updateDr else .pauseDr
  | .pauseDr => if tms then .exit2Dr else .pauseDr
  | .exit2Dr => if tms then .updateDr else .shiftDr
  | .updateDr => if tms then .selectDr else .idle
  | .selectIr => if tms then .reset else .captureIr
  | .captureIr => if tms then .exit1Ir else .shiftIr
  | .shiftIr => if tms then .exit1Ir else .shiftIr
  | .exit1Ir => if tms then .updateIr else .pauseIr
  | .pauseIr => if tms then .exit2Ir else .pauseIr
  | .exit2Ir => if tms then .updateIr else .shiftIr
  | .updateIr => if tms then .selectDr else .idle

/-- The register that an instruction selects, of a code that the spec does not give. -/
def tapSelect (ir : List Bool) : TapReg :=
  match Config.tapInstr ir with
  | 0 => .idcode
  | 1 => .boundary
  | _ => .bypass

/-- What the selected register captures; the boundary register the levels of the balls, of which none is the island's. -/
def Tap.capture (t : Tap) (balls : List Bool) : List Bool :=
  match t.sel with
  | .idcode => numBits 32 tapIdcode
  | .boundary => balls
  | .bypass => [false]

/-- A register shifted by TDI. -/
def tapShift (l : List Bool) (tdi : Bool) : List Bool := if l.isEmpty then [] else l.drop 1 ++ [tdi]

/-- A rising edge of TCK: what the present state does, and the next state. -/
def Tap.clock (t : Tap) (tms tdi : Bool) (balls : List Bool) : Tap :=
  let u := match t.ctl with
    | .reset => { t with sel := .idcode }
    | .captureDr => { t with shift := t.capture balls }
    | .captureIr => { t with shift := true :: List.replicate (Config.tapIrLen - 1) false }
    | .shiftDr | .shiftIr => { t with shift := tapShift t.shift tdi }
    | .updateDr => if t.sel = TapReg.boundary then { t with cells := t.shift } else t
    | .updateIr => { t with sel := tapSelect t.shift }
    | _ => t
  { u with ctl := t.ctl.next tms }

/-- TDO while a register shifts; otherwise high impedance. -/
def Tap.tdo (t : Tap) : Option Bool :=
  match t.ctl with
  | .shiftDr | .shiftIr => t.shift.head?
  | _ => none

/-- TRST_N is asserted: the controller is reset, and IDCODE is selected. -/
def Tap.trst (t : Tap) : Tap := { t with ctl := .reset, sel := .idcode }

end Sys2Proof.Machine
end

