-- ==== Sys2Proof/Tests/Slice0.lean ====
section
/-!
SUPPORT. Small tests: the well-formedness check refuses an ill-formed command of each kind, and every statement with
hypotheses has a state and operands that meet them.
-/
set_option Elab.async false
namespace Sys2Proof.Tests
open Sys2Proof Sys2Proof.Machine

/-- A started device with both units loaded and session 1 open as the administrator. -/
def base : State :=
  { State.reset with
    dict := [(dkey 0xC100 1 1, .bytes (List.replicate 32 1))]
    sub := { State.reset.sub with porN := true, coreUp := true, penCore := true, penSds := true, penLp := true, power := .ready }
    dam := { sessions := [(1, { isOpen := true, xEnd := 1000 })] }
    ua := { hl := { loaded := true } }
    ub := { hl := { loaded := true } } }

/-- The command is answered with a next state that passes a check. -/
def after (c : Instr) (s : State) (p : State → Bool) : Bool :=
  match exec c s with
  | .next t => p t
  | _ => false

/-- Rails in range, both units trained and filled, the recovery pin low. -/
def env0 : BootEnv := ⟨true, true, true, true, true, false, []⟩

/-- A state with its management part changed. -/
def subOf (f : Subsoil → Subsoil) (s : State) : State := { s with sub := f s.sub }

/-- A state with its dictionary changed: values put in addition. -/
def dictOf (l : List (Nat × DVal)) (s : State) : State := { s with dict := l.foldl (fun m e => aput m e.1 e.2) s.dict }

/-- The device renders. -/
def rendering : State := subOf (fun p => { p with power := .render }) base

theorem test_step_front : (State.reset.pending = []) ∧ ({ State.reset with pending := [Instr.sampleTick] } : State).pending = [Instr.sampleTick] := by
  decide +kernel

theorem test_por_release_without_image_recovers :
    State.reset.sub.porN = false ∧ after (.porNRelease env0) State.reset (fun t => t.sub.porN && t.sub.recovery && t.sub.penCore) = true := by
  decide +kernel
theorem test_por_release_without_rails :
    after (.porNRelease { env0 with coreRails := false }) State.reset (fun t => t.sub.power == .starting && !t.sub.coreUp) = true := by
  decide +kernel
theorem test_por_assert_and_supply_loss : after .porNAssert base (fun t => !t.sub.porN && t.dict == []) = true ∧
    after .supplyLoss base (fun t => t.sub.power == .off) = true := by decide +kernel

/-- PEN_CORE high with its rails out of range for the third time. -/
def coreLate : State := subOf (fun p => { p with porN := true, penCore := true, penCoreFails := 2 }) State.reset
theorem test_pen_core_third_failure_trips : coreLate.sub.coreUp = false ∧
    after (.penCoreTimeout env0) coreLate (fun t => t.sub.tripN && !t.sub.penCore) = true := by decide +kernel
theorem test_pen_core_first_failure_tries_again : after (.penCoreTimeout { env0 with coreRails := false })
    (subOf (fun p => { p with penCoreFails := 0 }) coreLate) (fun t => t.sub.penCore && t.sub.penCoreFails == 1) = true := by decide +kernel
theorem test_pen_lp_and_sds : base.sub.penLp = true ∧ base.sub.power = .ready ∧ base.sub.penSds = true ∧ base.mayLog 0x21 = true ∧
    after (.penLpTimeout .b) base (fun t => !t.ub.hl.loaded && t.ua.hl.loaded && t.sub.power == .ready) = true ∧
    after .penSdsTimeout base (fun t => t.sub.sdsFailed && t.sub.logBuf.length == 1) = true := by decide +kernel

/-- A transition to IDLE with nothing queued, and with a request queued that asks for nothing. -/
def toIdle : State := subOf (fun p => { p with transition := some .idle }) base
theorem test_transition_end : toIdle.sub.transition = some .idle ∧ toIdle.sub.queuedReq = none ∧ base.sub.transition = none ∧
    after .powerTransitionEnd toIdle (fun t => t.sub.power == .idle && t.sub.transition.isNone) = true := by decide +kernel
theorem test_transition_end_queued : after .powerTransitionEnd (subOf (fun p => { p with queuedReq := some 0 }) toIdle)
    (fun t => t.sub.power == .idle) = true := by decide +kernel
theorem test_thermal_trip : after (.thermalTrip 3) rendering (fun t => t.sub.power == .idle && t.sub.tripN && t.ua.fab.awakeTo == 0 &&
    natBit (t.reg .shared mbStat) 6) = true := by decide +kernel

/-- STANDBY with wake on P0 and a magic packet for its MAC address. -/
def asleep : State :=
  dictOf [(dkey 0x3000 3 0, .num 0x020304050607), (dkey 0x3000 6 0, .num 0x0A000001)]
    (subOf (fun p => { p with power := .standby, aonWake := [(dkey 0x3000 0xC 0, .num 1)] }) base)
def magic : List Byte :=
  beBytes 6 0x020304050607 ++ beBytes 6 1 ++ [0x08, 0x42] ++ List.replicate 6 0xFF ++ (List.replicate 16 (beBytes 6 0x020304050607)).flatten
theorem test_wake : asleep.sub.power = .standby ∧ baseVal asleep.sub.aonWake (dkey 0x3000 0xC 0) = .num 1 ∧
    asleep.wakeMatch 0 magic = 1 ∧ asleep.lineDrop 0 magic false = none := by decide +kernel
theorem test_wake_starts : after (.wakeEvent 0 magic false { env0 with coreRails := false }) asleep (fun t => t.sub.porN && t.sub.wakeReason == 1) = true := by
  decide +kernel

theorem test_temperature : after (.temperatureSample (List.replicate 12 0x6F00)) base
    (fun t => t.sub.warnOn && t.sub.critOn && t.sub.logBuf.length == 2) = true := by decide +kernel
theorem test_pmb : base.mayLog 0x12 = true ∧ after (.pmbAlert 0x840) base (fun t => (t.sub.logBuf.map (·.data0)) == [0x840]) = true := by
  decide +kernel
theorem test_readback_third_failure_stops : after (.pmbusReadback 700) (subOf (fun p => { p with vPend := true, vTries := 2 }) base)
    (fun t => t.sub.vStopped && natBit (t.reg .shared mbStat) 7) = true := by decide +kernel
/-- Unit A has closed block 5 with a margin of 100 ns. -/
def closed5 : State := { rendering with ua := { rendering.ua with hl := { rendering.ua.hl with margins := [(5, 100, 0)] } } }
theorem test_block_margin : closed5.rendering = true ∧ closed5.sub.win.count.length = 2 ∧ 2 ≤ marginClass rendering.rate 100 ∧
    after (.monitorBlockMargin .a 100) closed5 (fun t => t.sub.vset == 760 && t.sub.win.count == [1, 0] && t.ua.hl.margins.isEmpty && natBit (t.reg (.unit .a) 0x20090008) 9) = true := by
  decide +kernel
theorem test_window_end_lowers : after .monitorWindowEnd (subOf (fun p => { p with goodWindows := 59, winSec := 1 }) rendering)
    (fun t => t.sub.vset == 740 && t.sub.goodWindows == 0) = true := by decide +kernel

theorem test_watchdog : let s : State := { base with tb := { base.tb with us := 10000000 } }
    s.reg .shared 0x30050024 * 1000 ≤ (s.tb.us + 2 ^ 48 - s.sub.kickUs) % 2 ^ 48 ∧
    after .mwdtExpiry s (fun t => t.sub.restarting && t.sub.restarts == 1) = true := by decide +kernel
theorem test_kick : after (.mwdtKick .mgmt 0x4B49) { base with tb := { base.tb with us := 7 } } (fun t => t.sub.kickUs == 7) = true := by
  decide +kernel
theorem test_control_watchdog : after (.controlWatchdogExpiry .a) base (fun t => !t.ua.hl.loaded && t.ua.hl.loading) = true := by
  decide +kernel
theorem test_control_image_bad : after (.controlImageLoaded .a) { base with ua := { hl := { loading := true } } }
    (fun t => !t.ua.hl.loading && !t.ua.hl.loaded) = true := by decide +kernel
theorem test_management_restart_done : after (.managementRestartDone true false) (subOf (fun p => { p with restarting := true }) base)
    (fun t => !t.sub.restarting && t.sub.recovery) = true := by decide +kernel
theorem test_install_after_transition : after .powerTransitionEnd (subOf (fun p => { p with installDue := true, stagedRegion := some 1 }) toIdle)
    (fun t => t.sub.transition.isNone && !t.sub.installDue) = true := by decide +kernel
/-- Copy 0 of generation 3 and copy 1 of generation 4. -/
def twoCopies : List StoreCopy := [⟨3, true, [(1, .num 1)], [[], []]⟩, ⟨4, true, [(1, .num 2)], [[], []]⟩]
theorem test_store_copies : copyVals twoCopies = [(1, .num 2)] ∧ copyVals (spoilCopies twoCopies 0 [1]) = [(1, .num 1)] ∧
    ignoredCopies (spoilCopies twoCopies 0 [0, 1]) = true ∧ (saveCopy twoCopies [] []).map (·.gen) = [5, 4] := by decide +kernel

/-- The write of a number entry passes its tests. -/
def accepted (s : State) (key v a : Nat) : Bool := s.acceptsWrite 1 key v 0 a
/-- The newest output is the decision OK for session 1, and the state passes a check. -/
def decided (c : Instr) (s : State) (p : State → Bool) : Bool :=
  after c s (fun t => t.out.head? == some (.decision 1 .ok) && p t)

theorem test_power_req : accepted base (dkey 0x1100 2 0) 2 0 = true ∧
    decided (.powerReq 1 2) base (fun t => t.sub.transition == some .idle && t.ua.fab.awakeTo == 0) = true := by decide +kernel
theorem test_power_req_queued : accepted toIdle (dkey 0x1100 2 0) 3 0 = true ∧
    decided (.powerReq 1 3) toIdle (fun t => t.sub.queuedReq == some 3) = true := by decide +kernel
def idle : State := subOf (fun p => { p with power := .idle }) base
theorem test_power_req_ready : accepted idle (dkey 0x1100 2 0) 3 0 = true ∧
    decided (.powerReq 1 3) idle (fun t => t.sub.transition == some .ready && t.ub.fab.waking) = true := by decide +kernel
theorem test_power_req_standby : accepted base (dkey 0x1100 2 0) 1 0 = true ∧
    decided (.powerReq 1 1) base (fun t => t.sub.transition == some .standby && (newestCopy t.sub.stores).isSome && !t.sub.penCore) = true := by decide +kernel
theorem test_store_reset : accepted base (dkey 0x1020 2 0) 1 0 = true ∧
    decided (.storeResetWrite 1 1) base (fun t => t.sub.storeResetNext) = true := by decide +kernel
theorem test_port_config : base.canonical = true ∧ accepted base (dkey 0x3000 1 0) 1 0 = true ∧ accepted base (dkey 0x3000 2 1) 1 0 = true ∧
    decided (.portConfigWrite 1 1 true 1) base (fun t => decide (baseVal t.dict (dkey 0x3000 2 1) = .num 1)) = true := by decide +kernel
def tdmRuns : State := { base with tdm := [{ run := true }, {}, {}, {}, {}, {}, {}, {}] }
theorem test_rng_go : accepted tdmRuns (dkey 0x3C30 1 0) 1 0 = true ∧
    decided (.rngGo 1 0 1) tdmRuns (fun t => (t.tdmPort 0).rng.state == 1) = true := by decide +kernel
theorem test_log_req : accepted base (dkey 0xB010 1 0) 5 0 = true ∧
    decided (.logReq (.host 1) 5) base (fun t => t.kao.logReq == some 0 && decide (baseVal t.dict (dkey 0xB010 3 0) = .num 1)) = true := by
  decide +kernel
def islandStaged : State := dictOf [(dkey 0xB030 3 0, .num 2)]
  (subOf (fun p => { p with islandStage := [1, 2] }) { base with kao := { unsealed := true, statusUs := some 0 } })
theorem test_kao_install : islandStaged.canonical = true ∧ accepted islandStaged (dkey 0xB030 2 0) 1 0 = true ∧
    decided (.kaoInstall 1 1) islandStaged (fun t => t.sub.islandStage == [] && decide (baseVal t.dict (dkey 0xB030 3 0) = .num 3)) = true := by
  decide +kernel

/-- The last journal record has a key and an apply index. -/
def journaled (t : State) (key a : Nat) : Bool :=
  match t.sub.journal.getLast? with
  | some j => j.key == key && j.apply == a && j.jseq == 1 && t.sub.jseq == 2 && j.session == 1
  | none => false
def ptpLocked : State := { base with ptp := { base.ptp with lock := .locked } }
theorem test_render_write : accepted ptpLocked (dkey 0x1100 3 0) 1 64 = true ∧
    decided (.renderWrite 1 1 0) ptpLocked (fun t => journaled t (dkey 0x1100 3 0) 64) = true := by decide +kernel
def csStaged : State := dictOf [(dkey 0x6210 1 0, .num 2), (dkey 0x6210 2 0, .num 0)]
  { base with dam := { base.dam with csStage := some (0, [0, 0, 0, 0, 0, 0, 0xBB, 0x80] ++ List.replicate 8 0) } }
theorem test_cs_commit : accepted csStaged (dkey 0x6200 2 0) 1 (32 * 1024) = true := by decide +kernel
def graphStaged : State := dictOf [(dkey 0x8010 3 0, .num 1), (dkey 0x8010 1 0, .bytes ([0, 0, 0, 0, 0, 0, 0xBB, 0x80] ++ List.replicate 8 0))] base
theorem test_graph_commit : accepted graphStaged (dkey 0x8010 2 0) 1 (32 * 768) = true ∧
    decided (.nvGraphCommit 1 1 0) graphStaged (fun t => journaled t (dkey 0x8010 2 0) (32 * 768)) = true := by decide +kernel
def ctrlStaged : State := dictOf [(dkey 0xD100 2 1, .num 2)] (subOf (fun p => { p with stagedRegion := some 1 }) base)
theorem test_update_write : accepted ctrlStaged (dkey 0x9030 2 0) 1 64 = true ∧
    decided (.updateWrite 1 0 1 0) ctrlStaged (fun t => journaled t (dkey 0x9030 2 0) 64) = true := by decide +kernel
/-- The active graph has an NL-SURV job, whose library image is one byte here. -/
def surveyJob : NvJob := jobAt (List.replicate 64 0) 0
def surveyed : State := dictOf [(dkey 0x8000 1 0, .bytes [1])] (subOf (fun p => { p with nlDigest := sha256 [1] })
  { base with ua := { base.ua with nv := { base.ua.nv with graph := [surveyJob] } } })
theorem test_surv_go : accepted surveyed (dkey 0xA020 4 0) 1 64 = true ∧
    decided (.survGo 1 1 0) surveyed (fun t => journaled t (dkey 0xA020 4 0) 64) = true := by decide +kernel

theorem test_cs_empty : accepted base (dkey 0x6200 3 0) 1 32 = true ∧
    decided (.csEmpty 1 0 1) base (fun t => decide (baseVal t.dict (dkey 0x6200 4 0) = .num 0)) = true := by decide +kernel
def mgmtStaged : State := dictOf [(dkey 0xD100 2 0, .num 2)] base
theorem test_mgmt_activate : accepted mgmtStaged (dkey 0xD100 5 0) 1 0 = true ∧
    decided (.mgmtActivate 1 1) mgmtStaged (fun t => t.sub.restarting && t.sub.dir.slot == 1 && t.sub.dir.trial) = true := by decide +kernel
theorem test_ctrl_install : accepted ctrlStaged (dkey 0xD100 7 0) 1 0 = true ∧
    decided (.ctrlInstall 1 1) ctrlStaged (fun t => t.sub.power == .starting && !t.ua.hl.loaded) = true := by decide +kernel
theorem test_ctrl_install_waits : let s := subOf (fun p => { p with transition := some .idle }) ctrlStaged
    accepted s (dkey 0xD100 7 0) 1 0 = true ∧
    decided (.ctrlInstall 1 1) s (fun t => t.sub.installDue && t.sub.transition == some .idle) = true := by decide +kernel
theorem test_kick_session : accepted base (dkey 0xC100 8 1) 1 0 = true ∧
    decided (.kickWrite 1 1 1) base (fun t => !(t.sess 1).isOpen) = true := by decide +kernel
theorem test_snapshot : accepted base (dkey 0xC200 6 1) 1 0 = true ∧ decided (.snapshotWrite 1 1 1) base (fun _ => true) = true := by
  decide +kernel

theorem test_owner_entry : accepted base (dkey 0x2100 1 3) 1 0 = true ∧
    decided (.ownerEntryWrite 1 (.tt 3) 1) base (fun t => (t.own (.tt 3)).owner == 1) = true := by decide +kernel
def owns3 : State := { base with owners := [(3, ⟨1, false⟩)] }
theorem test_trigger_arm : accepted owns3 (dkey 0x2100 4 3) 100 0 = true ∧
    decided (.triggerArm (.host 1) 3 100) owns3 (fun t => (t.tt 3).state == .armed && (t.tt 3).start == 100) = true := by decide +kernel
def armed3 : State := { owns3 with trig := [(3, { state := .armed, start := 200 })] }
theorem test_trigger_disarm : accepted armed3 (dkey 0x2100 0xA 3) 1 0 = true ∧ armed3.tb.sidx < (armed3.tt 3).nextIdx ∧
    decided (.triggerDisarm (.host 1) 3) armed3 (fun t => (t.tt 3).state == .idle) = true := by decide +kernel
theorem test_gpio_out : accepted base (dkey 0x3800 4 2) 1 0 = true ∧
    decided (.gpioConfigWrite (.host 1) 2 .out 1) base (fun t => (t.ball 2).out) = true := by decide +kernel

/-- The base device with its timebase changed. -/
def tbOf (f : Timebase → Timebase) : State := { base with tb := f base.tb }
theorem test_sample_tick : base.tbRuns = true ∧ base.rendering = false ∧
    base.tb.now + (base.tb.ticksTo (tickTime base.rate base.tb.offset 1)) * base.tb.incr < 2 ^ 48 * secUnit ∧
    after .sampleTick base (fun t => t.tb.sidx == 1 && t.tb.ns == 20834 && t.tb.mclkRun) = true := by decide +kernel
theorem test_sample_tick_render : rendering.rendering = true ∧ after .sampleTick rendering (fun t => t.tb.sidx == 1) = true := by decide +kernel
/-- One nanosecond before a second, with the sample tick due at the second. -/
def nearSecond : State := tbOf (fun t => { t with ns := 999999999, sidx := 47999 })
theorem test_second_boundary : nearSecond.tbRuns = true ∧ ¬ nearSecond.ticksToSample < nearSecond.tb.ticksToSecond ∧
    after .secondBoundary nearSecond (fun t => t.tb.sec == 1 && t.tb.ns == 1 && t.tb.pps) = true := by decide +kernel
def pulse : State := tbOf (fun t => { t with pps := true, ppsLeft := nsUnit })
theorem test_pps_out_fall : ¬ pulse.ticksToSample < (pulse.tb.ppsLeft + pulse.tb.incr - 1) / pulse.tb.incr ∧
    pulse.tb.now % secUnit + pulse.tb.ppsLeft + pulse.tb.incr ≤ secUnit ∧
    after .ppsOutFall pulse (fun t => !t.tb.pps && t.tb.ppsLeft == 0 && t.tb.ns == 2) = true := by decide +kernel
theorem test_us_step : (tbOf (fun t => { t with us := 5 })).tb.usAcc < 1000 * nsUnit ∧
    after .tbUsStep (tbOf (fun t => { t with us := 5 })) (fun t => t.tb.us == 6 && t.tb.ns == 1000) = true := by decide +kernel
theorem test_us_step_timer : let s : State := { base with icM := { timecmp := 1 } }
    (s.ic .mgmt).timecmp ≤ 1 ∧ after .tbUsStep s (fun t => decide (0x19 ∈ (t.ic .mgmt).pend)) = true := by decide +kernel

theorem test_incr_accepted : after (.tbIncrHiWrite .mgmt 2) (tbOf (fun t => { t with incrLo := 0x83126E })) (fun t => t.tb.incr == 0x20083126E) = true := by
  decide +kernel
theorem test_incr_rejected : after (.tbIncrHiWrite .mgmt 2) (tbOf (fun t => { t with incrLo := 0x83126F }))
    (fun t => t.tb.incr == 0x200000000 && natBit (t.reg .shared tbStat) 0) = true := by decide +kernel
theorem test_step_forward : after (.tbStepHiWrite .mgmt 0) (tbOf (fun t => { t with stepLo := 1000000 }))
    (fun t => t.tb.ns == 1000002 && t.tb.stepLo == 0 && t.tb.sidx == 48) = true := by decide +kernel
theorem test_step_negative : after (.tbStepHiWrite .mgmt 0xFFFFFFFF) (tbOf (fun t => { t with stepLo := 0xFFFFFFFD }))
    (fun t => t.tb.ns == 2 && natBit (t.reg .shared tbStat) 1) = true := by decide +kernel
theorem test_tb_stop_in_render : after (.tbCtrlEn .mgmt false) rendering (fun t => t.tb.en && natBit (t.reg .shared tbStat) 3) = true := by
  decide +kernel
theorem test_mclk_off : after (.mclkEn .mgmt false) (tbOf (fun t => { t with mclkRun := true })) (fun t => !t.tb.mclkRun) = true := by decide +kernel
theorem test_other_master : after (.tbStepHiWrite .ua 5) base (fun t => t.out == [.regError .ua 0x30000014]) = true := by decide +kernel

theorem test_pps_in_follower : base.feN 0x2010 1 0 ≠ 1 ∧
    after (.ppsInEdge none none) base (fun t => t.tb.ppsInNs == 2 && natBit (t.reg .shared tbStat) 2) = true := by decide +kernel
def leader : State := dictOf [(dkey 0x2010 1 0, .num 1)] { base with ptp := { lock := .acquiring, goodRun := 15 } }
theorem test_pps_in_leader_locks : leader.feN 0x2010 1 0 = 1 ∧ (secondOffset (leader.tbAdvance 1).tb).natAbs ≤ 1000 * nsUnit ∧
    after (.ppsInEdge none none) leader (fun t => t.ptp.lock == .locked) = true := by decide +kernel
theorem test_pps_in_timeout : after .ppsInTimeout leader (fun t => t.ptp.lock == .holdover) = true := by decide +kernel
theorem test_tod_range : after (.todSet 5 999999999) base (fun t => t.ptp.tod == some (5, 999999999)) = true ∧
    after (.todSet 5 1000000000) base (fun t => t.ptp.tod == none) = true := by decide +kernel
/-- A follower with link on P0, which is its backup port too. -/
def following : State := { dictOf [(dkey 0x2010 5 0, .num 0)] base with
  ports := lset base.ports 0 { link := true, speed := 1 }, regs := [(regKey .shared 0x30010000, 1)] }
theorem test_sync_unlocks : let s : State := { following with ptp := { lock := .locked, badRun := 3 } }
    s.feN 0x2010 1 0 = 0 ∧ s.rxOn s.ptpPort = true ∧ after (.ptpSyncReceive 65536001 none none) s (fun t => t.ptp.lock == .acquiring) = true := by decide +kernel
theorem test_sync_locks : let s : State := { following with ptp := { lock := .acquiring, goodRun := 15 } }
    after (.ptpSyncReceive (-65536000) none none) s (fun t => t.ptp.lock == .locked && t.ptp.offset == -65536000) = true := by decide +kernel
def heldOver : State := { following with ptp := { lock := .holdover, onBackup := true } }
theorem test_announce : heldOver.rxOn heldOver.ptpPort = true ∧ after .ptpAnnounceReceive heldOver (fun t => t.ptp.lock == .acquiring) = true ∧
    after .announceTimeout heldOver (fun t => t.ptp.lock == .holdover && !t.ptp.onBackup) = true ∧
    after .announceTimeout { following with ptp := { lock := .locked } } (fun t => t.ptp.lock == .locked && t.ptp.onBackup) = true := by decide +kernel
/-- The leader with link on P0. -/
def leading : State := { leader with ports := lset leader.ports 0 { link := true, speed := 1 }, regs := [(regKey .shared 0x30010000, 3)] }
theorem test_sync_send : leading.txOn 0 = true ∧
    after .ptpSyncSend leading (fun t => t.ptp.syncSeq == 1 && t.out == [.ptpSync 0 0 0 41]) = true := by decide +kernel

theorem test_misaligned : regDecodes (.core .ua) (.unit .a) 0x20000002 = false ∧
    after (.registerWrite .ua (.unit .a) 0x20000002 1) base (fun t => t.out == [.regError .ua 0x20000002] && t.ua.fab.errFifo.items.length == 1) = true ∧
    after (.latchingRead .ua (.unit .b) 0x20000000) base (fun t => t.out == [.regError .ua 0x20000000]) = true := by decide +kernel
theorem test_latching : let s := tbOf (fun t => { t with sec := 5, ns := 7 })
    s.canonical = true ∧ after (.latchingRead .ua .shared 0x30000018) s (fun t => t.latched (.core .ua) .shared 0x3000001C ==
      t.regVal .shared 0x3000001C && t.latched (.core .ua) .shared 0x30000020 == t.regVal .shared 0x30000020) = true := by decide +kernel
/-- Registers of unit A that hold values. -/
def regsOf (l : List (Nat × Nat)) (s : State) : State := l.foldl (fun (t : State) e => t.setReg (.unit .a) e.1 e.2) s
theorem test_read_clear : let s := regsOf [(0x20000010, 9)] base
    s.canonical = true ∧ s.reg (.unit .a) 0x20000010 = 9 ∧
    after (.readClear .ua (.unit .a) 0x20000010) s (fun t => t.out == [.regValue .ua 0x20000010 9] && t.reg (.unit .a) 0x20000010 == 0) = true := by
  decide +kernel
theorem test_write_one_to_clear : after (.registerWrite .ua (.unit .a) 0x20000004 5) (regsOf [(0x20000004, 7)] base)
    (fun t => t.reg (.unit .a) 0x20000004 == 2) = true := by decide +kernel
theorem test_sieve_writers : Core.mgmt ≠ UnitId.core .a ∧ regDecodes (.core .mgmt) (.unit .a) 0x20040000 = true ∧
    after (.registerWrite .mgmt (.unit .a) 0x20040000 0) base (fun t => t.out == [.regError .mgmt 0x20040000]) = true ∧
    after (.registerWrite .ua (.unit .a) 0x20040000 0) base (fun t => t.reg (.unit .a) 0x20040000 == 0) = true := by decide +kernel
theorem test_plain_write : base.reg (.unit .a) 0x20000000 < 4 ∧
    after (.registerWrite .ua (.unit .a) 0x20000000 6) base (fun t => t.reg (.unit .a) 0x20000000 == 2) = true := by decide +kernel
theorem test_register_reads : regDecodes (.core .mgmt) (.unit .a) 0x20000010 = true ∧ (regFind 0x20000010).any (fun r => r.rc == 0xFFFFFFFF) = true ∧
    after (.latchingRead .mgmt (.unit .a) 0x20000010) (regsOf [(0x20000010, 9)] base) (fun t => t.reg (.unit .a) 0x20000010 == 0) = true := by
  decide +kernel
theorem test_register_writes : regDecodes (.core .mgmt) (.unit .b) 0x20020000 = true ∧ (regFind 0x20020000).any (fun r => r.rw == 3) = true ∧
    after (.registerWrite .mgmt (.unit .b) 0x20020000 2) base (fun t => t.reg (.unit .b) 0x20020000 == 2) = true ∧
    (base.writeReg (.core .ub) .shared 0x30050060 1).isSome = true := by decide +kernel

/-- Unit A's controller with two enabled sources of equal priority pending. -/
def icPair : IntCtl :=
  { srccfg := [(3, 2), (5, 2)], enable := [(0, 0x28)], pend := [5, 3] }
def withIc (i : IntCtl) : State := { base with icA := i }
theorem test_claim : icPair.deliverable 3 = true ∧ icPair.deliverable 5 = true ∧
    after (.icClaim .ua) (withIc icPair) (fun t => t.out == [.regValue .ua 0x20050444 3] && t.icA.pend == [5] && t.icA.insvc == [3]) = true := by
  decide +kernel
theorem test_claim_none : after (.icClaim .ub) base (fun t => t.out == [.regValue .ub 0x20050444 0]) = true := by decide +kernel
theorem test_complete : 3 ∈ ({ icPair with insvc := [3] } : IntCtl).insvc ∧
    after (.icComplete .ua .ua 3) (withIc { icPair with insvc := [3] }) (fun t => t.icA.insvc == []) = true ∧
    after (.icComplete .ua .ua 4) (withIc icPair) (fun t => t.icA.badComplete) = true := by decide +kernel
theorem test_complete_level : isLevel .ua 0x19 = true ∧ (withIc { timecmp := 0 }).asserted .ua 0x19 = true ∧
    after (.icComplete .ua .ua 0x19) (withIc { timecmp := 0, insvc := [0x19] }) (fun t => t.icA.pend == [0x19]) = true := by decide +kernel
theorem test_pend_write : natBit 0x10008 3 = true ∧ after (.icPendWrite .ua .ua 0 0x10009) base (fun t => t.icA.pend == [3]) = true := by decide +kernel
theorem test_timecmp : after (.icTimecmpHiWrite .ua .ua 0) (withIc { timecmpLo := 0 }) (fun t => t.icA.timecmp == 0 && t.icA.pend == [0x19]) = true := by
  decide +kernel
theorem test_moderation : let i : IntCtl := { srccfg := [(3, 0x102)], enable := [(0, 8)], pend := [3], groups := [(0, { since := some 0, cfg := 0x205 })] }
    i.deliverable 3 = false ∧ after (.moderationRelease .ua 0) { withIc i with tb := { base.tb with us := 5 } }
      (fun t => t.icA.deliverable 3) = true := by decide +kernel
theorem test_wfi : icPair.claimed ≠ 0 ∧ after (.wfiWake .ua) (withIc icPair) (fun t => t.out == [.coreWake .ua]) = true := by decide +kernel

theorem test_owner_claim : idOfMaster .ua 0x21 = true ∧ idOfRes (.dma .a 2) 0x21 = true ∧ base.canonical = true ∧
    after (.ownerClaim .ua (.dma .a 2) 0x21 false) base (fun t => t.own (.dma .a 2) == ⟨0x21, false⟩) = true := by decide +kernel
theorem test_owner_refused : idOfRes (.dma .a 2) 1 = false ∧
    after (.ownerClaim .mgmt (.dma .a 2) 1 false) base (fun t => t.own (.dma .a 2) == ⟨0, true⟩) = true ∧
    after (.ownerClaim .mgmt (.tt 3) 2 false) owns3 (fun t => t.own (.tt 3) == ⟨1, true⟩) = true ∧
    after (.ownerClaim .mgmt (.tt 3) 1 true) owns3 (fun t => t.own (.tt 3) == ⟨1, true⟩) = true := by decide +kernel
theorem test_owner_release : after (.ownerRelease .mgmt (.tt 3)) owns3 (fun t => t.own (.tt 3) == ⟨0, false⟩) = true ∧
    after (.ownerRelease .ua (.tt 3)) owns3 (fun t => t.own (.tt 3) == ⟨1, true⟩) = true := by decide +kernel

theorem test_fifo_gap : ((({ items := [.item 1 false] } : Fifo Nat).push 1 2 false).items = [.gap 2]) ∧
    (({ items := [.gap 65535] } : Fifo Nat).push 1 2 false).items = [.gap 65535] ∧
    (({ items := [] } : Fifo Nat).push 1 2 true).items = [.item 2 true] := by decide +kernel
theorem test_fifo_drop : (({ items := [.gap 3, .item 1 true, .item 2 false] } : Fifo Nat).drop.items = [.item 2 false]) ∧
    (({ items := [.item 1 false] } : Fifo Nat).drop.dropping = true) := by decide +kernel
def errs : State := { base with ua := { base.ua with fab := { errFifo := { items := [.item [1, 2, 3] true, .gap 4] } } } }
theorem test_fifo_data : after (.fifoDataRead .ua .a 0) errs (fun t => t.out == [.regValue .ua 0x20060030 1] && t.ua.fab.errFifo.rdPos == 1) = true ∧
    after (.fifoDataRead .ua .a 1) errs (fun t => t.out == [.regValue .ua 0x20070030 0]) = true := by decide +kernel
theorem test_fifo_commands : after (.fifoDropPkt .ua .a 0) errs (fun t => t.ua.fab.errFifo.items == [.gap 4]) = true ∧
    after (.fifoFlush .mgmt .a 0) errs (fun t => t.ua.fab.errFifo.items == []) = true ∧
    after (.fifoDataRead .ua .a 0) { errs with ua := { errs.ua with fab := { errFifo := { items := [.gap 4] } } } }
      (fun t => t.out == [.regValue .ua 0x20060030 (2 ^ 31 + 4)]) = true := by decide +kernel


/-- A state with unit A's Sieve replaced. -/
def svOf (v : Sieve) (s : State) : State := { s with ua := { s.ua with sv := v } }
/-- A state with unit A's fabric replaced. -/
def fabOf (f : Fabric) (s : State) : State := { s with ua := { s.ua with fab := f } }
def it (arg flow prio stamp : Nat) : SvItem := ⟨arg, 1, flow, prio, false, stamp⟩
theorem test_sv_push : let s := svOf { push0 := 7 } base
    s.canonical = true ∧ s.ua.nv.flowReserved 9 = false ∧
    after (.svPush .ua .a 0x30009) s (fun t => t.ua.sv.items 3 == [it 7 9 3 0 |> fun i => { i with func := 0 }]) = true := by decide +kernel
theorem test_sv_push_refused : after (.svPush .ua .a 0x80000000) base (fun t => t.ua.sv.pushRes == 3) = true ∧
    after (.svPush .ua .a 9) { base with ua := { base.ua with nv := { graph := [⟨1, 0, 0, 0, 9, 0, 0, 0, 0, 0, 0, 0, 0, 0, [], 0, 0, 0, 0⟩] } } } (fun t => t.ua.sv.pushRes == 2) = true ∧
    after (.svPush .mgmt .a 9) base (fun t => t.out == [.regError .mgmt 0x2004001C]) = true := by decide +kernel
theorem test_sv_push_full : pushOutcome { sv := { lists := [(0, ⟨List.replicate 4096 (it 0 0 0 0), []⟩)] } } 0 = 1 := by decide +kernel
/-- The example of R509: items a, b and c. -/
def svExample : State := svOf { lists := [(3, ⟨[it 1 9 3 0, it 2 0 3 1], []⟩), (5, ⟨[it 3 9 5 2], []⟩)] } (regsOf [(0x20040000, 1)] base)
theorem test_sv_pop : natBit (svExample.reg (.unit .a) 0x20040000) 0 = true ∧ svExample.ua.sv.popItem = some (it 1 9 3 0) ∧
    after (.svPop .ua .a) svExample (fun t => t.out == [.regValue .ua 0x20040030 1] && t.ua.sv.insvc == [9] &&
      t.ua.sv.popItem == some (it 2 0 3 1)) = true ∧
    after (.svPop .ua .a) (svOf {} svExample) (fun t => t.ua.sv.pop3 == 0) = true := by decide +kernel
theorem test_sv_done : after (.svDone .ua .a 9) (svOf { insvc := [9, 4] } base) (fun t => t.ua.sv.insvc == [4]) = true ∧
    after (.svDone .ua .a 9) base (fun t => natBit (t.reg (.unit .a) svStat) 3) = true := by decide +kernel
theorem test_sv_delay : after (.delayRelease .a) (svOf { delay := [(0, it 1 0 2 7), (9, it 2 0 2 7)] } base)
    (fun t => t.ua.sv.items 2 == [it 1 0 2 0] && t.ua.sv.delay == [(9, it 2 0 2 7)]) = true := by decide +kernel
def svSpill : State := svOf { lists := [(1, ⟨[it 1 0 1 0, it 2 0 1 1], [it 3 0 1 2]⟩)] } (regsOf [(0x20040054, 2)] base)
theorem test_sv_spill : after (.sieveSpill .a) svSpill (fun t => t.ua.sv.items 1 == svSpill.ua.sv.items 1 && (t.ua.sv.list 1).chip == []) = true := by
  decide +kernel
theorem test_sv_reload : svSpill.canonical = true ∧ svSpill.ua.sv.reloadList (svSpill.reg (.unit .a) 0x20040058) = some 1 ∧
    after (.sieveReload .a []) svSpill (fun t => t.ua.sv.items 1 == svSpill.ua.sv.items 1 && (t.ua.sv.list 1).spilled == []) = true ∧
    after (.sieveReload .a [0]) svSpill (fun t => natBit (t.reg (.unit .a) svStat) 6 && (t.ua.sv.items 1).length == 2) = true := by
  decide +kernel

/-- A request of the control core for 8 bytes. -/
def req (a : Nat) (k : BurstKind) : Burst := ⟨0, 1, a, 2, 4, k, 0, [], .none, 0, []⟩
def data8 : List (Byte × Bool) := [(1, true), (2, false), (3, true), (4, true), (5, true), (6, true), (7, true), (8, true)]
theorem test_bus_memory : base.passes .a (req 0x08000100 .read) = true ∧ base.passes .a (req 0x200010100 (.write data8)) = true ∧
    after (.burstRequest .a (req 0x08000100 (.write data8))) base
      (fun t => t.byteOf (.core .a) 0x100 == 1 && t.byteOf (.core .a) 0x101 == 0 && t.out == [.busData .a 0 1 []]) = true ∧
    after (.burstRequest .a (req 0x08000100 .read)) base (fun t => t.out == [.busData .a 0 1 (List.replicate 8 0)]) = true := by decide +kernel
theorem test_bus_errors :
    after (.burstRequest .a (req 0x40000000 .read)) base (fun t => t.out == [.busError .a 0 1 1]) = true ∧
    after (.burstRequest .a { req 0x08000000 .read with master := 7 }) base (fun t => t.out == [.busError .a 7 1 1]) = true ∧
    after (.burstRequest .a { req 0x400000000 .read with master := 8 }) base (fun t => t.out == [.busError .a 8 1 2]) = true ∧
    after (.burstRequest .a (req 0x08000FFC .read)) base (fun t => t.out == [.busError .a 0 1 3]) = true ∧
    after (.burstRequest .a (req 0x20000000 .loadReserved)) base (fun t => t.out == [.busError .a 0 1 3]) = true ∧
    after (.burstRequest .a (req 0x400000000 .loadReserved)) base (fun t => t.out == [.busError .a 0 1 2]) = true ∧
    after (.burstRequest .a (req 0 (.write data8))) base (fun t => t.out == [.busError .a 0 1 5]) = true ∧
    after (.burstRequest .a { req 0x20000000 .read with size := 2 }) base (fun t => t.out == [.busError .a 0 1 3]) = true := by
  decide +kernel
theorem test_reservation : base.passes .a (req 0x08000100 .loadReserved) = true ∧
    after (.burstRequest .a (req 0x08000100 .loadReserved)) base (fun t => t.ua.fab.resv == [(0, 0x200004)] &&
      after (.burstRequest .a (req 0x08000108 (.storeConditional [1, 2, 3, 4, 5, 6, 7, 8]))) t
        (fun t' => t'.byteOf (.core .a) 0x108 == 1 && t'.ua.fab.resv == [])) = true ∧
    after (.burstRequest .a (req 0x08000108 (.storeConditional [1, 2, 3, 4, 5, 6, 7, 8]))) base
      (fun t => t.out == [.busSc .a 0 1 false]) = true := by decide +kernel
theorem test_atomic : let b : Burst := { req 0x08000000 (.amo 1 0xFFFFFFFF) with beats := 1 }
    let s := fabOf { core := [(0, 1)] } base
    s.canonical = true ∧ s.passes .a b = true ∧ after (.burstRequest .a b) s (fun t => t.ua.fab.core == []) = true := by decide +kernel
theorem test_peer : let b := req 0x080FFFF8 (.write data8)
    base.unitState .b ≠ 3 ∧ after (.peerWindowAccess .a b false) base (fun t => t.icB.pend == [0x41] && t.byteOf (.core .b) 0xFFFF8 == 1) = true ∧
    after (.peerWindowAccess .a (req 0x08000000 (.write data8)) false) base (fun t => t.out == [.busError .a 0 1 2]) = true := by decide +kernel
theorem test_bridge_timeout : after (.bridgeTimeout .a) { fabOf { outstanding := [⟨req 0x4080F0000 .read, 6, 0, true⟩] } base with tb := { us := 10 } }
    (fun t => t.out == [.busError .a 0 1 4] && t.ua.fab.outstanding == []) = true := by decide +kernel
theorem test_mrst : after (.bmMrst .ua .a 0x204) (fabOf { resv := [(2, 5)] } { base with ub := { base.ub with
      fab := { outstanding := [⟨req 0x4080F0000 .read, 6, 0, true⟩] } } })
    (fun t => t.ua.fab.draining == [9, 2] && t.ua.fab.resv == [] && t.ub.fab.outstanding == [] && t.out == [.busError .b 0 1 4] &&
      after (.masterDrainEnd .a 2) t (fun t' => t'.ua.fab.draining == [9])) = true := by decide +kernel
/-- A copy out of LP5 memory waits while the DMA controller's bucket is negative. -/
theorem test_dma_waits : let q : DmaDesc := ⟨0x200000000, 0x08000200, 8, 0, true, false⟩
    let s := fabOf { dma := [(3, { busy := true, desc := some q })], bucket := [(18, -1)] } base |>.setReg (.unit .a) 0x20060320 1
    s.bucketOk .a 18 = false ∧ busTarget q.src = 5 ∧ after (.dmaDescriptorDone .a ⟨3, []⟩) s (fun t => t.ua.fab == s.ua.fab && t.out == []) = true := by decide +kernel
theorem test_window_holes : busTarget 0x12000000 = 7 ∧ busTarget 0x11FFFFFC = 2 ∧ busTarget 0x18010000 = 7 ∧ busTarget 0x1805FFFC = 2 := by decide +kernel
/-- An uncorrectable word is zero to the bulk delay, and the word alone. -/
theorem test_lp_word : after (.burstRequest .a { req 0x200010100 .read with master := 6, beats := 4, ecc := .ue, word := 1 })
    (((fabOf { lp5mem := (List.range 16).map (fun i => (0x10100 + i, 7)) } base).setReg (.unit .a) 0x20070208 0x40).setReg (.unit .a) 0x20070204 4)
    (fun t => t.out.head? == some (.busData .a 6 1 (List.replicate 8 7 ++ List.replicate 8 0))) = true := by decide +kernel
theorem test_dma_go : after (.dmaGo .ua .a 3) base (fun t => t.dmaCh .a 3 == { busy := true } &&
      after (.dmaGo .ua .a 3) t (fun t' => natBit (t'.reg (.unit .a) (dmaStat 3)) 3) &&
      after (.dmaAbort .ua .a 3) t (fun t' => natBit (t'.reg (.unit .a) (dmaStat 3)) 4 && !(t'.dmaCh .a 3).busy)) = true ∧
    after (.dmaGo .mgmt .a 3) base (fun t => (t.own (.dma .a 3)).lastRefused) = true := by decide +kernel
/-- A descriptor at offset 0 that copies 8 bytes from offset 0x100 of core SRAM to offset 0x200, and ends its chain. -/
def dmaState (last : Nat) : State :=
  let d := leBytes 4 0x08000100 ++ leBytes 4 0 ++ leBytes 4 0x08000200 ++ leBytes 4 0 ++ leBytes 4 8 ++ leBytes 4 last
  fabOf { core := cellWrites [(0x100, 9), (0x107, 8)] 0 d, dma := [(3, { busy := true })] } base
theorem test_dma_descriptor : (dmaState 0x80000000).canonical = true ∧
    (dmaDesc ((dmaState 0x80000000).bytesOf (.core .a) 0 32)).isSome = true ∧
    after (.dmaDescriptorDone .a ⟨3, []⟩) (dmaState 0x80000000) (fun t => t.byteOf (.core .a) 0x200 == 9 && t.dmaCh .a 3 == { bytes := 8 }) = true ∧
    after (.dmaDescriptorDone .a ⟨3, []⟩) (dmaState 0x40) (fun t => t.byteOf (.core .a) 0x207 == 8 && t.dmaCh .a 3 == { busy := true, cur := 0x40, bytes := 8 }) = true ∧
    after (.dmaDescriptorDone .a ⟨3, []⟩) (dmaState 1) (fun t => natBit (t.reg (.unit .a) (dmaStat 3)) 2) = true := by decide +kernel
theorem test_scrub : natBit (base.reg (.unit .a) 0x20080000) 0 = true ∧
    after (.scrubPass .a [(0x1234, true)]) base (fun t => t.reg (.unit .a) 0x2008000C == 0x1234) = true ∧
    after (.scrubPass .a [(0x1234, false)]) base (fun t => t.reg (.unit .a) 0x20080008 == 1) = true ∧
    after (.sramWakeDone .a) { fabOf { waking := true, awakeTo := 0 } base with tb := { base.tb with us := 2560 } } (fun t => t.ua.fab == {}) = true ∧
    (let s := { fabOf { waking := true, awakeTo := 0 } base with tb := { base.tb with us := 100 } };
      s.awakeNow .a = 2 ∧ s.regVal (.unit .a) 0x20080010 = 0xFFFFFFFC) := by decide +kernel
/-- Unit A's LP5 controller replaced. -/
def lpOf (l : Lp5) : State := fabOf { lp := l } base
theorem test_refresh : after (.refreshDue .a 7 true) base (fun t => t.ua.fab.lp.postponed == [(7, 1)]) = true ∧
    after (.refreshDue .a 7 true) (lpOf { postponed := [(7, 8)] }) (fun t => natBit (t.reg (.unit .a) lpStat) 7) = true ∧
    after (.postponedRefresh .a 7) (lpOf { postponed := [(7, 8)] }) (fun t => t.ua.fab.lp.postponed == []) = true ∧
    after (.refreshDerateChange .a true) base (fun t => t.ua.fab.lp.derate) = true := by decide +kernel
theorem test_freq : base.pathRuns .a = false ∧
    after (.freqReq .ua .a 1) base (fun t => t.ua.fab.lp.freq == .changing 1 true &&
      after (.freqReq .ua .a 0) t (fun t' => t'.ua.fab.lp.heldFreq == some 0) &&
      after (.srReqEnter .ua .a) t (fun t' => t'.ua.fab.lp.heldSr == some 1) &&
      after (.freqChangeDone .a true) t (fun t' => t'.ua.fab.lp.setpoint == 1 && natBit (t'.reg (.unit .a) lpStat) 5) &&
      after (.freqChangeDone .a false) t (fun t' => t'.ua.fab.lp.setpoint == 0 && natBit (t'.reg (.unit .a) lpStat) 6)) = true ∧
    after (.freqReq .ua .a 1) (lpOf { training := true }) (fun t => t.ua.fab.lp.freq == .deferred 1 &&
      after (.periodicTraining .a false) t (fun t' => t'.ua.fab.lp.freq == .changing 1 true)) = true ∧
    (subOf (fun p => { p with power := .render }) base).pathRuns .a = true := by decide +kernel
theorem test_self_refresh : after (.srReqEnter .ua .a) base (fun t => t.ua.fab.lp.selfRefresh &&
      after (.srReqExit .ua .a) t (fun t' => !t'.ua.fab.lp.selfRefresh)) = true ∧
    after (.periodicTraining .a true) base (fun t => t.ua.fab.lp.training) = true := by decide +kernel

/-- An image of 16 code words with a region of 256 words in X and one in Y, and its constant region at word 256 of Y. -/
def nvImage : List Byte :=
  let r := fun (mem kind start : Nat) => beBytes 1 mem ++ beBytes 1 kind ++ beBytes 2 0 ++ beBytes 4 start ++ beBytes 4 256 ++ beBytes 4 0
  beBytes 4 1 ++ beBytes 2 16 ++ beBytes 2 1 ++ beBytes 2 3 ++ List.replicate 70 0 ++ r 0 1 0 ++ r 1 1 0 ++ r 1 0 256
/-- Job 5 on engine 0. -/
def job5 : NvJob := ⟨5, 0, 0, 0, 0, 1000, 4096, 4096, 0, 0, 0, 0, 0, 0, [], 0, 0, 0, 0⟩
def c0 : NvIssue := ⟨.a, 0, .none, .none, .none, [], []⟩
/-- Unit A's engine 0 runs job 5, whose code holds an instruction at its program counter. -/
def nvS (i : NvInsn) (x : Novil) : State :=
  let s := dictOf [(dkey 0x8000 1 0, .bytes nvImage)] base
  { s with ua := { s.ua with nv := { eng := [(0, { x with job := some 5, pmem := [(x.pc, nvEncode i)] })], graph := [job5] } } }
/-- The instruction issues, and the engine then passes a check. -/
def nvDoes (i : NvInsn) (x : Novil) (cmd : Instr) (p : Novil → Bool) : Bool :=
  (nvS i x).issues c0 i job5 && after cmd (nvS i x) (fun t => p (t.nvAt c0))
def d2 (a b : Int) : Novil := { d := [a, b, 0, 0, 0, 0, 0, 0, 0, 0, 0, 0, 0, 0, 0, 0] }

theorem test_nv_words : nvDecode 0x01200010 = some (.control 1 2 0 16) ∧ nvDecode 0x08000000 = some (.alu 0 0 0 0) ∧
    nvDecode 0x10810005 = none ∧ nvDecode 0x10800005 = some (.imm 0 1 5) ∧ nvDecode 0x00000001 = some (.control 0 0 0 1) := by decide +kernel
theorem test_nv_control : nvDoes (.control 0 0 0 0) {} (.nvNop c0) (fun y => y.pc == 1 && y.slots == 1) = true ∧
    nvDoes (.control 1 1 0 7) { fl := 1 } (.nvBr c0 1 7) (fun y => y.pc == 7 && y.slots == 2) = true ∧
    nvDoes (.control 1 1 0 7) {} (.nvBr c0 1 7) (fun y => y.pc == 1 && y.slots == 1) = true ∧
    nvDoes (.control 2 0 0 7) {} (.nvCall c0 0 7) (fun y => y.pc == 7 && y.stack == [1]) = true ∧
    nvDoes (.control 3 0 0 0) { stack := [9] } (.nvRet c0) (fun y => y.pc == 9 && y.stack == []) = true := by decide +kernel
theorem test_nv_loop : nvDoes (.control 4 0 0 5) { lc := [3, 0] } (.nvLoop c0 0 5) (fun y => y.loops == [⟨1, 5, 0⟩]) = true ∧
    nvDoes (.control 4 0 1 5) {} (.nvLoop c0 1 5) (fun y => y.pc == 6 && y.loops == []) = true ∧
    nvDoes (.control 0 0 0 0) { pc := 5, lc := [2, 0], loops := [⟨1, 5, 0⟩] } (.nvNop c0) (fun y => y.pc == 1 && y.lc == [1, 0]) = true ∧
    nvDoes (.control 6 0 0 0) { xfers := [⟨true, false, 4, [7]⟩] } (.nvDmaw c0) (fun y => y.x == [(4, 7)] && y.xfers == []) = true ∧
    nvDoes (.control 5 0 0 0) {} (.nvEnd c0) (fun y => y.job == none && y.blk == 1) = true := by decide +kernel
theorem test_nv_end : (nvS (.control 5 0 0 0) {}).canonical = true := by decide +kernel
theorem test_nv_alu : nvDoes (.alu 0 2 0 1) (d2 0x7FFFFFFF 1) (.nvAdd c0 2 0 1) (fun y => y.dreg 2 == -0x80000000) = true ∧
    nvDoes (.alu 1 2 0 1) (d2 3 5) (.nvSub c0 2 0 1) (fun y => y.dreg 2 == -2) = true ∧
    nvDoes (.alu 2 2 0 1) (d2 (-1) 5) (.nvAnd c0 2 0 1) (fun y => y.dreg 2 == 5) = true ∧
    nvDoes (.alu 3 2 0 1) (d2 6 1) (.nvOr c0 2 0 1) (fun y => y.dreg 2 == 7) = true ∧
    nvDoes (.alu 4 2 0 1) (d2 (-1) 0) (.nvXor c0 2 0 1) (fun y => y.dreg 2 == -1) = true ∧
    nvDoes (.alu 5 2 0 1) (d2 1 32) (.nvShl c0 2 0 1) (fun y => y.dreg 2 == 0) = true ∧
    nvDoes (.alu 6 2 0 1) (d2 (-8) 63) (.nvShr c0 2 0 1) (fun y => y.dreg 2 == -1) = true ∧
    nvDoes (.alu 7 2 0 1) (d2 (-1) 31) (.nvShrl c0 2 0 1) (fun y => y.dreg 2 == 1) = true := by decide +kernel
theorem test_nv_alu_saturating : nvDoes (.alu 8 2 0 1) (d2 (-1) 5) (.nvMin c0 2 0 1) (fun y => y.dreg 2 == -1) = true ∧
    nvDoes (.alu 9 2 0 1) (d2 (-1) 5) (.nvMax c0 2 0 1) (fun y => y.dreg 2 == 5) = true ∧
    nvDoes (.alu 10 2 0 0) (d2 (-0x80000000) 0) (.nvAbs c0 2 0) (fun y => y.dreg 2 == 0x7FFFFFFF) = true ∧
    nvDoes (.alu 11 2 0 0) (d2 (-0x80000000) 0) (.nvNeg c0 2 0) (fun y => y.dreg 2 == 0x7FFFFFFF) = true ∧
    nvDoes (.alu 12 2 0 1) (d2 0x7FFFFFFF 1) (.nvAdds c0 2 0 1) (fun y => y.dreg 2 == 0x7FFFFFFF) = true ∧
    nvDoes (.alu 13 2 0 1) (d2 (-0x80000000) 1) (.nvSubs c0 2 0 1) (fun y => y.dreg 2 == -0x80000000) = true ∧
    nvDoes (.alu 15 2 0 1) (d2 0x10000 0x10000) (.nvMul c0 2 0 1) (fun y => y.dreg 2 == 0) = true ∧
    nvDoes (.alu 14 0 0 1) (d2 3 3) (.nvCmp c0 0 1) (fun y => y.d == (d2 3 3).d) = true := by decide +kernel
theorem test_nv_imm : nvDoes (.imm 0 0 0x8000) {} (.nvLdi c0 0 0x8000) (fun y => y.dreg 0 == -0x8000) = true ∧
    nvDoes (.imm 1 0 0x1234) (d2 (-1) 0) (.nvLdh c0 0 0x1234) (fun y => y.dreg 0 == 0x1234FFFF) = true ∧
    nvDoes (.imm 2 0 0xFFFF) (d2 7 0) (.nvAddi c0 0 0xFFFF) (fun y => y.dreg 0 == 6) = true ∧
    nvDoes (.imm 3 0 7) (d2 7 0) (.nvCmpi c0 0 7) (fun y => y.dreg 0 == 7) = true ∧
    nvDoes (.imm 4 0 4) (d2 1 0) (.nvShli c0 0 4) (fun y => y.dreg 0 == 16) = true ∧
    nvDoes (.imm 5 0 4) (d2 (-1) 0) (.nvShri c0 0 4) (fun y => y.dreg 0 == -1) = true ∧
    nvDoes (.imm 6 0 0xFFFF) (d2 (-1) 0) (.nvAndi c0 0 0xFFFF) (fun y => y.dreg 0 == 65535) = true := by decide +kernel
def ptr3 : Novil := { p := [255, 3, 0, 0, 0, 0, 0, 0], m := [1, 0, 0, 0, 0, 0, 0, 0], x := [(255, 9)], y := [(3, 8)], d := [2, 0, 0, 0, 0, 0, 0, 0, 0, 0, 0, 0, 0, 0, 0, 0] }
theorem test_nv_load_store : nvDoes (.ldst false 0 4 0 true) ptr3 (.nvLoad c0 0 4 0 true) (fun y => y.dreg 4 == 9 && y.p.getD 0 0 == 256) = true ∧
    nvDoes (.ldst false 1 4 1 false) ptr3 (.nvLoad c0 1 4 1 false) (fun y => y.dreg 4 == 8) = true ∧
    nvDoes (.ldst false 2 4 2 false) ptr3 (.nvLoad c0 2 4 2 false) (fun y => y.dreg 4 == (nvEncode (.ldst false 2 4 2 false) : Nat)) = true ∧
    nvDoes (.ldst true 1 0 1 false) ptr3 (.nvStore c0 1 0 1 false) (fun y => y.y == [(3, 2)]) = true ∧
    nvDoes (.move false 0 0x20) ptr3 (.nvMoveToSpecial c0 0 0x20) (fun y => y.lc == [2, 0]) = true ∧
    nvDoes (.move true 0 0x23) ptr3 (.nvMoveFromSpecial c0 0 0x23) (fun y => y.dreg 0 == 999) = true := by decide +kernel
theorem test_nv_acc : nvDoes (.acc 1 0 0 0 false 0) { a := [5, 0, 0, 0] } (.nvClra c0 0) (fun y => y.areg 0 == 0) = true ∧
    nvDoes (.acc 2 0 0 0 false 1) { a := [5, 6, 0, 0] } (.nvAdda c0 0 1) (fun y => y.areg 0 == 11) = true ∧
    nvDoes (.acc 3 0 0 0 false 1) { a := [5, 6, 0, 0] } (.nvSuba c0 0 1) (fun y => y.areg 0 == -1) = true ∧
    nvDoes (.acc 4 0 0 39 false 0) (d2 1 0) (.nvLda c0 0 0 39) (fun y => y.areg 0 == 2 ^ 39) = true ∧
    nvDoes (.acc 5 0 0 1 false 0) { a := [5, 0, 0, 0] } (.nvShra c0 0 1 false) (fun y => y.areg 0 == 2) = true ∧
    nvDoes (.acc 6 0 0 0 false 0) { a := [-2 ^ 71, 0, 0, 0] } (.nvNega c0 0) (fun y => y.areg 0 == -2 ^ 71 && y.fl == 32) = true ∧
    nvDoes (.acc 0 0 1 1 true 0) { a := [2 ^ 40, 0, 0, 0] } (.nvSta c0 0 1 1 true) (fun y => y.dreg 1 == 2 ^ 31 - 1 && y.fl == 16) = true := by decide +kernel
def plainMac : MacOp := ⟨1, 0, 1, false, 0, 0, false, 0, 0, false⟩
theorem test_nv_mac : nvDoes (.mac 0 plainMac) (d2 3 4) (.nvMac c0 plainMac) (fun y => y.areg 1 == 12) = true ∧
    nvDoes (.mac 1 plainMac) (d2 3 4) (.nvMsu c0 plainMac) (fun y => y.areg 1 == -12) = true ∧
    nvDoes (.mac 2 plainMac) (d2 3 4) (.nvMpy c0 plainMac) (fun y => y.areg 1 == 12) = true ∧
    nvDoes (.mac 3 plainMac) (d2 3 4) (.nvMpyn c0 plainMac) (fun y => y.areg 1 == -12) = true ∧
    nvDoes (.mac 0 ⟨1, 0, 0, true, 0, 2, true, 1, 1, false⟩) ptr3 (.nvMac c0 ⟨1, 0, 0, true, 0, 2, true, 1, 1, false⟩)
      (fun y => y.areg 1 == 4 && y.dreg 2 == 9 && y.dreg 9 == 8 && y.p.getD 0 0 == 256) = true := by decide +kernel
/-- A descriptor that brings two words of feed output 3 to X 16, and one that takes two words of X 16 to the report page. -/
def dmaIn : Novil := { y := [(0, 3 + 16 * 256), (1, 3), (3, 2)] }
def dmaOut : Novil := { x := [(16, 7)], y := [(0, 9 + 16 + 16 * 256), (3, 2)] }
theorem test_nv_dma : nvDoes (.dma 0) dmaIn (.nvDma c0 0) (fun y => y.xfers == [⟨true, false, 16, [0, 0]⟩] && y.win == 8) = true ∧
    nvDesc (3 + 16 * 256) 3 0 2 = some ⟨3, false, false, 16, 3, 0, 2⟩ ∧
    nvDoes (.dma 0) dmaOut (.nvDma c0 0) (fun y => y.xfers == [⟨false, false, 0, []⟩] && y.win == 8) = true := by decide +kernel
theorem test_nv_transfer : after (.novilTransferComplete .a 0) (nvS (.dma 0) { xfers := [⟨true, true, 4, [7]⟩, ⟨true, false, 4, [6]⟩] })
    (fun t => (t.nvAt c0).y == [(4, 7)] && after (.novilTransferComplete .a 0) t (fun t' => (t'.nvAt c0).x == [(4, 6)])) = true := by decide +kernel
/-- A command ends the job with a cause. -/
def stops (i : NvInsn) (x : Novil) (cmd : Instr) (cause : Nat) : Bool :=
  (nvS i x).canonical && after cmd (nvS i x) (fun t => (t.nvAt c0).job == none && t.reg (.unit .a) (nvReg 0 0x24) == 5 + 256 * cause + 4096 * x.pc)
theorem test_nv_stops : stops (.control 0 0 0 0) { slots := 1000 } (.nvNop c0) 1 = true ∧ stops (.imm 7 0 0) {} (.nvNop c0) 3 = true ∧
    stops (.control 0 0 0 0) { pc := 16 } (.nvNop c0) 4 = true ∧
    stops (.control 1 0 0 3) { pc := 1, loops := [⟨1, 5, 0⟩] } (.nvBr c0 0 3) 3 = true ∧
    stops (.control 2 0 0 3) { stack := [1, 2, 3, 4, 5, 6, 7, 8] } (.nvCall c0 0 3) 6 = true ∧
    stops (.control 3 0 0 0) {} (.nvRet c0) 6 = true ∧ stops (.ldst true 1 0 0 false) { p := [256, 0, 0, 0, 0, 0, 0, 0] } (.nvStore c0 1 0 0 false) 4 = true := by
  decide +kernel
def nvReady : State :=
  let s := rendering
  { s with ua := { s.ua with nv := { graph := [job5] } }, tb := { us := 0, sidx := 96 } }
theorem test_nv_job_start : nvReady.unitRuns .a = true ∧ nvReady.ua.nv.nextJob 0 = some job5 ∧ nvReady.ua.nv.mayStart job5 0 = true ∧
    after (.novilJobStart .a 0) nvReady (fun t => (t.nvAt c0).job == some 5) = true := by decide +kernel
theorem test_nv_graph_switch : let s := { base with ua := { base.ua with nv := { next := some (0, [job5]) } } }
    s.unitRuns .a = false ∧ after (.nvGraphSwitch .a) s (fun t => t.ua.nv.graph == [job5] && (t.nvAt c0).page == 1 && t.ua.nv.next == none) = true := by
  decide +kernel

/-- A device that renders, with unit A at block 3 of a four-block latency and the arbiter running. -/
def atBlock (n : Nat) (sidx : Nat) : State :=
  let s := rendering
  { s with
    tb := { sidx := sidx }
    ua := { s.ua with hl := { s.ua.hl with blk := n }, rd := { commit := n, chain := n, lawBlk := n } }
    arb := { run := true, lat := 4, decided := 6, nextOut := 224 } }
theorem test_block_close : let s := atBlock 3 96
    s.canonical = true ∧ s.closeDue = some 0 ∧ s.unitRuns .a = true ∧ s.ua.rd.endBlk = none ∧ base.closeDue = none := by decide +kernel
/-- Unreadable records set SE_STAT and fault the unit's block. -/
theorem test_block_findings : after (.blockClose [] 1 [.record .a, .index]) (let s := atBlock 3 96; { s with ua := { s.ua with rd := { commit := 0 } } })
    (fun t => natBit (t.reg .shared seStat) 5 && natBit (t.reg (.unit .a) 0x20090008) 1 &&
      natBit (t.reg (.unit .b) 0x20090008) 4 && agetD t.ua.hl.blkFaults 0 0 == 0x12) = true := by decide +kernel
theorem test_history_commit : let s := atBlock 3 224
    let t := { s with ua := { s.ua with rd := { s.ua.rd with inq := [⟨3, [(32 * 1024, 5)]⟩] } } }
    t.canonical = true ∧ t.unitRuns .a = true ∧ t.ua.rd.commit ≤ t.ua.rd.chain ∧ asorted t.ua.rd.hist = true ∧ asorted t.ua.rd.objs = true ∧
    t.ua.rd.inq.find? (fun q => q.block == t.ua.rd.commit) = some ⟨3, [(32 * 1024, 5)]⟩ ∧
    32 * (t.ua.rd.commit + t.arb.lat - 1) ≤ t.tb.sidx ∧ agetD [(32 * 1024, (5 : Int))] (32 * (1024 + 0) + 0) 0 ≠ 0 := by decide +kernel
theorem test_law_records : let s0 := atBlock 3 224
    let s := { s0 with ua := { s0.ua with rd := { s0.ua.rd with tiles := (List.range 64).map (fun t => (t, { lawBlk := 3 })) } } }
    s.canonical = true ∧ s.unitRuns .a = true ∧ s.ua.rd.lawBlk ≤ s.ua.rd.chain + 1 ∧ s.ua.rd.pend = [] ∧ s.ua.rd.lawsTaken = true := by decide +kernel
/-- Unit A at block 3 with one pair record, whose laws are done or to be done. -/
def pairState (pos lawBlk : Nat) : State :=
  let s := atBlock 3 224
  { s with ua := { s.ua with rd := { s.ua.rd with
      commit := 4, lawBlk := 5, pairs := [(16384 * 2 + 5, { d0 := 65536 * 40, d1 := 65536 * 40, valid := true, g0 := 8388607, g1 := 8388607 })]
      tiles := [(2, { pos := pos, lawBlk := lawBlk })], objs := [(5, { zrun := 0 })], hist := [(8192 * 5 + 60, 1024)] } } }
theorem test_pair_law : let s := pairState 16384 3
    let r := s.ua.rd.rollLaw 2
    s.unitRuns .a = true ∧ (r.tile 2).lawBlk < r.lawBlk ∧ (r.nextLaw 2 (r.tile 2).lawBlk).isSome = true := by decide +kernel
theorem test_lane : let s := regsOf [(0x20000000, 0)] (pairState 0 4)
    s.unitRuns .a = true ∧ s.ua.rd.lawsDone 2 s.ua.rd.chain = true ∧ s.ua.rd.nextPair 2 = some 5 ∧
    natBit (s.reg (.unit .a) 0x20000000) 0 = false := by decide +kernel
/-- A pair of either unit with an unreadable record, a residue error and a corrected word. -/
theorem test_pair_findings : after (.pairLawUpdate .a 2 ⟨true, 1, [], true⟩) (pairState 16384 3)
      (fun x => natBit (x.reg (.unit .a) 0x20000004) 1 && natBit (x.reg (.unit .a) 0x20000004) 0) = true ∧
    after (.lanePairRender .a 2 ⟨true, 1, [], true⟩) (regsOf [(0x20000000, 0)] (pairState 0 4))
      (fun x => !(x.ua.rd.pair 2 5).valid && natBit (x.reg (.unit .a) 0x20000004) 5) = true ∧
    after (.lanePairRender .a 2 ⟨false, 0, [], false⟩) (regsOf [(0x20000000, 1)] (let s := pairState 0 4
      { s with ua := { s.ua with rd := { s.ua.rd with objs := [(0, { zrun := 100000 })] } } }))
      (fun x => (x.ua.rd.pair 2 5).skipped && (x.ua.rd.tile 2).skipNow == 1) = true := by decide +kernel
theorem test_chain_ready : let s := pairState 16384 4
    s.canonical = true ∧ s.unitRuns .a = true ∧ (s.ua.rd.lawsDone 2 3) = true ∧ (s.ua.rd.tileDone 2) = true := by decide +kernel
/-- Unit A with block 3 committed and every tile done with it. -/
def chainState : State :=
  let s := atBlock 3 224
  { s with ua := { s.ua with rd := { s.ua.rd with
      commit := 4, lawBlk := 4, tiles := (List.range 64).map (fun t => (t, { lawBlk := 4, pos := 16384 })) } } }
theorem test_feed_chain : chainState.canonical = true ∧ chainState.unitRuns .a = true ∧ chainState.ua.chainReady = true ∧
    (atBlock 3 224).ua.chainReady = false := by decide +kernel
theorem test_health : base.healthAt .a 3 = 15 ∧ { atBlock 3 96 with ua := { (atBlock 3 96).ua with hl := { loaded := true, need := true } } }.healthAt .a 3 = 2 ∧
    ({ base with ua := { base.ua with hl := { loaded := true, blkFaults := [(3, 4)] } } } : State).healthAt .a 3 = 6 := by decide +kernel
theorem test_seal : let s := atBlock 3 200
    let t := { s with ua := { s.ua with rd := { s.ua.rd with staged := some { block := 3 } } } }
    t.unitRuns .a = true ∧ t.ua.rd.staged = some { block := t.ua.hl.blk } ∧ t.ua.rd.endBlk = none ∧ t.tb.sidx ≤ 32 * (3 + t.arb.lat) := by decide +kernel
/-- A complete block whose SEAL_CLOSE comes after its output block began. -/
theorem test_late_seal : let s := atBlock 3 230
    let t := { s with ua := { s.ua with rd := { s.ua.rd with staged := some { block := 3 } } } }
    t.canonical = true ∧ t.unitRuns .a = true ∧ t.ua.rd.endBlk = none ∧ 32 * (t.ua.hl.blk + t.arb.lat) < t.tb.sidx ∧
    after (.sealClose .a) t (fun x => x.ua.hl.lastHealth == 6 && x.ua.hl.blk == 4 && natBit (x.reg (.unit .a) 0x20090008) 2) = true := by
  decide +kernel
theorem test_deadline : let s := atBlock 3 224
    s.canonical = true ∧ s.unitRuns .a = true ∧ s.arb.run = true ∧ 32 * (s.ua.hl.blk + s.arb.lat) ≤ s.tb.sidx := by decide +kernel
/-- Unit A rendering with the seal of block 3 as its last one. -/
def sealed3 (sidx : Nat) : State :=
  let s := atBlock 4 sidx
  { s with ua := { s.ua with hl := { s.ua.hl with last := some ⟨3, 255, 9⟩, healths := [(3, 15)] } } }
theorem test_late_check : (sealed3 224).canonical = true ∧ (sealed3 224).arb.run = true ∧ (sealed3 224).reportBlock .a = some (3, 15) ∧ after (.lateCheckReport .a true) (sealed3 224) (fun t => t.arb.latesA == [(3, true)]) = true ∧
    after (.lateCheckReport .a false) (sealed3 224) (fun t => t.arb.latesA == [(3, false)] && natBit (t.reg (.unit .a) 0x20090008) 5) = true := by
  decide +kernel
theorem test_heartbeat : after (.heartbeatReceive .b) (sealed3 200) (fun t => t.ub.hl.heard == [(200, ⟨3, 255, 9⟩)] && t.ub.hl.hbRun == 17) = true ∧
    after (.heartbeatLoss .a) (atBlock 3 400) (fun t => t.ua.hl.hbLost && natBit (t.reg (.unit .a) 0x200A0000) 0) = true := by decide +kernel
/-- The arbiter at output block 7 with seals of input block 3. -/
def arbAt (qa qb : List Seal) : State :=
  let s := atBlock 4 1000
  { s with arb := { s.arb with sealsA := qa, sealsB := qb } }
theorem test_arbiter : (arbAt [] []).canonical = true ∧
    after (.arbiterDecision 0) (arbAt [] []) (fun t => t.arb.selected == none && t.arb.holds == 1) = true ∧
    after (.arbiterDecision 0) (arbAt [] [⟨3, 255, 1⟩]) (fun t => t.arb.selected == some .b && t.arb.switches == 1) = true ∧
    after (.arbiterDecision 0) (arbAt [⟨3, 255, 1⟩] [⟨3, 254, 1⟩]) (fun t => t.arb.selected == some .a) = true ∧
    after (.arbiterDecision 0) (arbAt [⟨3, 254, 1⟩] [⟨3, 255, 1⟩]) (fun t => t.arb.selected == some .b) = true ∧
    after (.arbiterDecision 0) (arbAt [⟨3, 254, 1⟩] [⟨3, 255, 2⟩]) (fun t => t.arb.selected == some .a && t.arb.divergences == 1) = true ∧
    after (.arbiterDecision 2) (arbAt [⟨3, 255, 1⟩] [⟨3, 255, 1⟩]) (fun t => t.arb.selected == none) = true ∧
    after (.arbiterDecision 0) (arbAt [⟨4, 255, 8⟩, ⟨3, 255, 1⟩] [⟨3, 254, 1⟩]) (fun t => t.arb.selected == some .a && t.arb.source == .a) = true ∧
    after (.arbiterDecision 0) { arbAt [⟨3, 255, 1⟩] [⟨3, 255, 1⟩] with arb := { (arbAt [⟨3, 255, 1⟩] [⟨3, 255, 1⟩]).arb with source := .a, startAt := 224, startSrc := .b } }
      (fun t => t.arb.selected == some .b && t.arb.source == .b) = true := by decide +kernel
theorem test_release : let s := atBlock 4 1000
    let t := { s with arb := { s.arb with nextOut := 192, selected := some .a } }
    t.canonical = true ∧ t.arb.nextOut / 32 ≤ t.arb.decided ∧ t.arb.zeroAt t.arb.nextOut = false ∧
    ({ t.arb with endAt := some 192 } : Arbiter).zeroAt 192 = true ∧ ({ s with arb := { s.arb with nextOut := 192, hold := some { start := 190 } } }).arb.selected = none := by
  decide +kernel
theorem test_held : heldAt 6400 71 8 = 0 ∧ heldAt 6400 8 8 = 6300 ∧ heldAt 6400 7 8 = 6400 := by decide +kernel
theorem test_silence_outputs : let s := dictOf [(dkey 0x6620 1 0, .num 5)] (atBlock 4 1000)
    let t := { s with arb := { s.arb with silQ := [(6, 1)] } }
    t.canonical = true ∧ t.silLevel 64 1 5 = true ∧ after .silenceGpioUpdate t (fun t' => (t'.ball 5).sil && t'.arb.silQ == []) = true := by decide +kernel
theorem test_arb_registers : after (.arbClear (.firmware .mgmt) 1) { base with arb := { switches := 3 } } (fun t => t.arb.switches == 0) = true ∧
    base.acceptsWrite 1 (dkey 0x9010 0xC 0) 1 0 0 = true ∧
    after (.arbClear (.host 1) 1) { base with arb := { switches := 3 } } (fun t => t.arb.switches == 0) = true ∧
    after (.arbHoldAtHiWrite .mgmt 1) base (fun t => t.arb.holdCommit == some (8, 2 ^ 32)) = true := by decide +kernel

/-- A standing record of a write. -/
def wrec (key apply : Nat) (v : Int) : JRec := { jseq := 1, apply := apply, session := 1, kind := 0, key := key, val := .num v }
def feP (l : List JRec) (s : State) : State := { s with fePend := l }
theorem test_write_apply : let s := feP [wrec (dkey 0x3000 7 0) 64 5] { base with tb := { sidx := 64 } }
    s.canonical = true ∧ ownStep (dkey 0x3000 7 0) = false ∧ 64 ≤ s.horizon (dkey 0x3000 7 0) ∧
    after .writeApply s (fun t => baseVal t.dict (dkey 0x3000 7 0) == .num 5 && t.fePend == []) = true := by decide +kernel
theorem test_write_apply_unit : let s := atBlock 3 224
    let t := { s with ua := { s.ua with rd := { s.ua.rd with pend := [wrec (dkey 0x4000 2 7) 96 1] } } }
    t.canonical = true ∧ (wrec (dkey 0x4000 2 7) 96 1).setsValue = true ∧ unitStep (dkey 0x4000 2 7) = false ∧
    after .writeApply t (fun t' => baseVal t'.ua.rd.cfg (dkey 0x4000 2 7) == .num 1 && t'.ua.rd.pend == []) = true := by decide +kernel
theorem test_layout_switch : isLayoutKey (dkey 0x5000 1 3) = true ∧
    (feP [wrec (dkey 0x5000 1 3) 64 5] { base with tb := { sidx := 64 } }).canonical = true := by decide +kernel
theorem test_filter_switch : let s := { base with tb := { sidx := 64 }, dam := { base.dam with rebuilds := [(1, [2])] } }
    s.canonical = true ∧ s.rebuildsOf 1 = [2] ∧ s.rebuildsOf 0 = [] ∧
    after .filterSwitch s (fun t => t.rebuildsOf 1 == [] && baseVal t.dict (dkey 0x3120 1 0) == .num 64) = true := by decide +kernel
theorem test_cs_switch : let s := feP [wrec (dkey 0x6200 2 3) 64 1] { base with tb := { sidx := 64 }, dam := { base.dam with csStage := some (3, [1]) } }
    s.canonical = true ∧ dkey 0x6200 2 3 = dkey 0x6200 2 (keyElem (dkey 0x6200 2 3)) := by decide +kernel
theorem test_render_begin : let s := feP [wrec (dkey 0x1100 3 0) 64 1] { base with tb := { sidx := 64 } }
    s.renderDue = some (wrec (dkey 0x1100 3 0) 64 1) ∧ s.sub.power = .ready ∧ s.sub.transition = none ∧ s.arb.run = false := by decide +kernel
theorem test_render_again : let s := feP [wrec (dkey 0x1100 3 0) 64 1] { rendering with tb := { sidx := 64 } }
    s.mayLog 4 = true ∧ after .renderBegin s (fun t => t.sub.power == .render && (t.sub.logBuf.getLast?.map (·.code)) == some 4) = true := by decide +kernel
theorem test_render_end : let s := feP [wrec (dkey 0x1100 3 0) 320 0] { atBlock 3 320 with sub := rendering.sub }
    s.unitRuns .a = true ∧ s.ub.hl.blk < 10 ∧
    after .renderEnd s (fun t => t.sub.power == .ready && t.ua.rd.endBlk == some 10 && t.arb.endAt == some 448) = true := by decide +kernel
theorem test_rate_change : base.rateFree = true ∧ base.rate = 48000 ∧
    after (.rateChange 96000) base (fun t => baseVal t.dict (dkey 0x2001 0 0) == .num 96000) = true ∧ rendering.rateFree = false := by decide +kernel
/-- Unit A has read the journal up to a number; the journal holds one record. -/
def jState (jrd : Nat) (j : JRec) : State :=
  let s := regsOf [] { base with sub := { base.sub with journal := [j] } }
  { s.setReg .shared 0x30050000 1 with ua := { s.ua with rd := { jrd := jrd } } }
theorem test_journal_read : let j := { wrec (dkey 0x4000 2 7) 96 1 with jseq := 5 }
    after (.journalSlotRead .a) (jState 4 j) (fun t => t.ua.rd.pend == [j] && t.ua.rd.jrd == 5) = true ∧
    after (.journalSlotRead .a) (jState 4 { j with key := dkey 0x4100 1 7 }) (fun t => t.ua.rd.kfPend.length == 1) = true ∧
    after (.journalSlotRead .a) (jState 3 j) (fun t => natBit (t.reg (.unit .a) 0x20090008) 3) = true := by decide +kernel
/-- Both units render at block 40; unit A's resynchronisation is in a phase. -/
def resyncAt (x : Resync) (need : Bool) : State :=
  let s := rendering
  let r : Render := { commit := 40, chain := 40, lawBlk := 40 }
  let h : HealthSt := { loaded := true, blk := 40 }
  { s with
    ua := { s.ua with rd := r, hl := { h with resync := x, need := need } }
    ub := { s.ub with rd := r, hl := h }
    arb := { run := true, lat := 4, decided := 44, sealOfA := some ⟨40, 40, 7⟩, sealOfB := some ⟨40, 255, 7⟩, eligB := true } }
theorem test_resync_start : (resyncAt {} true).unitRuns .a = true ∧
    after (.resyncStart .a) (resyncAt {} true) (fun t => t.ua.hl.resync.phase == 1 && t.ua.hl.resync.first == 40 && !t.ua.hl.need) = true := by
  decide +kernel
theorem test_resync_wait : (resyncAt { phase := 15 } false).phase1Ok .a = true ∧
    after (.resyncPhaseAdvance .a) (resyncAt { phase := 15 } false) (fun t => t.ua.hl.resync.phase == 1) = true := by decide +kernel
theorem test_resync_phase : let s := resyncAt { phase := 2, first := 30, chunks := 0 } false
    s.phaseLen s.ub 2 = 6 ∧ sameBlock s.ub s.ua = true ∧ s.ua.hl.resync.first + s.ua.hl.resync.chunks < s.ua.hl.blk ∧
    after (.resyncPhaseAdvance .a) s (fun t => t.ua.hl.resync.phase == 2 && t.ua.hl.resync.chunks == 1) = true ∧
    after (.resyncPhaseAdvance .a) (resyncAt { phase := 2, first := 30, chunks := 5 } false) (fun t => t.ua.hl.resync.phase == 3 && t.ua.hl.resync.first == 40) = true ∧
    after (.resyncPhaseAdvance .a) (resyncAt { phase := 1, first := 10 } false) (fun t => t.ua.hl.resync.phase == 2) = true := by decide +kernel
theorem test_seal_match : after (.sealMatch .a) (resyncAt { phase := 8, first := 30, judge := 40 } false) (fun t => t.ua.hl.resync.matchRun == 1) = true ∧
    after (.sealMatch .a) (resyncAt { phase := 8, judge := 40, matchRun := 15 } false) (fun t => t.ua.hl.resync.phase == 0 && t.ua.hl.returning) = true ∧
    after (.sealMatch .a) { resyncAt { phase := 8, judge := 40 } false with arb := { run := true, lat := 4, decided := 44, eligB := true, sealOfB := some ⟨40, 255, 7⟩ } }
      (fun t => t.ua.hl.resync.phase == 2) = true ∧
    after (.sealMatch .a) { resyncAt { phase := 8, judge := 40, attempts := 2 } false with arb := { run := true, lat := 4, decided := 44, eligB := true, sealOfB := some ⟨40, 255, 7⟩ } }
      (fun t => !t.ua.hl.enabled && natBit (t.reg (.unit .a) 0x20090008) 7) = true := by decide +kernel
theorem test_resync_abort : after (.resyncAbort .b) { resyncAt {} false with ub := { rendering.ub with hl := { resync := { phase := 3 } } } }
    (fun t => t.ub.hl.resync.phase == 15 && t.ub.hl.resync.aborted) = true ∧
    after (.resyncAbort .b) { resyncAt {} false with ub := { rendering.ub with hl := { resync := { phase := 15 }, hbLost := true } } }
      (fun t => t.ub.hl.resync.aborted) = true := by decide +kernel
theorem test_promote_update : let s := resyncAt {} false
    let p := fun (k : Nat) => { s with ua := { s.ua with rd := { s.ua.rd with pend := [wrec k 1280 1] }, hl := { s.ua.hl with returning := true } } }
    (dueOne (p (dkey 0x9000 5 0)).ua (dkey 0x9000 5 0)).isSome = true ∧
    after (.promoteApply .a) (p (dkey 0x9000 5 0)) (fun t => !t.ua.hl.returning && t.ua.rd.pend == []) = true ∧
    after (.updateApply .a) (p (dkey 0x9030 2 0)) (fun t => t.ua.hl.loading && !t.ua.hl.loaded) = true := by decide +kernel
theorem test_resync_idle : let s := resyncAt {} false
    s.canonical = true ∧ s.ua.hl.need = false ∧ s.unitRuns .a = true ∧ s.sourceElig .a = true ∧ s.sourceElig .b = false ∧
    (resyncAt { phase := 8, judge := 40 } false).ua.hl.resync.judge ≤ s.arb.decided - s.arb.lat ∧
    dueOne s.ua (dkey 0x9000 5 0) = none ∧ dueOne s.ua (dkey 0x9030 2 0) = none := by decide +kernel
/-- A resynchronisation at a phase whose source holds a feed delayed by 320 samples. -/
def delayed (x : Resync) : State :=
  let s := resyncAt x false
  { s with ub := { s.ub with rd := { s.ub.rd with cfg := [(dkey 0x6000 4 3, .num 320)] } } }
theorem test_phase6 : let s := delayed { phase := 6, first := 30 }
    s.waitLen 320 = 586 ∧ sameBlock s.ub s.ua = true ∧ s.unitRuns .a = true := by decide +kernel
theorem test_phase7 : let s := resyncAt { phase := 7, first := 39, bMax := 960000 } false
    s.resyncBulk .a ≤ s.ua.hl.resync.bMax ∧ sameBlock s.ub s.ua = true ∧ s.unitRuns .a = true ∧
    s.ua.hl.resync.first + s.ua.hl.resync.chunks < s.ua.hl.blk ∧ s.phaseLen s.ub 7 = 1 ∧
    asorted s.ua.rd.objs = true ∧ asorted s.ua.rd.buses = true := by decide +kernel
/-- A BULK above B_max in phases 7 and 8 returns to phase 6. -/
theorem test_phase7_returns : (delayed { phase := 7, first := 30 }).ua.hl.resync.bMax < (delayed { phase := 7, first := 30 }).resyncBulk .a ∧
    (delayed { phase := 8, first := 30 }).ua.hl.resync.bMax < (delayed { phase := 8, first := 30 }).resyncBulk .a := by decide +kernel
/-- A survey step journaled outside RENDER whose index has passed. -/
theorem test_survey_step_outside : let s := { base with tb := { sidx := 64 }, surv := { base.surv with runs := [{ pos := 2, feed := 1, at_ := 32, stop := 96, bulk := 0, outside := true }] } }
    s.canonical = true ∧ s.rendering = false ∧ s.fePend = [] ∧ s.ua.rd.pend = [] ∧ s.ub.rd.pend = [] ∧
    after .writeApply s (fun t => t.surv.runs == [] && baseVal t.dict (dkey 0xA100 1 11) == .num 3) = true := by decide +kernel

def peer0 : Peer := ⟨0, 0x0A000001, 9000, 28760, false⟩
/-- Port 0 runs with its link up and receives every address. -/
def portOn (f : Port → Port) : State :=
  ({ base with ports := [f { link := true, speed := 1 }, {}, {}, {}, {}] }).setReg .shared (portBase 0) 7
def linked : State := portOn id
def opBytes (op fl : Nat) (body : List Byte) : List Byte := beBytes 1 op ++ beBytes 1 fl ++ beBytes 2 body.length ++ body
/-- A message of session 1 with EPOCH 0, without its tag. -/
def bare (kind flags seq : Nat) (ops : List Byte) : List Byte :=
  [0x44, 0x4D, 1] ++ beBytes 1 kind ++ [1] ++ beBytes 1 flags ++ beBytes 2 ops.length ++ beBytes 8 0 ++ beBytes 8 seq ++
    List.replicate 8 0 ++ ops
def tagged (kind flags seq : Nat) (ops : List Byte) : List Byte :=
  bare kind flags seq ops ++ dameelTag (base.cred 1) (bare kind flags seq ops)
/-- A message of a KEEPALIVE and one more operation. -/
def two (op fl : Nat) (body : List Byte) : List Byte := bare 1 0 5 (opBytes 0xB 0 [] ++ opBytes op fl body) ++ List.replicate 16 0
def adr (idx sub elem : Nat) : List Byte := beBytes 2 idx ++ beBytes 1 sub ++ [0] ++ beBytes 2 elem ++ [0, 1]
def ctxOf (dg : List Byte) : MsgCtx :=
  ⟨dg, peer0, 1, 5, 0, 3, 0, 28760, 1, [], false, base.roleNow 1, base.prioNow 1, base.tenancyNow 1, base.cred 1⟩
/-- The state in which the second operation of a message is next, session 1 being as given. -/
def begunOn (dg : List Byte) (y : Session) (s : State) : State :=
  { s with dam := { s.dam with sessions := [(1, { y with isOpen := true, xEnd := 1000 })], cur := some (ctxOf dg) } }
def begun (dg : List Byte) (y : Session) : State := begunOn dg y linked
/-- The second operation of the message runs, and its command answers OK with a result body of a length. -/
def opOk (dg : List Byte) (code : Nat) (cmd : Instr) (y : Session) (p : State → Bool) : Bool :=
  (begun dg y).opRuns peer0 dg 1 code (ctxOf dg) ((((opsOf dg).getD []).getD 1 ⟨0, 0, []⟩)) &&
    after cmd (begun dg y) (fun t => t.dam.cur.isNone && (match t.out.head? with
      | some (.reply r _) => (r.results.map (·.status)) == [.ok]
      | _ => false) && p t)

theorem test_tag_wrong : base.frontRuns = true ∧ base.canonical = true ∧
    (let dg := bare 1 0 5 (opBytes 0xB 0 []) ++ List.replicate 16 0
     let s := dictOf [(dkey 0xC000 2 0, .num 31), (dkey 0x3000 6 0, .num 1)] linked
     s.takes 1 peer0 dg = true ∧ s.tagOk dg = false ∧ startsWith dg 0xB = true) := by decide +kernel
def listens : State := dictOf [(dkey 0xC000 2 0, .num 31), (dkey 0x3000 6 0, .num 1)] linked
theorem test_tag_right : listens.canonical = true ∧
    (let dg := tagged 1 0 5 (opBytes 0xB 0 [])
     listens.takes 1 peer0 dg = true ∧ listens.tagOk dg = true ∧ startsWith dg 0xB = true ∧ (listens.sess 1).seqHigh < 5 ∧
     sessionIds.all (fun k => !listens.leaseDue k listens.tb.sidx) = true) := by decide +kernel
def kept5 : State := { listens with dam := { sessions := [(1, { isOpen := true, xEnd := 1000, seqHigh := 6, kept := [(5, ⟨2, 1, .ok, 0, 1, 5, [], 28760, peer0⟩)] })] } }
theorem test_seq_seen : (let dg := tagged 1 0 5 (opBytes 0xB 0 [])
    kept5.tagOk dg = true ∧ kept5.canonical = true ∧ ((kept5.sess 1).kept.find? (fun e => e.1 == 5)).isSome = true ∧
    after (.dmlKeepalive peer0 dg 0) kept5 (fun t => match t.out.head? with
      | some (.reply r d) => r == ⟨2, 1, .ok, 0, 1, 5, [], 28760, peer0⟩ && d.bytes.length == 48
      | _ => false) = true ∧
    ((kept5.sess 1).kept.find? (fun e => e.1 == 4)).isSome = false ∧
    after (.dmlKeepalive peer0 (tagged 1 0 4 (opBytes 0xB 0 [])) 0) kept5 (fun t => match t.out.head? with
      | some (.reply r _) => r.status == .sequence && r.ackSeq == 4
      | _ => false) = true) := by decide +kernel
def shut : State := { listens with dam := {} }
theorem test_not_open : (let dg := tagged 1 0 5 (opBytes 0xB 0 [])
    shut.tagOk dg = true ∧ shut.canonical = true ∧ after (.dmlKeepalive peer0 dg 0) shut (fun t => match t.out.head? with
      | some (.reply r _) => r.status == .auth && r.kind == 8
      | _ => false) = true) := by decide +kernel
theorem test_message_type : (let dg := tagged 1 0 5 (opBytes 0xB 0 [1])
    listens.tagOk dg = true ∧ msgStatus dg (opsOf dg) = .type ∧ startsWith dg 1 = true) := by decide +kernel

theorem test_dml_read : (let dg := two 1 0 (adr 0x2001 0 0)
    opOk dg 1 (.dmlRead peer0 dg 1) {} (fun _ => true)) = true ∧ ((⟨0x2001, 0, 0, 1⟩ : Addr).entry.map (fun e => (e.acc == .wo, e.ty))) = some (false, .u 32) := by
  decide +kernel
theorem test_dml_write : (let dg := two 2 0 (adr 0x4000 0xA 7 ++ beBytes 1 0x0E ++ [0, 0, 0] ++ beBytes 8 0 ++ beBytes 4 5)
    opOk dg 2 (.dmlWrite peer0 dg 1) {} (fun t => match t.sub.journal.getLast? with
      | some j => j.val == .num 5 && j.apply == 64 && j.wins
      | none => false)) = true ∧ decodeVal .pos32 (beBytes 4 5) = some (.num 5) := by decide +kernel
theorem test_dml_mgmt_activate : (let dg := two 2 0 (adr 0xD100 5 0 ++ beBytes 1 DType.bool.code ++ [0, 0, 0] ++ beBytes 8 0 ++ [1])
    let s := begunOn dg {} (dictOf [(dkey 0xD100 2 0, .num 2)] linked)
    s.opRuns peer0 dg 1 2 (ctxOf dg) (((opsOf dg).getD []).getD 1 ⟨0, 0, []⟩) = true ∧ decodeVal .bool [1] = some (.num 1) ∧
      s.modeTest 1 (dkey 0xD100 5 0) = .ok ∧
      (s.writeTest { sess := 1, x := 0, key := dkey 0xD100 5 0, val := .num 1, apply := 0 }).1 = .ok ∧
      after (.dmlWrite peer0 dg 1) s (fun t => t.sub.restarting && t.out == s.out) = true) := by decide +kernel
theorem test_dml_journal_read : (let dg := two 0xC 0 (beBytes 8 3 ++ [1])
    let s := begunOn dg {} (subOf (fun p => { p with journal := [{ jseq := 3, apply := 0, session := 1, kind := 0, key := 0, val := .num 0, prio := 0 }] }) base)
    s.opRuns peer0 dg 1 0xC (ctxOf dg) (((opsOf dg).getD []).getD 1 ⟨0, 0, []⟩) &&
      after (.dmlJournalRead peer0 dg 1) s (fun t => t.dam.cur.isNone)) = true := by decide +kernel
def atomicDg : List Byte := tagged 1 1 5 (opBytes 2 0 (adr 0 0 0 ++ List.replicate 12 0))
theorem test_atomic_refused : listens.frontRuns = true ∧ startsWith atomicDg 2 = true ∧
    (match (listens.atOp peer0 atomicDg 0).dam.cur with
     | some c => c.dg == atomicDg && c.next == 0 && c.atomic && (atomicRun runWrite c ((opsOf atomicDg).getD []) (listens.atOp peer0 atomicDg 0)).2.isNone
     | none => false) = true := by decide +kernel

theorem test_dml_subscribe : (let dg := two 4 0 (adr 0x2001 0 0 ++ [0, 0, 0, 0])
    opOk dg 4 (.dmlSubscribe peer0 dg 1) {} (fun t => (t.sess 1).subs.length == 1)) = true := by decide +kernel
theorem test_dml_unsubscribe : (let dg := two 5 0 [0, 1]
    opOk dg 5 (.dmlUnsubscribe peer0 dg 1) { subs := [{ id := 1, idx := 0, sub := 0, elem := 0, count := 1, mode := 0, period := 0 }] }
      (fun t => (t.sess 1).subs.isEmpty)) = true := by decide +kernel
theorem test_dml_lock : (let dg := two 6 0 (adr 0x4000 1 7)
    opOk dg 6 (.dmlLock peer0 dg 1) {} (fun t => (t.sess 1).locks.length == 1)) = true := by decide +kernel
def locked1 : Session := { locks := [⟨1, 0x4000, 1, 7, 1⟩, ⟨2, 0x4000, 1, 8, 1⟩] }
theorem test_dml_unlock : (let dg := two 7 0 [0, 1, 0]
    opOk dg 7 (.dmlUnlock peer0 dg 1) locked1 (fun t => (t.sess 1).locks.length == 1)) = true ∧
    (let dg := two 7 2 [0, 0, 0]
    opOk dg 7 (.dmlUnlock peer0 dg 1) locked1 (fun t => (t.sess 1).locks.isEmpty)) = true ∧
    (let dg := two 7 1 [0, 0, 1]
    opOk dg 7 (.dmlUnlock peer0 dg 1) locked1 (fun t => (t.sess 1).locks.isEmpty)) = true ∧ base.role 1 = 3 := by decide +kernel
theorem test_dml_keepalive : (let dg := two 0xB 0 []
    opOk dg 0xB (.dmlKeepalive peer0 dg 1) {} (fun _ => true)) = true := by decide +kernel
theorem test_dml_close : (let dg := two 0xE 0 []
    let s := begun dg {}
    s.opRuns peer0 dg 1 0xE (ctxOf dg) (((opsOf dg).getD []).getD 1 ⟨0, 0, []⟩) &&
      after (.dmlClose peer0 dg 1) s (fun t => !(t.sess 1).isOpen)) = true := by decide +kernel

/-- A block: XFER 9, flags, block, total, CRC, APPLY 0 and data. -/
def blockBody (idx sub elem flags block total crc : Nat) (data : List Byte) : List Byte :=
  adr idx sub elem ++ [0, 9] ++ beBytes 1 flags ++ [0] ++ beBytes 4 block ++ beBytes 4 total ++ beBytes 4 crc ++ beBytes 8 0 ++ data
def xfer9 (key total : Nat) (data : List Byte) : Session := { xfers := [⟨9, key, total, 1, data, true, false, 0⟩] }
theorem test_domain_first : (let dg := two 8 0 (blockBody 0x1010 5 0 1 0 4 0 [1, 2])
    opOk dg 8 (.dmlDomainWrite peer0 dg 1) {} (fun t => ((t.sess 1).xferOf 9).map (·.data) == some [1, 2])) = true := by decide +kernel
theorem test_domain_further : (let dg := two 8 0 (blockBody 0x8000 1 0 0 1 4 0 [3])
    opOk dg 8 (.dmlDomainWrite peer0 dg 1) (xfer9 (dkey 0x8000 1 0) 4 [1, 2])
      (fun t => ((t.sess 1).xferOf 9).map (·.data) == some [1, 2, 3])) = true := by decide +kernel
theorem test_domain_last : (let dg := two 8 0 (blockBody 0x1010 5 0 2 1 3 (crc32 [1, 2, 3]) [3])
    opOk dg 8 (.dmlDomainWrite peer0 dg 1) (xfer9 (dkey 0x1010 5 0) 3 [1, 2])
      (fun t => baseVal t.dict (dkey 0x1010 5 0) == .bytes [1, 2, 3])) = true := by decide +kernel
theorem test_domain_crc : (let dg := two 8 0 (blockBody 0x1010 5 0 2 1 3 0 [3])
    let s := begun dg (xfer9 (dkey 0x1010 5 0) 3 [1, 2])
    after (.dmlDomainWrite peer0 dg 1) s (fun t => ((t.sess 1).xferOf 9).map (·.aborted) == some true)) = true := by decide +kernel
theorem test_domain_read : (let dg := two 9 0 (adr 0x3C00 2 0 ++ beBytes 4 0 ++ beBytes 2 16)
    let s := begun dg {}
    s.opRuns peer0 dg 1 9 (ctxOf dg) (((opsOf dg).getD []).getD 1 ⟨0, 0, []⟩) = true ∧
      (s.dictRead (dkey 0x3C00 2 0) 0).toBytes.length = 256 ∧
      ((⟨0x3C00, 2, 0, 1⟩ : Addr).entry.map (fun e => (e.acc == .wo, e.ty))) = some (false, .dom)) := by decide +kernel
theorem test_domain_abort : (let dg := two 0xA 0 [0, 9]
    opOk dg 0xA (.dmlDomainAbort peer0 dg 1) (xfer9 (dkey 0x1010 5 0) 3 [1, 2]) (fun t => ((t.sess 1).xferOf 9).map (·.aborted) == some true)) = true ∧
    (let dg := two 0xA 0 [0, 9]
    opOk dg 0xA (.dmlDomainAbort peer0 dg 1) {} (fun t => ((t.sess 1).xferOf 9).isNone)) = true := by decide +kernel
def slowXfer : State := { base with
  tb := { base.tb with us := 10000000 }
  dam := { sessions := [(1, { (xfer9 (dkey 0x1010 5 0) 3 [1]) with isOpen := true, xEnd := 1000 })] } }
theorem test_domain_timeout : slowXfer.frontRuns = true ∧ slowXfer.canonical = true ∧ slowXfer.usSince 0 = 10000000 ∧
    after (.domainTransferTimeout 1 9) slowXfer (fun t => ((t.sess 1).xferOf 9).map (·.aborted) == some true) = true := by decide +kernel

theorem test_dml_open : (let dg := tagged 4 0 0 (List.replicate 16 7)
    shut.takes 4 peer0 dg = true ∧ shut.tagOk dg = true ∧ shut.canonical = true ∧ shut.role 1 = 3 ∧ fieldAt dg 6 2 = 16 ∧
    (shut.sess 1).isOpen = false) := by decide +kernel
theorem test_dml_resume : (let dg := tagged 4 2 0 (List.replicate 16 7)
    listens.takes 4 peer0 dg = true ∧ listens.tagOk dg = true ∧ natBit (fieldAt dg 5 1) 1 = true ∧ (listens.sess 1).isOpen = true) := by
  decide +kernel
/-- An open without RESUME of a session that is open. -/
theorem test_dml_open_busy : (let dg := tagged 4 0 0 (List.replicate 16 7)
    listens.takes 4 peer0 dg = true ∧ listens.tagOk dg = true ∧ natBit (fieldAt dg 5 1) 1 = false ∧ (listens.sess 1).isOpen = true ∧
    listens.frontRuns = true ∧ listens.finishMsg.frontRuns = true) := by decide +kernel
theorem test_dml_open_tag : (let dg := bare 4 0 0 (List.replicate 16 7) ++ List.replicate 16 0
    shut.takes 4 peer0 dg = true ∧ shut.tagOk dg = false) := by decide +kernel
def expired : State := { base with dam := { sessions := [(1, { isOpen := true, xEnd := 0, locks := [⟨1, 0x4000, 1, 7, 1⟩] })] } }
theorem test_lease_end : expired.canonical = true ∧ expired.leaseDue 1 expired.tb.sidx = true ∧ expired.feN 0xC100 5 1 ≠ 1 ∧
    after (.leaseEnd 1) expired (fun t => !(t.sess 1).isOpen && (t.sess 1).locks.isEmpty) = true ∧
    base.leaseDue 1 base.tb.sidx = false := by decide +kernel
/-- A write that reverts feed 0's geometry waits for a retry. -/
def retrying (k : Nat) (v : Int) : State :=
  { base with dam := { sessions := [(1, { isOpen := true, xEnd := 1000, retry := [(k, .num v)] })] } }
theorem test_revert_retry : (let s := retrying (dkey 0x4000 0xA 7) 5
    s.canonical = true ∧ s.finalVal (dkey 0x4000 0xA 7) ≠ .num 5 ∧ (keyEntry (dkey 0x4000 0xA 7)).map (·.acc) = some .rwa ∧
    after (.revertRetry 1) s (fun t => (t.sess 1).retry.isEmpty && (match t.sub.journal.getLast? with
      | some j => j.val == .num 5 && j.kind == 4
      | none => false)) = true) := by decide +kernel
theorem test_revert_kept : (let s := { retrying (dkey 0x3710 2 7) 4 with tdm := [{}, {}, {}, {}, {}, {}, {}, { run := true }] }
    s.canonical = true ∧ s.finalVal (dkey 0x3710 2 7) ≠ .num 4 ∧
    ((s.setSess 1 { s.sess 1 with retry := [] }).writeTest { sess := 0, x := 0, key := dkey 0x3710 2 7, val := .num 4, apply := 0 }).1 = .state ∧
    after (.revertRetry 1) s (fun t => (t.sess 1).retry == [(dkey 0x3710 2 7, .num 4)]) = true) := by decide +kernel

def subs1 : State := { base with dam := { sessions := [(1, { isOpen := true, xEnd := 1000, subs := [
  { id := 1, idx := 0x2001, sub := 0, elem := 0, count := 1, mode := 1, period := 1 }] })] } }
theorem test_scan : subs1.canonical = true ∧ subs1.tb.sidx / 32 % scanLen subs1.rate = 0 ∧ subs1.dam.scanBlk = none ∧
    ((subs1.sess 1).subs.map Sub.keys) = [[dkey 0x2001 0 0]] ∧
    after (.subscriptionScan [5] []) subs1 (fun t => t.sub.volts == [5] && (t.sess 1).queue.items.length == 1) = true := by decide +kernel
def noted : State := { base with dam := { sessions := [(1, { isOpen := true, xEnd := 1000, queue := { items := [.item ⟨3, 0, 0, [1]⟩ false] } })] } }
theorem test_notification : noted.canonical = true ∧
    after (.notificationSend 1) noted (fun t => (t.sess 1).queue.items.isEmpty && (t.sess 1).noteSeq == 2 && (t.sess 1).txSeq == 2) = true := by
  decide +kernel
theorem test_notes_idle : subs1.frontRuns = true ∧ subs1.dam.cur = none ∧ State.reset.frontRuns = false ∧ subs1.finishMsg.frontRuns = true ∧
    (subs1.sess 1).queue.items = [] ∧ listens.takes 6 peer0 [] = false ∧ listens.takes 7 peer0 [] = false ∧
    (subs1.dam.discoverDue.find? (fun p => decide (subs1.usSince p.2 < 2 ^ 47))) = none ∧ (dictOf [(dkey 0xC000 4 0, .num 0)] base).feN 0xC000 4 0 ≠ 1 := by decide +kernel
theorem test_discover : (let dg := [0x44, 0x4D, 1, 6] ++ List.replicate 28 0
    listens.takes 6 peer0 dg = true ∧ listens.takes 7 peer0 dg = false) ∧
    (let dg := [0x44, 0x4D, 1, 7, 0, 0, 0, 1] ++ List.replicate 24 0 ++ [9] ++ List.replicate 16 0
    listens.takes 7 peer0 dg = true ∧ after (.dmlDiscover peer0 dg) listens (fun t => t.dam.peers.length == 1) = true) := by decide +kernel
def replyDue : State := { linked with dam := { base.dam with discoverDue := [(peer0, 0)] } }
theorem test_discover_reply : replyDue.dam.discoverDue.find? (fun p => decide (replyDue.usSince p.2 < 2 ^ 47)) = some (peer0, 0) ∧
    replyDue.txOn 0 = true ∧ replyDue.frontRuns = true := by decide +kernel
theorem test_discover_send : (let s := dictOf [(dkey 0xC000 4 0, .num 1)] listens
    s.feN 0xC000 4 0 = 1 ∧ s.sub.recovery = false ∧ after .discoverSend s (fun t => t.out.head? == some (.discover 0 (messageOf [] 6 0 0 0 0 0 []))) = true) := by
  decide +kernel

theorem test_pdelay_req : (portOn id).canonical = true ∧ (portOn id).txOn 0 = true ∧
    after (.pdelayReqSend 0) (portOn id) (fun t => t.out.head? == some (.pdelayReq 0 1) && (t.port 0).pd.req == some (1, 0)) = true := by
  decide +kernel
theorem test_pdelay_exchange : (let s := portOn (fun q => { q with pd := { seq := 1, req := some (1, 0) } })
    s.canonical = true ∧ after (.pdelayExchange 0 1 500) s (fun t => (t.port 0).pd.last == [500] && (t.port 0).pd.valid) = true) := by
  decide +kernel
theorem test_pdelay_timeout : (let s := { portOn (fun q => { q with pd := { valid := true } }) with tb := { base.tb with us := 3000000 } }
    s.canonical = true ∧ after (.pdelayTimeout 0) s (fun t => !(t.port 0).pd.valid) = true) := by decide +kernel
def speed1 : State := dictOf [(dkey 0x3000 1 0, .num 1)] base
theorem test_link_up : speed1.canonical = true ∧ speed1.feN 0x3000 1 0 = 1 ∧ speed1.sub.sdsFailed = false ∧ base.feN 0x3000 1 4 = 8 ∧
    after (.linkChange 0 true 0) speed1 (fun t => (t.port 0).link && (t.port 0).speed == 1) = true ∧
    after (.linkChange 4 true 3) speed1 (fun t => (t.port 4).link && (t.port 4).speed == 3) = true := by decide +kernel
theorem test_link_down : (portOn id).canonical = true ∧ (base.port 0).link = false ∧
    after (.linkChange 0 false 0) (portOn id) (fun t => !(t.port 0).link && natBit (t.portReg 0 4) 6) = true := by decide +kernel
theorem test_negotiation : (let s := dictOf [(dkey 0x3000 1 0, .num 3), (dkey 0x3000 2 0, .num 2)] base
    s.canonical = true ∧ s.feN 0x3000 1 0 = 3 ∧ natBit (s.feN 0x3000 2 0) 1 = true ∧
    after (.autoNegotiationDone 0 3 9 2) s (fun t => (t.port 0).anState == 3 && (t.port 0).anFec == 2) = true ∧
    after (.autoNegotiationDone 0 0 9 0) s (fun t => (t.port 0).anState == 4) = true) := by decide +kernel
theorem test_negotiation_fec1 : (let s := dictOf [(dkey 0x3000 1 0, .num 4), (dkey 0x3000 2 0, .num 1)] base
    s.feN 0x3000 1 0 = 4 ∧ natBit (s.feN 0x3000 2 0) 0 = true ∧
    after (.autoNegotiationDone 0 2 9 1) s (fun t => (t.port 0).anFec == 1 && (t.port 0).anState == 2) = true) := by decide +kernel
theorem test_module : base.canonical = true ∧ after (.modAbsFall 3) base (fun t => (t.port 3).sfp.inserted) = true ∧
    after (.modAbsRise 3) base (fun t => !(t.port 3).sfp.inserted) = true := by decide +kernel
def page (n b : Nat) : List Byte := List.replicate n 0 ++ beBytes 1 b
theorem test_module_read : (let s := { portOn (fun q => { q with sfp := { inserted := true } }) with tb := { base.tb with us := 300000 } }
    s.canonical = true ∧ after (.sfpIdRead 0 (some (page 92 64)) (some [1])) s (fun t => (t.port 0).sfp.present && (t.port 0).sfp.diag == [1]) = true ∧
    after (.sfpIdRead 0 (some [3]) (some [1])) s (fun t => (t.port 0).sfp.idPage == [3] && (t.port 0).sfp.diag == []) = true) := by
  decide +kernel
theorem test_module_poll : (let s := portOn (fun q => { q with sfp := { inserted := true, present := true, idPage := page 92 64 } })
    s.canonical = true ∧ after (.sfpDiagPoll 0 (some (page 112 1))) s (fun t => (t.port 0).sfp.alarmSeen) = true ∧
    after (.sfpDiagPoll 0 none) s (fun t => (t.port 0).sfp.i2cErr == 1) = true) := by decide +kernel

theorem test_ring_tails : after (.rxrTailWrite 0 1 3) base (fun t => (t.ring 0 false 1).tail == 3) = true ∧
    after (.txrTailWrite 4 3 17) base (fun t => (t.ring 4 true 3).tail == 1) = true := by decide +kernel
theorem test_ring_enable : natBits (base.ringReg 0 false 0 0) 5 2 ≠ 3 ∧
    after (.ringEnWrite 0 false 0 true) base (fun t => t.ringReg 0 false 0 0 == 0x101) = true ∧
    after (.ringEnWrite 0 false 0 false) base (fun t => t.ringReg 0 false 0 0 == 0x100) = true := by decide +kernel
theorem test_ring_mem3 : (let s := base.setReg .shared (ringBase 0 true 2) 0x60
    s.canonical = true ∧ natBits (s.ringReg 0 true 2 0) 5 2 = 3 ∧ natBit (s.ringReg 0 true 2 0) 0 = false ∧
    after (.ringEnWrite 0 true 2 true) s (fun t => natBit (t.ringReg 0 true 2 0x20) 3) = true) := by decide +kernel
/-- Receive ring 2 of port 0 with one unsignalled completion, its interrupt at a core. -/
def unsig (dst : Nat) : State := (portOn (fun q => { q with rx := [{}, {}, { unsig := 1 }, {}] })).setReg .shared (ringBase 0 false 2) (dst * 128)
theorem test_ring_moderation : (unsig 0).canonical = true ∧
    after (.ringModerationExpiry 0 false 2) (unsig 0) (fun t => t.icM.pend.contains 0x32 && (t.ring 0 false 2).unsig == 0) = true ∧
    after (.ringModerationExpiry 0 false 2) (unsig 1) (fun t => t.icA.pend.contains 0x62) = true ∧
    after (.ringModerationExpiry 0 false 2) (unsig 2) (fun t => t.icB.pend.contains 0x62) = true := by decide +kernel
theorem test_transmit_stream : (portOn (fun q => { q with txq := [[1, 2]] })).canonical = true ∧
    after (.frameTransmit 0) (portOn (fun q => { q with txq := [[1, 2]] })) (fun t =>
      t.out.head? == some (.frame 0 (padFrame [1, 2])) && (t.port 0).txq.isEmpty && t.portReg 0 0x24 == 1) = true := by decide +kernel
/-- Transmit ring 0 of port 0, enabled in the management SRAM, with one descriptor of a 4-byte frame at 0x100. -/
def sends : State :=
  let s := (portOn (fun q => { q with tx := [{ tail := 1 }, {}, {}, {}] })).setReg .shared (ringBase 0 true 0) 1
  { s with sub := { s.sub with mgmtMem := cellWrites (cellWrites [] 0 ([0x100, 4 + 2 ^ 16 + 2 ^ 17].flatMap (leBytes 4))) 0x100 [9, 8, 7, 6] } }
/-- What Subsoil has queued leaves after ring 1 and before the other rings. -/
theorem test_transmit_firmware : (let s := (portOn (fun q => { q with fwq := [[7, 8]] })).setReg .shared (ringBase 0 true 0) 1
    s.canonical = true ∧ s.txReady 0 1 = none ∧ s.fwReady 0 = true ∧ after (.frameTransmit 0) s (fun t =>
      t.out.head? == some (.frame 0 (padFrame [7, 8])) && (t.port 0).fwq.isEmpty) = true) := by decide +kernel
theorem test_transmit_ring : sends.canonical = true ∧ sends.txReady 0 0 = some [0] ∧
    ([1, 2, 3] : List Nat).all (fun q => (sends.txReady 0 q).isNone) = true ∧ sends.txErr 0 0 [0] = 0 ∧
    after (.frameTransmit 0) sends (fun t => t.out.head? == some (.frame 0 (padFrame [9, 8, 7, 6])) && (t.ring 0 true 0).head == 1) = true ∧
    base.txOn 0 = false := by decide +kernel

/-- A frame to the MAC address 2 with an EtherType of no meaning here. -/
def plainFrame : List Byte := beBytes 6 2 ++ beBytes 6 3 ++ [0x12, 0x34] ++ List.replicate 46 5
theorem test_frame_dropped : (portOn id).rxOn 0 = true ∧ (portOn id).frameTest 0 [1] false matches .error 0 ∧
    natBit ((portOn id).portReg 0 0) 4 = false ∧
    after (.frameReceive 0 [1] false 0 false) (portOn id) (fun t => t.portReg 0 0x28 == 1) = true := by
  refine ⟨by decide +kernel, ?_, by decide +kernel, by decide +kernel⟩
  exact (by decide +kernel : (match (portOn id).frameTest 0 [1] false with | .error 0 => true | _ => false) = true)
/-- Receive ring 2 of port 0, enabled in the management SRAM, with one free descriptor whose buffer is at 0x100. -/
def receives : State :=
  let s := ((portOn (fun q => { q with rx := [{}, {}, { tail := 1 }, {}] })).setReg .shared (ringBase 0 false 2) 1)
  { s with sub := { s.sub with mgmtMem := cellWrites [] 0 (leBytes 4 0x100) } }
theorem test_frame_delivered : receives.canonical = true ∧ receives.rxOn 0 = true ∧ receives.steer 0 plainFrame = 2 ∧
    (match receives.frameTest 0 plainFrame false with
      | .ok none => true
      | _ => false) = true ∧ receives.memAvail (receives.ringMem 0 false 2) = true ∧ plainFrame.length ≤ receives.rxBuf 0 2 ∧
    after (.frameReceive 0 plainFrame false 0 false) receives (fun t => (t.ring 0 false 2).head == 1 &&
      t.descWord 0 false 2 0 1 == 60 + 2 ^ 16 + 2 ^ 17 && cellReads t.sub.mgmtMem 0x100 60 == plainFrame) = true := by decide +kernel
/-- Stream 0 with one L16 channel on leg 0, its packets to 10.0.0.9 port 5004. -/
def streaming : State := dictOf [(dkey 0x3200 1 0, .num 1), (dkey 0x3200 2 0, .num 0), (dkey 0x3200 3 0, .num 1), (dkey 0x3200 4 0, .num 1),
  (dkey 0x3200 5 0, .num 1), (dkey 0x3200 7 0, .num 96), (dkey 0x3210 1 0, .num 0x0A000009), (dkey 0x3210 2 0, .num 5004)] (portOn id)
/-- An RTP packet of two L16 samples with time stamp 8, in a UDP datagram to 10.0.0.9 port 5004. -/
def rtpFrame (rtp : List Byte) : List Byte := beBytes 6 2 ++ beBytes 6 3 ++ [8, 0] ++ [0x45, 0, 0, 44, 0, 0, 0, 0, 1, 17, 0, 0] ++
  beBytes 4 1 ++ beBytes 4 0x0A000009 ++ beBytes 2 7 ++ beBytes 2 5004 ++ beBytes 2 (8 + rtp.length) ++ [0, 0] ++ rtp ++ List.replicate 8 0
def rtp2 : List Byte := [0x80, 96, 0, 1] ++ beBytes 4 8 ++ beBytes 4 0 ++ [0, 1, 0, 2]
theorem test_stream_claimed : streaming.canonical = true ∧ streaming.rxOn 0 = true ∧
    (match streaming.frameTest 0 (rtpFrame rtp2) false with
      | .ok (some 0) => true
      | _ => false) = true := by decide +kernel
theorem test_stream_stored : (rtpOf rtp2).isSome = true ∧
    rtpIndex streaming.tb.sidx ((8 + 2 ^ 32 - streaming.feN 0x3200 8 0) % 2 ^ 32) = 8 ∧ sampleFate streaming.tb.sidx streaming.latency 8 = 2 ∧
    after (.streamPacketReceive 0 (rtpFrame rtp2) 0 false) streaming (fun t =>
      aget? (t.isLeg 0).buf 8 == some (8, [512]) && aget? (t.isLeg 0).buf 9 == some (9, [1024])) = true := by decide +kernel
theorem test_stream_malformed : (rtpOf [1]).isNone = true ∧
    after (.frameReceive 0 (rtpFrame ([1] ++ List.replicate 15 0)) false 0 false) streaming (fun t => baseVal t.dict (dkey 0x3210 6 0) == .num 1 &&
      baseVal t.dict (dkey 0x3200 0x15 0) == .num 1) = true := by decide +kernel

/-- Egress stream 0 with one channel of 1 ms on leg 0 to a group, from index 0. -/
def egress (ip : Nat) : State := { dictOf [(dkey 0x3400 1 0, .num 1), (dkey 0x3400 3 0, .num 1), (dkey 0x3400 6 0, .num 3), (dkey 0x3400 5 0, .num 1),
  (dkey 0x3410 1 0, .num ip), (dkey 0x3400 0xE 0, .num 1)] (portOn id) with
  tb := { base.tb with sidx := 10000 }
  st := { es := [(0, ⟨0, 7, 0⟩)] } }
theorem test_egress : (egress 0xE0000105).canonical = true ∧ (egress 0xE0000105).txOn 0 = true ∧
    (let s := egress 0xE0000105
     let q := s.esNext 0
     let c := s.esCfg 0 q.1
     s.feAt q.1 0x3400 1 0 = 1 ∧ s.feAt c 0x3400 3 0 = 1 ∧ s.feAt c 0x3400 2 0 = 0 ∧ (s.dstMac 0 (s.feAt c 0x3410 1 0)).isSome = true ∧ q.1 + q.2.1 + s.relC ≤ s.tb.sidx + 1 ∧ s.feAt q.1 0x3400 3 0 = 1 ∧ s.feAt q.1 0x3400 2 0 = 0 ∧
     (s.dstMac 0 (s.feAt q.1 0x3410 1 0)).isSome = true ∧ s.feAt s.tb.sidx 0x3400 1 0 = 1) := by decide +kernel
theorem test_egress_arp : (let s := egress 5
     let q := s.esNext 0
     s.feAt q.1 0x3400 3 0 = 1 ∧ s.dstMac 0 (s.feAt q.1 0x3410 1 0) = none ∧
     s.fwReady 0 = false ∧ after (.egressPacketSend 0) s (fun t => (t.port 0).fwq == [s.arpFrame 0 1 0 (s.nextHop 0 5)] && (t.port 0).txq == []) = true) := by decide +kernel
theorem test_ingress_timeout : (let s := { base with tb := { base.tb with us := 1000000 }, st := { legs := [(4, { lastUs := some 0 }), (5, { lastUs := some 9 })] } }
    s.canonical = true ∧ after (.ingressStreamTimeout 2) s (fun t => (t.isLeg 4).lastUs == none && (t.isLeg 5).lastUs == some 9) = true) := by
  decide +kernel
def sapBytes (flags : Nat) : List Byte := beBytes 1 flags ++ [0, 0, 7] ++ beBytes 4 1 ++ [0x76, 0x3D]
/-- Port 0's receive ring 0 is enabled. -/
def hears : State := listens.setReg .shared (ringBase 0 false 0) 1
theorem test_sap : hears.rxOn 0 = true ∧ natBit (hears.ringReg 0 false 0 0) 0 = true ∧ hears.memAvail (hears.ringMem 0 false 0) = true ∧ hears.feN 0x3000 6 0 ≠ 0 ∧ (sapOf (sapBytes 0x20)).map (·.1) = some false ∧ (sapOf (sapBytes 0x24)).map (·.1) = some true ∧
    after (.sapReceive 0 (sapBytes 0x20)) hears (fun t => t.st.sap.length == 1) = true := by decide +kernel
theorem test_sap_announce : (egress 5).canonical = true ∧ (egress 5).txOn 0 = true ∧ (egress 5).feN 0x3400 1 0 = 1 ∧ (egress 5).feN 0x3400 0xE 0 = 1 ∧ natBit ((egress 5).feN 0x3400 3 0) 0 = true := by
  decide +kernel

/-- TDM port 2 with a pending write of TDM_EN at index 0. -/
def tdmSet (v : Int) (q : Tdm) : State := { base with
  tdm := [{}, {}, q, {}, {}, {}, {}, {}]
  fePend := [{ jseq := 1, apply := 0, session := 1, kind := 0, key := dkey 0x3710 1 2, val := .num v, prio := 0 }] }
theorem test_tdm_start : (tdmSet 1 {}).canonical = true ∧ ((tdmSet 1 {}).tdmDue 2 1).isSome = true ∧
    after (.tdmStart 2) (tdmSet 1 {}) (fun t => (t.tdmPort 2).run && natBit (t.reg .shared (tdmStat 2)) 1) = true ∧
    after (.tdmStart 2) (tdmSet 1 { run := true, next := 7 }) (fun t => (t.tdmPort 2).next == 7) = true := by decide +kernel
theorem test_tdm_stop : ((tdmSet 0 { run := true }).tdmDue 2 0).isSome = true ∧ (tdmSet 0 { run := true }).canonical = true ∧
    after (.tdmStop 2) (tdmSet 0 { run := true, rng := { state := 1 } }) (fun t => !(t.tdmPort 2).run && (t.tdmPort 2).rng.state == 3) = true := by
  decide +kernel
def tdmGo (rng : Ranging) : State := { base with
  tb := { base.tb with sidx := 5000 }
  tdm := [{}, {}, { run := true, start := 4096, next := 4500, rng := rng }, {}, {}, {}, {}, {}] }
theorem test_tdm_frame : (tdmGo {}).canonical = true ∧ (tdmGo {}).tdmDue 2 0 = none ∧ (tdmGo {}).tb.sidx = 5000 ∧
    after (.tdmFrame 2 [0x100]) (tdmGo {}) (fun t => aget? (t.tdmPort 2).input (32 * ((4500 - (tdmGo {}).relC) % 1024)) == some (4500 - (tdmGo {}).relC, 2)) = true ∧
    after (.tdmFrame 2 []) (tdmGo { state := 1, slot := 0 }) (fun t => match t.out.head? with
      | some (.tdm 2 _ (w :: _) _ _) => w == 0x5AC3A500
      | _ => false) = true := by decide +kernel
/-- TDM7 runs with the survey function as its owner. -/
def tdm7Go : State := { (base.setOwn .tdm7 ⟨0x30, false⟩) with
  tb := { base.tb with sidx := 5000 }
  tdm := [{}, {}, {}, {}, {}, {}, {}, { run := true, start := 4096, next := 4500 }] }
theorem test_tdm7_survey : tdm7Go.canonical = true ∧ (tdm7Go.own .tdm7).owner = 0x30 ∧ 0 < tdm7Go.feN 0x3710 2 7 ∧
    tdm7Go.tdmDue 7 0 = none := by decide +kernel
theorem test_ranging : (tdmGo { state := 1, frames := 64 }).canonical = true ∧
    after (.rangingDone 2 30) (tdmGo { state := 1, frames := 64, seen := 8 }) (fun t => (t.tdmPort 2).rng.state == 2 && (t.tdmPort 2).rng.ns == 30) = true ∧
    after (.tdmFrame 2 [0, 0x2D61D2, 0x80000000]) (tdmGo { state := 1, slot := 1, frames := 1 }) (fun t => (t.tdmPort 2).rng.seen == 1 &&
      (t.tdmPort 2).rng.bits == 32 * (tdmGo {}).feN 0x3710 2 2 + 9) = true ∧
    after (.rangingNoEcho 2) (tdmGo { state := 1, frames := 64 }) (fun t => (t.tdmPort 2).rng.state == 3) = true := by decide +kernel

/-- Trigger 3 armed at index 0 with an action and a target, and a state. -/
def armedFor (action target : Nat) : State :=
  { base with trig := [(3, { state := .armed, start := 0, action := action, target := target, width := 9 })] }
theorem test_trigger_fires : (armedFor 5 0).canonical = true ∧ (armedFor 5 0).tbRuns = true ∧ ((armedFor 5 0).tt 3).nextIdx = 0 ∧
    after (.triggerFire 3) (armedFor 5 0) (fun t => t.icM.pend.contains 0x23 && (t.tt 3).fired == 1) = true ∧
    after (.triggerFire 3) (armedFor 5 1) (fun t => t.icA.pend.contains 0x53) = true ∧
    after (.triggerFire 3) (armedFor 5 2) (fun t => t.icB.pend.contains 0x53) = true ∧
    after (.triggerFire 3) (armedFor 4 7) (fun t => (t.ball 7).pulses == [(3, 9)]) = true ∧
    after (.triggerFire 3) (armedFor 2 5) (fun t => (t.tdmPort 5).run) = true := by decide +kernel
theorem test_trigger_render : after (.triggerFire 3) { armedFor 1 0 with ptp := { base.ptp with lock := .locked } } (fun t => t.sub.power == .render) = true ∧
    after (.triggerFire 3) (subOf (fun p => { p with power := .idle }) (armedFor 1 0)) (fun t => (t.tt 3).state == .missed) = true := by decide +kernel
theorem test_trigger_survey : after (.triggerFire 3) { armedFor 3 0 with owners := [(3, ⟨0x30, false⟩)] } (fun t => t.surv.starts == [128]) = true ∧
    (base.tt 3).state ≠ .armed := by decide +kernel
theorem test_pulse_end : after (.gpioPulseEnd 7) { base with gpio := [(7, { pulses := [(3, 0), (4, 5)] })] } (fun t =>
    (t.ball 7).pulses == [(4, 5)]) = true := by decide +kernel

def surveying : State := { (subOf (fun p => { p with power := .render }) surveyed).setOwn .cap ⟨0x30, false⟩ with surv := { starts := [320] } }
theorem test_survey_step : surveying.canonical = true ∧ surveying.survGoNext = none ∧ surveying.capOn = true ∧ surveying.rendering = true ∧
    surveying.nlSurvJob = some surveyJob ∧ surveying.tb.sidx ≤ 32 * (320 / 32 - 2) ∧ surveying.sub.journal.length = 0 ∧
    after .surveyStep surveying (fun t => t.surv.starts.isEmpty && t.surv.runs.length == 1) = true := by decide +kernel
/-- A survey step started by a write. -/
theorem test_survey_write : (let s := feP [wrec emissionKey 320 1] { surveying with surv := {} }
    s.canonical = true ∧ s.survGoNext = some (wrec emissionKey 320 1) ∧ s.surv.starts = [] ∧
    after .surveyStep s (fun t => t.surv.runs.length == 1 && t.survGoNext == none) = true) := by decide +kernel
theorem test_survey_missed : (let s := { rendering with surv := { starts := [320] } }
    s.canonical = true ∧ s.nlSurvJob = none ∧ s.survGoNext = none ∧
    after .surveyStep s (fun t => baseVal t.dict (dkey 0xA100 1 0) == .num 3) = true) := by decide +kernel
theorem test_survey_analysis : (let e := chanResult [0, 3, 1000, 3, 0, 0, 0, 1] false 65536 0
    e.valid = 1 ∧ e.tof = 65536 ∧ e.pol = 1 ∧ e.snr = 16131) ∧ (chanResult [0, -9, 0, 0, 1, 1, 1, 1] false 0 0).valid = 4 ∧
    (chanResult [0, 3, 1000, 3, 0, 0, 0, 1] true 0 0).valid = 2 := by decide +kernel
theorem test_survey_result : (let s := { surveyed with ua := { surveyed.ua with nv := { surveyed.ua.nv with report := [(0, 1)] } } }
    s.canonical = true ∧ s.nlSurvJob = some surveyJob ∧ s.arb.source = .a ∧
    after .surveyResultCopy s (fun t => t.surv.stepCount == 1) = true) := by decide +kernel
theorem test_survey_live : (let s := { surveyed with ua := { surveyed.ua with nv := { surveyed.ua.nv with report := [(3, 1)] } } }
    s.nlSurvJob = some surveyJob ∧ agetD s.ua.nv.report 3 0 ≠ s.surv.liveCount) := by decide +kernel

def oneEvent : State := subOf (fun p => { p with evq := [{ items := [.item [0, 0, 0, 7, 2 ^ 24, 0, 0, 0] true] }, {}, {}] }) base
theorem test_log_flush : oneEvent.mayLog 7 = true ∧ after .eventLogFlush oneEvent (fun t =>
    (t.sub.logFlash.map (fun r => (r.code, r.source))) == [(7, 1)]) = true ∧ State.reset.sub.porN = false := by decide +kernel
theorem test_log_second : after .eventRateSecond (subOf (fun p => { p with logSuppressed := [(7, 5)] }) base) (fun t =>
    t.sub.logBuf.map (fun r => (r.code, r.data0, r.data1)) == [(0xFF, 5, 7)]) = true := by decide +kernel
def evqOn (n : Nat) : State := (subOf (fun p => { p with evqPart := [[], List.replicate n 1, []] }) base).setReg .shared 0x30050000 2
theorem test_evq : natBit ((evqOn 0).reg .shared 0x30050000) 1 = true ∧
    after (.evqPush 1 9) (evqOn 6) (fun t => t.sub.evqPart.getD 1 [] == [1, 1, 1, 1, 1, 1, 9]) = true ∧
    after (.evqPush 1 9) (evqOn 7) (fun t => (t.sub.evq.getD 1 {}).items.length == 1 && t.sub.evqPart.getD 1 [] == []) = true := by
  decide +kernel
def trialRuns : State := subOf (fun p => { p.writeDir { p.dir with trial := true } with slotStarts := [2, 1], serveUs := 5 }) { base with tb := { base.tb with us := 30000005 } }
theorem test_confirm : trialRuns.sub.dir.trial = true ∧ trialRuns.sub.runSlot = trialRuns.sub.dir.slot ∧ trialRuns.sub.recovery = false ∧
    (trialRuns.tb.us + 2 ^ 48 - trialRuns.sub.serveUs) % 2 ^ 48 = 30000000 ∧
    after .mgmtConfirm trialRuns (fun t => !t.sub.dir.trial && t.sub.slotStarts == [0, 0]) = true ∧ base.sub.dir.trial = false := by decide +kernel
def dirty : State := { subOf (fun p => { p with storeDirty := true }) base with tb := { base.tb with us := 1000000 } }
theorem test_store_save : dirty.mayLog 0x51 = true ∧ after .configStoreSave dirty (fun t => (newestCopy t.sub.stores).isSome && !t.sub.storeDirty &&
    (copyVals t.sub.stores).length == 1) = true := by decide +kernel

/-- A state with its island, and the link to it, changed. -/
def islOf (i : Island) (k : Mirror) : State := { base with isl := { i with on := true }, kao := k }
theorem test_island_start : after (.kaolinStart true) base (fun t => t.isl.on && (t.isl.chan 3).famOn == 7) = true ∧
    after (.kaolinStart false) (islOf { wdRestarts := 4 } {}) (fun t => t.isl.wdRestarts == 4) = true ∧ base.isl.on = false := by decide +kernel
theorem test_island_watchdog : after .kaolinWatchdogExpiry (islOf { wdRestarts := 4 } {}) (fun t => t.isl.wdRestarts == 5) = true := by decide +kernel
theorem test_island_seal : after (.kaoUnsealChange false) (islOf { staging := 3 } {}) (fun t => t.isl.staging == 5) = true ∧
    after (.kaoUnsealChange true) (islOf { staging := 3 } {}) (fun t => t.isl.staging == 3 && t.isl.unsealed) = true := by decide +kernel
theorem test_time_word : (let s := islOf {} { inbound := [.logReq 1, .time 0 500 true] }
    s.isl.wordsFull (s.isl.run (min 0 1536000)).time = false ∧
    after (.timeStrobe 0 false) s (fun t => t.kao.inbound == [.logReq 1] && t.isl.slew == 500 * 2 ^ 32) = true ∧
    after (.timeStrobe 0 true) s (fun t => t.isl.discarded == 1) = true) := by decide +kernel
theorem test_time_step : (let s := islOf {} { inbound := [.time 5 0 true] }
    after (.timeStrobe 0 false) s (fun t => t.isl.time == 5 * secUnit && t.isl.slew == 0) = true) := by decide +kernel

/-- An island with channel 1 configured. -/
def chan1 (q : IslChan) : Island := { cfg := [{}, { enable := true, iOpen := 500, iShort := 5000 }, {}, {}], chans := [{}, q, {}, {}] }
theorem test_sense : (islOf (chan1 {}) {}).canonical = true ∧
    after (.senseReading 1 1 0) (islOf (chan1 { cand := 1, run := 49 }) {}) (fun t => (t.isl.chan 1).mic == 1) = true ∧
    after (.senseReading 1 1 0) (islOf (chan1 { cand := 1, run := 48 }) {}) (fun t => (t.isl.chan 1).run == 49) = true ∧
    after (.senseReading 1 1 0) (islOf (chan1 { run := 49 }) {}) (fun t => (t.isl.chan 1).run == 1) = true ∧
    after (.senseReading 1 50 9) (islOf (chan1 { mic := 1, run := 49 }) {}) (fun t => (t.isl.chan 1).famOn == 7 && (t.isl.chan 1).supp == 9) = true := by
  decide +kernel
theorem test_combiner : (islOf (chan1 {}) {}).canonical = true ∧ ((chan1 {}).conf 1).rangeMode = 0 ∧
    after (.combinerReturn 1) (islOf (chan1 { sig := { lowGain := true, below := 4096 } }) {}) (fun t => !(t.isl.chan 1).sig.lowGain) = true ∧
    after (.combinerReturn 1) (islOf (chan1 { sig := { lowGain := true, below := 4095 } }) {}) (fun t => (t.isl.chan 1).sig.lowGain) = true := by decide +kernel
theorem test_suppression : after (.suppressionEnd 1 0) (islOf (chan1 { famOn := 7 }) {}) (fun t => (t.isl.chan 1).famOn == 6) = true ∧
    after (.suppressionEnd 1 2) (islOf (chan1 { famOn := 7 }) {}) (fun t => (t.isl.chan 1).famOn == 7) = true := by decide +kernel
theorem test_interval : (let s := islOf (chan1 { sig := { sumA := 2 ^ 50, peakC := 2 ^ 24, maxF := 2 ^ 30, maxS := 2 ^ 29 } }) {}
    s.canonical = true ∧ s.dieUp = true ∧ s.isl.minute + 1 < 480 ∧ (s.isl.chan 1).sig.clipped = false ∧ (s.isl.chan 1).left_ = false ∧
    after (.intervalResult []) s (fun t => t.isl.sample == 6000 && (t.isl.chan 1).sig.sumA == 0 && (t.isl.chan 1).energies.length == 1 &&
      (t.isl.chan 0).res == [none, none, none, none, none]) = true) := by decide +kernel
theorem test_minute_end : after (.intervalResult []) (islOf { minute := 479 } {}) (fun t => t.isl.minute == 0) = true := by decide +kernel

theorem test_minute_record : (islOf { done := some [1] } {}).dieUp = true ∧ (islOf { done := some [1] } {}).isl.prevHash = [] := by decide +kernel
theorem test_log_answer : (let s := islOf {} { inbound := [.imgEnd 1, .logReq 1] }
    s.dieUp = true ∧ after (.logRequestReceive false) s (fun t => t.kao.inbound == [.imgEnd 1] && t.kao.outbound == [.logPage none]) = true ∧
    after (.logRequestReceive true) s (fun t => t.isl.discarded == 1) = true) := by decide +kernel
theorem test_image : after (.imageBlockReceive false) (islOf { unsealed := true } { inbound := [.imgStart 1] }) (fun t => t.isl.staging == 3) = true ∧
    after (.imageBlockReceive false) (islOf { unsealed := true, rxImg := some [1] } { inbound := [.logReq 1, .imgBlock [2]] })
      (fun t => t.isl.rxImg == some [1, 2] && t.kao.inbound == [.logReq 1]) = true ∧
    after (.imageBlockReceive false) (islOf { staging := 3 } { inbound := [.imgStart 1] }) (fun t => t.isl.staging == 5 && t.isl.discarded == 1) = true := by
  decide +kernel
theorem test_image_end : (islOf { unsealed := true, rxImg := some [1], audit := 255 } { inbound := [.imgEnd 1] }).isl.audit = 255 := by decide +kernel
/-- The survey owns the capture buffer, whose channel 0 takes island channel 1. -/
def capturing : State := { dictOf [(dkey 0xA000 2 0, .num 1), (dkey 0xA000 2 1, .num 4)] ((islOf (chan1 {}) {}).setReg .shared 0x30060000 1) with owners := [(400, ⟨0x30, false⟩)] }
theorem test_raw_sample : capturing.canonical = true ∧ capturing.capOn = true ∧ capturing.dieUp = true ∧ capturing.feN 0xA000 2 0 = 1 ∧
    after (.rawSample 0 [] false false) capturing (fun t => (t.surv.cap.getD 0 {}).last == some 0) = true ∧
    after (.rawSample 0 [] false true) capturing (fun t => t.reg .shared 0x3006001C == 1 && natBit (t.reg .shared 0x30060004) 7) = true ∧
    natBit (base.reg .shared 0x30060000) 0 = false := by decide +kernel
theorem test_console : after .consoleUnknown (islOf {} {}) (fun t => t.out.head? == some (.console [63])) = true ∧
    after (.consoleLog 5) (islOf {} {}) (fun t => t.out.head? == some (.console (txt "not held"))) = true ∧
    after (.consoleLog 5) (islOf { log := [⟨0, 5, [0xAB]⟩] } {}) (fun t => t.out.head? == some (.console (txt "AB"))) = true ∧
    after .consoleTime (islOf { time := 7 * secUnit } {}) (fun t => t.out.head? == some (.console (txt "7 0 2"))) = true := by decide +kernel

/-- Feeds 0 to 7 are members of exposure groups 0 to 7; the source of group 2 is LAeq 1 s of island channel 1. -/
def exposed (misses : Nat) (k : Mirror) : State := dictOf ([(dkey 0x6500 1 2, .num 1), (dkey 0x6500 5 2, .num 1)] ++
  ([0, 1, 2, 3, 4, 5, 6, 7] : List Nat).map (fun g => (dkey 0x6400 0xC g, .num (g : Nat))))
  { base with kao := { k with misses := [0, 0, misses, 0, 0, 0, 0, 0] } }
def frame1 : List (List (Option Int) × Nat) := [([], 3), ([some 6000], 0)]
theorem test_mirror : (let s := exposed 5 { outbound := [.logPage none, .result frame1 7 8] }
    s.canonical = true ∧ s.expoMembers 2 = true ∧
    (frame1.getD (s.feN 0x6500 1 2 % 4) ([], 3)).1.getD (s.feN 0x6500 1 2 / 4 % 4) none = some 6000) := by decide +kernel
theorem group_default (f : Nat) (h : f < 1024) : keyDefault (dkey 0x6400 0xC f) = .num 255 := by
  have e : (dictFind 0x6400 0xC).map (·.dflt) = some (.num 255) := by decide +kernel
  have i : keyIdx (dkey 0x6400 0xC f) = 0x6400 := by simp only [keyIdx, dkey]; omega
  have j : keySub (dkey 0x6400 0xC f) = 0xC := by simp only [keySub, dkey]; omega
  cases c : dictFind 0x6400 0xC with
  | none => rw [c] at e; cases e
  | some r =>
    rw [c] at e
    simp only [Option.map_some, Option.some.injEq] at e
    simp [keyDefault, i, j, c, dictDefault, e]
theorem test_no_members : base.expoMembers 3 = false := by
  simp only [State.expoMembers, List.any_eq_false, List.mem_range]
  intro f h
  have k : dkey 0xC100 1 1 ≠ dkey 0x6400 0xC f := by simp only [dkey]; omega
  have v : base.feN 0x6400 0xC f = 255 := by
    simp [State.feN, State.fe, valueAt, baseVal, base, State.reset, pendAt, aget?, k, group_default f h, DVal.toNat, DVal.toInt]
  simp [v]
theorem test_mirror_runs : after (.mirrorResult false) (exposed 5 { outbound := [.result frame1 7 8] }) (fun t => t.kao.link &&
    baseVal t.dict (dkey 0xB000 1 1) == .num 6000 && baseVal t.dict (dkey 0x6500 7 2) == .num 1 && t.sub.journal.length == 1) = true := by
  decide +kernel
theorem test_mirror_restart : after (.mirrorResult false) (subOf (fun p => { p with restarting := true }) (exposed 5 { outbound := [.result frame1 7 8] }))
    (fun t => t.kao.link && t.sub.journal.isEmpty) = true := by decide +kernel
def later (us : Nat) (s : State) : State := { s with tb := { s.tb with us := us } }
theorem test_expo_missed : (later 125000 (exposed 7 {})).canonical = true ∧ (later 125000 (exposed 7 {})).feN 0x6500 7 2 ≠ 3 ∧
    (later 125000 (exposed 7 {})).feN 0x6500 5 2 = 1 ∧
    after .expoIntervalMissed (later 125000 (exposed 7 {})) (fun t => baseVal t.dict (dkey 0x6500 7 2) == .num 3 && t.sub.journal.length == 1) = true := by
  decide +kernel
/-- A missed interval in a management restart. -/
theorem test_expo_restart : (let s := later 125000 (subOf (fun p => { p with restarting := true }) (exposed 7 {}))
    s.canonical = true ∧ s.feN 0x6500 7 2 ≠ 3 ∧ s.fePend = [] ∧
    after .expoIntervalMissed s (fun t => baseVal t.dict (dkey 0x6500 7 2) == .num 2 && t.sub.journal.isEmpty) = true) := by decide +kernel
theorem test_expo_stale : after .expoIntervalMissed (later 125000 (exposed 0 {})) (fun t => baseVal t.dict (dkey 0x6500 7 2) == .num 2) = true := by
  decide +kernel
theorem test_link_lost : (later 250000 { base with kao := { link := true } }).mayLog 0x60 = true ∧
    after .koLinkLost (later 250000 { base with kao := { link := true } }) (fun t => !t.kao.link && natBit (t.reg .shared koStat) 1) = true := by
  decide +kernel
theorem test_time_send : (let s := (islOf {} {}).setReg .shared 0x30060000 2
    s.tbRuns = true ∧ after .timeWordSend s (fun t => t.kao.inbound == [.time 1 0 false]) = true) := by decide +kernel
theorem test_log_timeout : after .logRequestTimeout (later 2000000 { base with kao := { logReq := some 0 } }) (fun t =>
    t.kao.logReq == none && baseVal t.dict (dkey 0xB010 3 0) == .num 4) = true := by decide +kernel
theorem test_log_page : after (.logPageReceive false) { base with kao := { outbound := [.logPage (some [9])], logReq := some 0 } } (fun t =>
    baseVal t.dict (dkey 0xB010 2 0) == .bytes [9] && baseVal t.dict (dkey 0xB010 3 0) == .num 2) = true ∧
    after (.logPageReceive false) { base with kao := { outbound := [.logPage none], logReq := some 0 } } (fun t =>
    baseVal t.dict (dkey 0xB010 3 0) == .num 3) = true := by decide +kernel
theorem test_status : (let s := dictOf [(dkey 0xB030 3 0, .num 3)] { base with kao := { outbound := [.status [7] 1 true 2 5 0 0 0 0] } }
    s.canonical = true ∧ s.feN 0xB030 3 0 = 3 ∧
    after (.statusFrameReceive false) s (fun t => t.kao.unsealed && baseVal t.dict (dkey 0xB030 3 0) == .num 5) = true) := by decide +kernel
theorem test_image_send : after (.koImgStart .mgmt) (islOf {} {}) (fun t => t.kao.inbound == [.imgStart 1] && t.kao.imgOpen) = true ∧
    after (.koImgData .mgmt 5) (islOf {} { imgOpen := true }) (fun t => t.kao.inbound == [.imgBlock [0, 0, 0, 5]]) = true ∧
    after (.koImgEnd .mgmt) (islOf {} { imgOpen := true }) (fun t => t.kao.inbound == [.imgEnd 0] && !t.kao.imgOpen) = true := by decide +kernel

/-! ### Further states that meet the hypotheses of the statements -/

/-- A message whose first operation has been handled is finished by the next command of another kind. -/
theorem test_finish_message : (let s := begun (two 0xB 0 []) {}
    s.frontRuns = true ∧ s.dam.cur.isSome = true ∧ s.finishMsg.frontRuns = true ∧ s.finishMsg.dam.cur = none) := by decide +kernel
theorem test_owner_zero : after (.ownerClaim .mgmt (.tt 3) 0x100 false) owns3 (fun t => t.own (.tt 3) == ⟨1, false⟩) = true ∧
    after (.ownerClaim .mgmt (.tt 3) 0x100 true) owns3 (fun t => t.own (.tt 3) == ⟨0, false⟩) = true ∧ resValid (.tt 16) = false ∧
    after (.ownerClaim .mgmt (.tt 16) 1 false) base (fun t => t.out == [.regError .mgmt 0]) = true := by decide +kernel
theorem test_sv_push_delayed : natBit 0x83009 19 = true ∧
    after (.svPush .ua .a 0x83009) (regsOf [(0x20040024, 50)] base) (fun t => t.ua.sv.delay.map (·.1) == [50] && t.ua.sv.level == 1) = true ∧
    after (.svPush .ua .a 0x10009) svSpill (fun t => (t.ua.sv.list 1).spilled.length == 2 && (t.ua.sv.items 1).length == 4) = true := by
  decide +kernel
theorem test_scrub_list : after (.scrubPass .a [(5, false), (7, true), (9, true)]) base (fun t => t.reg (.unit .a) 0x2008000C == 7 &&
    t.reg (.unit .a) 0x20080008 == 1 && natBit (t.reg (.unit .a) 0x20080004) 0 && natBit (t.reg (.unit .a) 0x20080004) 1) = true := by
  decide +kernel
/-- A descriptor that copies 16 bytes from offset 0x100 to offset 0x108 of core SRAM. -/
def dmaOverlap : State :=
  let d := leBytes 4 0x08000100 ++ leBytes 4 0 ++ leBytes 4 0x08000108 ++ leBytes 4 0 ++ leBytes 4 16 ++ leBytes 4 0x80000000
  fabOf { core := cellWrites [(0x100, 9), (0x107, 8)] 0 d, dma := [(3, { busy := true })] } base
theorem test_dma_overlap : dmaOverlap.canonical = true ∧
    after (.dmaDescriptorDone .a ⟨3, []⟩) dmaOverlap (fun t => t.byteOf (.core .a) 0x108 == 9 && t.byteOf (.core .a) 0x10F == 8 &&
      t.byteOf (.core .a) 0x110 == 0) = true := by decide +kernel
theorem test_peer_read : (let b := req 0x08000100 .read
    base.unitState .b ≠ 3 ∧ burstForm { b with master := 0, addr := 0x400000000 + b.addr } = true ∧
    after (.peerWindowAccess .a b false) base (fun t => t.out == [.busData .a 0 1 (List.replicate 8 0)]) = true) := by decide +kernel

/-- A load of X 300, which no region of the job holds, and a load from P memory outside the loop buffer. -/
def macOut : Novil := { p := [300, 0, 0, 0, 0, 0, 0, 0] }
theorem test_nv_mac_faults : (let m : MacOp := ⟨1, 0, 0, true, 0, 2, false, 0, 0, false⟩
    (nvS (.mac 0 m) macOut).issues c0 (.mac 0 m) job5 = true ∧ stops (.mac 0 m) macOut (.nvMac c0 m) 4 = true) ∧
    (let m : MacOp := ⟨1, 0, 0, false, 0, 0, true, 0, 0, true⟩
    (nvS (.mac 0 m) {}).holds c0 (.mac 0 m) job5 = true ∧ stops (.mac 0 m) {} (.nvMac c0 m) 5 = true) ∧
    (nvS (.acc 4 0 0 40 false 0) {}).issues c0 (.acc 4 0 0 40 false 0) job5 = true ∧ stops (.acc 4 0 0 40 false 0) {} (.nvLda c0 0 0 40) 3 = true := by
  decide +kernel
/-- Eight transfers are outstanding, of which the last brings word 0 of the descriptor. -/
def dmaBusy : Novil := { dmaIn with xfers := List.replicate 7 ⟨true, false, 40, [1]⟩ ++ [⟨true, true, 0, [3 + 16 * 256]⟩] }
theorem test_nv_dma_waits : nvDoes (.dma 0) dmaBusy (.nvDma c0 0) (fun y => y.xfers == [⟨true, false, 16, [0, 0]⟩] && y.x == [(40, 1)]) = true ∧
    nvDoes (.dma 0) { dmaIn with xfers := List.replicate 8 ⟨true, false, 40, [1]⟩ } (.nvDma c0 0) (fun y => y.xfers.length == 8) = true := by
  decide +kernel
theorem test_nv_dma_faults : stops (.dma 0) {} (.nvDma c0 0) 7 = true ∧ stops (.dma 0) { dmaIn with win := 4090 } (.nvDma c0 0) 2 = true ∧
    nvDesc 0 0 0 0 = none := by decide +kernel

/-! ### Ill-formed commands: one for each check of `wellFormed`, which refuses it -/

theorem test_ill_formed_1 : ([
    .powerReq 17 1, .powerReq 1 0x10000000000000000, .wakeEvent 5 [] false env0, .thermalTrip 12, .temperatureSample [0],
    .pmbAlert 0x10000, .mwdtKick .mgmt 0x100000000, .tbIncrHiWrite .mgmt 0x100000000, .tbStepHiWrite .mgmt 0x100000000,
    .latchingRead .mgmt .shared 0x800000000, .readClear .mgmt .shared 0x800000000, .registerWrite .mgmt .shared 0x800000000 1,
    .registerWrite .mgmt .shared 1 0x100000000, .todSet 0x1000000000000 1, .todSet 1 0x3B9ACA00, .pdelayReqSend 5,
    .pdelayExchange 5 1 0, .pdelayTimeout 5, .pairLawUpdate .a 64 ⟨false, 0, [], false⟩,
    .lanePairRender .a 64 ⟨false, 0, [], false⟩, .arbiterDecision 4, .rateChange 0x100000000, .dmlOpen ⟨5, 0, 0, 0, false⟩ [],
    .dmlDiscover ⟨5, 0, 0, 0, false⟩ [], .dmlRead ⟨5, 0, 0, 0, false⟩ [] 1, .dmlRead peer0 [] 256,
    .dmlWrite ⟨5, 0, 0, 0, false⟩ [] 1, .dmlWrite peer0 [] 256, .dmlSubscribe ⟨5, 0, 0, 0, false⟩ [] 1,
    .dmlSubscribe peer0 [] 256, .dmlUnsubscribe ⟨5, 0, 0, 0, false⟩ [] 1, .dmlUnsubscribe peer0 [] 256,
    .dmlLock ⟨5, 0, 0, 0, false⟩ [] 1, .dmlLock peer0 [] 256, .dmlUnlock ⟨5, 0, 0, 0, false⟩ [] 1, .dmlUnlock peer0 [] 256,
    .dmlDomainWrite ⟨5, 0, 0, 0, false⟩ [] 1, .dmlDomainWrite peer0 [] 256, .dmlDomainRead ⟨5, 0, 0, 0, false⟩ [] 1,
    .dmlDomainRead peer0 [] 256] : List Instr).all (fun c => !wellFormed c) = true := by decide +kernel
theorem test_ill_formed_2 : ([
    .dmlDomainAbort ⟨5, 0, 0, 0, false⟩ [] 1, .dmlDomainAbort peer0 [] 256, .domainTransferTimeout 17 1,
    .dmlKeepalive ⟨5, 0, 0, 0, false⟩ [] 1, .dmlKeepalive peer0 [] 256, .dmlJournalRead ⟨5, 0, 0, 0, false⟩ [] 1,
    .dmlJournalRead peer0 [] 256, .dmlClose ⟨5, 0, 0, 0, false⟩ [] 1, .dmlClose peer0 [] 256, .leaseEnd 17, .revertRetry 17,
    .kickWrite 17 1 1, .kickWrite 1 17 1, .kickWrite 1 1 0x10000000000000000, .snapshotWrite 17 1 1, .snapshotWrite 1 17 1,
    .snapshotWrite 1 1 0x10000000000000000, .notificationSend 17, .ownerEntryWrite 17 .cap 1, .ownerEntryWrite 1 (.tt 16) 1,
    .ownerEntryWrite 1 (.gpio 24) 1, .ownerEntryWrite 1 .cap 0x10000000000000000, .ownerClaim .mgmt (.tt 16) 1 false,
    .ownerClaim .mgmt (.gpio 24) 1 false, .ownerClaim .mgmt .cap 256 false, .ownerRelease .mgmt (.tt 16),
    .ownerRelease .mgmt (.gpio 24), .renderWrite 17 1 1, .renderWrite 1 0x10000000000000000 1, .storeResetWrite 17 1,
    .storeResetWrite 1 0x10000000000000000, .evqPush 3 1, .evqPush 1 0x100000000, .csCommit 17 1 1 1, .csCommit 1 32 1 1,
    .csCommit 1 1 0x10000000000000000 1, .csEmpty 17 1 1, .csEmpty 1 32 1, .csEmpty 1 1 0x10000000000000000,
    .nvGraphCommit 17 1 1] : List Instr).all (fun c => !wellFormed c) = true := by decide +kernel
theorem test_ill_formed_3 : ([
    .nvGraphCommit 1 0x10000000000000000 1, .updateWrite 17 1 1 1, .updateWrite 1 2 1 1,
    .updateWrite 1 1 0x10000000000000000 1, .mgmtActivate 17 1, .mgmtActivate 1 0x10000000000000000, .ctrlInstall 17 1,
    .ctrlInstall 1 0x10000000000000000, .arbClear (.host 0) 1, .arbClear (.host 1) 0x10000000000000000,
    .arbHoldAtHiWrite .mgmt 0x100000000, .frameReceive 5 [] false 1 false, .frameReceive 1 [] false 65 false,
    .rxrTailWrite 5 1 1, .rxrTailWrite 1 4 1, .rxrTailWrite 1 1 0x100000000, .txrTailWrite 5 1 1, .txrTailWrite 1 4 1,
    .txrTailWrite 1 1 0x100000000, .frameTransmit 5, .ringEnWrite 5 false 1 false, .ringEnWrite 1 false 4 false,
    .ringModerationExpiry 5 false 1, .ringModerationExpiry 1 false 4, .linkChange 5 false 1, .autoNegotiationDone 5 1 1 1,
    .portConfigWrite 17 1 false 1, .portConfigWrite 1 5 false 1, .portConfigWrite 1 1 false 0x10000000000000000, .modAbsFall 4,
    .sfpIdRead 4 none none, .sfpDiagPoll 4 none, .modAbsRise 4, .streamPacketReceive 5 [] 1 false,
    .streamPacketReceive 1 [] 65 false, .egressPacketSend 128, .sapReceive 5 [], .tdmFrame 8 [], .tdmFrame 1 [0x100000000],
    .tdmStart 8] : List Instr).all (fun c => !wellFormed c) = true := by decide +kernel
theorem test_ill_formed_4 : ([
    .tdmStop 8, .rngGo 17 1 1, .rngGo 1 8 1, .rngGo 1 1 0x10000000000000000, .rangingDone 8 1, .rangingNoEcho 8,
    .triggerArm (.host 0) 1 1, .triggerArm (.host 1) 16 1, .triggerArm (.host 1) 1 0x10000000000000000,
    .triggerDisarm (.host 0) 1, .triggerDisarm (.host 1) 16, .triggerFire 16, .gpioPulseEnd 24,
    .gpioConfigWrite (.host 0) 1 .out 1, .gpioConfigWrite (.host 1) 24 .out 1,
    .gpioConfigWrite (.host 1) 1 .out 0x10000000000000000, .survGo 17 1 1, .survGo 1 0x10000000000000000 1,
    .novilJobStart .a 16, .novilTransferComplete .a 16, .nvNop ⟨.a, 16, .none, .none, .none, [], []⟩,
    .nvBr ⟨.a, 16, .none, .none, .none, [], []⟩ 1 1, .nvBr c0 0x10000 1, .nvBr c0 1 0x10000,
    .nvCall ⟨.a, 16, .none, .none, .none, [], []⟩ 1 1, .nvCall c0 0x10000 1, .nvCall c0 1 0x10000,
    .nvRet ⟨.a, 16, .none, .none, .none, [], []⟩, .nvLoop ⟨.a, 16, .none, .none, .none, [], []⟩ 1 1, .nvLoop c0 0x10000 1,
    .nvLoop c0 1 0x10000, .nvEnd ⟨.a, 16, .none, .none, .none, [], []⟩, .nvDmaw ⟨.a, 16, .none, .none, .none, [], []⟩,
    .nvAdd ⟨.a, 16, .none, .none, .none, [], []⟩ 1 1 1, .nvAdd c0 0x10000 1 1, .nvAdd c0 1 0x10000 1, .nvAdd c0 1 1 0x10000,
    .nvSub ⟨.a, 16, .none, .none, .none, [], []⟩ 1 1 1, .nvSub c0 0x10000 1 1, .nvSub c0 1 0x10000 1] : List Instr).all (fun c => !wellFormed c) = true := by decide +kernel
theorem test_ill_formed_5 : ([
    .nvSub c0 1 1 0x10000, .nvAnd ⟨.a, 16, .none, .none, .none, [], []⟩ 1 1 1, .nvAnd c0 0x10000 1 1, .nvAnd c0 1 0x10000 1,
    .nvAnd c0 1 1 0x10000, .nvOr ⟨.a, 16, .none, .none, .none, [], []⟩ 1 1 1, .nvOr c0 0x10000 1 1, .nvOr c0 1 0x10000 1,
    .nvOr c0 1 1 0x10000, .nvXor ⟨.a, 16, .none, .none, .none, [], []⟩ 1 1 1, .nvXor c0 0x10000 1 1, .nvXor c0 1 0x10000 1,
    .nvXor c0 1 1 0x10000, .nvShl ⟨.a, 16, .none, .none, .none, [], []⟩ 1 1 1, .nvShl c0 0x10000 1 1, .nvShl c0 1 0x10000 1,
    .nvShl c0 1 1 0x10000, .nvShr ⟨.a, 16, .none, .none, .none, [], []⟩ 1 1 1, .nvShr c0 0x10000 1 1, .nvShr c0 1 0x10000 1,
    .nvShr c0 1 1 0x10000, .nvShrl ⟨.a, 16, .none, .none, .none, [], []⟩ 1 1 1, .nvShrl c0 0x10000 1 1, .nvShrl c0 1 0x10000 1,
    .nvShrl c0 1 1 0x10000, .nvMin ⟨.a, 16, .none, .none, .none, [], []⟩ 1 1 1, .nvMin c0 0x10000 1 1, .nvMin c0 1 0x10000 1,
    .nvMin c0 1 1 0x10000, .nvMax ⟨.a, 16, .none, .none, .none, [], []⟩ 1 1 1, .nvMax c0 0x10000 1 1, .nvMax c0 1 0x10000 1,
    .nvMax c0 1 1 0x10000, .nvAbs ⟨.a, 16, .none, .none, .none, [], []⟩ 1 1, .nvAbs c0 0x10000 1, .nvAbs c0 1 0x10000,
    .nvNeg ⟨.a, 16, .none, .none, .none, [], []⟩ 1 1, .nvNeg c0 0x10000 1, .nvNeg c0 1 0x10000,
    .nvAdds ⟨.a, 16, .none, .none, .none, [], []⟩ 1 1 1] : List Instr).all (fun c => !wellFormed c) = true := by decide +kernel
theorem test_ill_formed_6 : ([
    .nvAdds c0 0x10000 1 1, .nvAdds c0 1 0x10000 1, .nvAdds c0 1 1 0x10000,
    .nvSubs ⟨.a, 16, .none, .none, .none, [], []⟩ 1 1 1, .nvSubs c0 0x10000 1 1, .nvSubs c0 1 0x10000 1,
    .nvSubs c0 1 1 0x10000, .nvCmp ⟨.a, 16, .none, .none, .none, [], []⟩ 1 1, .nvCmp c0 0x10000 1, .nvCmp c0 1 0x10000,
    .nvMul ⟨.a, 16, .none, .none, .none, [], []⟩ 1 1 1, .nvMul c0 0x10000 1 1, .nvMul c0 1 0x10000 1, .nvMul c0 1 1 0x10000,
    .nvLdi ⟨.a, 16, .none, .none, .none, [], []⟩ 1 1, .nvLdi c0 0x10000 1, .nvLdi c0 1 0x10000,
    .nvLdh ⟨.a, 16, .none, .none, .none, [], []⟩ 1 1, .nvLdh c0 0x10000 1, .nvLdh c0 1 0x10000,
    .nvAddi ⟨.a, 16, .none, .none, .none, [], []⟩ 1 1, .nvAddi c0 0x10000 1, .nvAddi c0 1 0x10000,
    .nvCmpi ⟨.a, 16, .none, .none, .none, [], []⟩ 1 1, .nvCmpi c0 0x10000 1, .nvCmpi c0 1 0x10000,
    .nvShli ⟨.a, 16, .none, .none, .none, [], []⟩ 1 1, .nvShli c0 0x10000 1, .nvShli c0 1 0x10000,
    .nvShri ⟨.a, 16, .none, .none, .none, [], []⟩ 1 1, .nvShri c0 0x10000 1, .nvShri c0 1 0x10000,
    .nvAndi ⟨.a, 16, .none, .none, .none, [], []⟩ 1 1, .nvAndi c0 0x10000 1, .nvAndi c0 1 0x10000,
    .nvLoad ⟨.a, 16, .none, .none, .none, [], []⟩ 1 1 1 false, .nvLoad c0 0x10000 1 1 false, .nvLoad c0 1 0x10000 1 false,
    .nvLoad c0 1 1 0x10000 false, .nvStore ⟨.a, 16, .none, .none, .none, [], []⟩ 1 1 1 false] : List Instr).all (fun c => !wellFormed c) = true := by decide +kernel
theorem test_ill_formed_7 : ([
    .nvStore c0 0x10000 1 1 false, .nvStore c0 1 0x10000 1 false, .nvStore c0 1 1 0x10000 false,
    .nvMoveToSpecial ⟨.a, 16, .none, .none, .none, [], []⟩ 1 1, .nvMoveToSpecial c0 0x10000 1, .nvMoveToSpecial c0 1 0x10000,
    .nvMoveFromSpecial ⟨.a, 16, .none, .none, .none, [], []⟩ 1 1, .nvMoveFromSpecial c0 0x10000 1,
    .nvMoveFromSpecial c0 1 0x10000, .nvSta ⟨.a, 16, .none, .none, .none, [], []⟩ 1 1 1 false, .nvSta c0 0x10000 1 1 false,
    .nvSta c0 1 0x10000 1 false, .nvSta c0 1 1 0x10000 false, .nvClra ⟨.a, 16, .none, .none, .none, [], []⟩ 1,
    .nvClra c0 0x10000, .nvAdda ⟨.a, 16, .none, .none, .none, [], []⟩ 1 1, .nvAdda c0 0x10000 1, .nvAdda c0 1 0x10000,
    .nvSuba ⟨.a, 16, .none, .none, .none, [], []⟩ 1 1, .nvSuba c0 0x10000 1, .nvSuba c0 1 0x10000,
    .nvLda ⟨.a, 16, .none, .none, .none, [], []⟩ 1 1 1, .nvLda c0 0x10000 1 1, .nvLda c0 1 0x10000 1, .nvLda c0 1 1 0x10000,
    .nvShra ⟨.a, 16, .none, .none, .none, [], []⟩ 1 1 false, .nvShra c0 0x10000 1 false, .nvShra c0 1 0x10000 false,
    .nvNega ⟨.a, 16, .none, .none, .none, [], []⟩ 1, .nvNega c0 0x10000, .nvDma ⟨.a, 16, .none, .none, .none, [], []⟩ 1,
    .nvDma c0 0x10000, .nvMac ⟨.a, 16, .none, .none, .none, [], []⟩ plainMac, .nvMac c0 { plainMac with aa := 16 },
    .nvMac c0 { plainMac with da := 16 }, .nvMac c0 { plainMac with db := 16 }, .nvMac c0 { plainMac with xp := 16 },
    .nvMac c0 { plainMac with xd := 16 }, .nvMac c0 { plainMac with yp := 16 }, .nvMac c0 { plainMac with yd := 16 }] : List Instr).all (fun c => !wellFormed c) = true := by decide +kernel
theorem test_ill_formed_8 : ([
    .nvMsu ⟨.a, 16, .none, .none, .none, [], []⟩ plainMac, .nvMsu c0 { plainMac with aa := 16 },
    .nvMsu c0 { plainMac with da := 16 }, .nvMsu c0 { plainMac with db := 16 }, .nvMsu c0 { plainMac with xp := 16 },
    .nvMsu c0 { plainMac with xd := 16 }, .nvMsu c0 { plainMac with yp := 16 }, .nvMsu c0 { plainMac with yd := 16 },
    .nvMpy ⟨.a, 16, .none, .none, .none, [], []⟩ plainMac, .nvMpy c0 { plainMac with aa := 16 },
    .nvMpy c0 { plainMac with da := 16 }, .nvMpy c0 { plainMac with db := 16 }, .nvMpy c0 { plainMac with xp := 16 },
    .nvMpy c0 { plainMac with xd := 16 }, .nvMpy c0 { plainMac with yp := 16 }, .nvMpy c0 { plainMac with yd := 16 },
    .nvMpyn ⟨.a, 16, .none, .none, .none, [], []⟩ plainMac, .nvMpyn c0 { plainMac with aa := 16 },
    .nvMpyn c0 { plainMac with da := 16 }, .nvMpyn c0 { plainMac with db := 16 }, .nvMpyn c0 { plainMac with xp := 16 },
    .nvMpyn c0 { plainMac with xd := 16 }, .nvMpyn c0 { plainMac with yp := 16 }, .nvMpyn c0 { plainMac with yd := 16 },
    .burstRequest .a { req 0x08000000 .read with master := 12 }, .burstRequest .a { req 0x08000000 .read with id := 16 },
    .burstRequest .a { req 0x08000000 .read with addr := 0x800000000 },
    .burstRequest .a { req 0x08000000 .read with engine := 4 }, .burstRequest .a { req 0x08000000 .read with others := [12] },
    .peerWindowAccess .a { req 0x08000000 .read with master := 12 } false,
    .peerWindowAccess .a { req 0x08000000 .read with id := 16 } false,
    .peerWindowAccess .a { req 0x08000000 .read with addr := 0x800000000 } false,
    .peerWindowAccess .a { req 0x08000000 .read with engine := 4 } false,
    .peerWindowAccess .a { req 0x08000000 .read with others := [12] } false, .bmMrst .mgmt .a 0x100000000,
    .masterDrainEnd .a 12, .dmaGo .mgmt .a 16, .dmaAbort .mgmt .a 16, .dmaDescriptorDone .a ⟨16, []⟩, .fifoDataRead .mgmt .a 2] : List Instr).all (fun c => !wellFormed c) = true := by decide +kernel
theorem test_ill_formed_9 : ([
    .fifoDropPkt .mgmt .a 2, .fifoFlush .mgmt .a 2, .refreshDue .a 8 false, .postponedRefresh .a 8,
    .freqReq .mgmt .a 0x100000000, .svPush .mgmt .a 0x100000000, .svDone .mgmt .a 0x100000000, .icComplete .mgmt .mgmt 256,
    .icPendWrite .mgmt .mgmt 8 1, .icPendWrite .mgmt .mgmt 1 0x100000000, .icTimecmpHiWrite .mgmt .mgmt 0x100000000,
    .moderationRelease .mgmt 16, .logReq (.host 0) 1, .logReq (.host 1) 0x10000000000000000, .koImgData .mgmt 0x100000000,
    .kaoInstall 17 1, .kaoInstall 1 0x10000000000000000, .senseReading 4 1 1, .combinerReturn 4, .suppressionEnd 4 1,
    .suppressionEnd 1 3, .ingressStreamTimeout 128] : List Instr).all (fun c => !wellFormed c) = true := by decide +kernel
theorem test_well_formed : ([.linkChange 4 true 3, .nvAdd c0 1 2 3, .burstRequest .a (req 0x08000000 .read), .triggerArm (.host 1) 3 100,
    .dmlRead peer0 [] 0] : List Instr).all wellFormed = true := by decide +kernel
end Sys2Proof.Tests
end

section
/-!
PROOFS. Health, claims and seals (R210, R211, R215, R216): what closing a block, missing its deadline and reporting a late check
leave alone and what they set. Settles O37.
-/
namespace Sys2Proof.Machine
open Sys2Proof

/-! ### Bits and registers -/

theorem natBit_eq_testBit (n i : Nat) : natBit n i = n.testBit i := by
  rw [natBit, Nat.testBit_eq_decide_div_mod_eq, Nat.shiftRight_eq_div_pow, Bool.beq_eq_decide_eq]

theorem natBit_or_two_pow (n i : Nat) : natBit (n ||| 2 ^ i) i = true := by
  simp [natBit_eq_testBit, Nat.testBit_two_pow_self]

theorem or_two_pow_mod_ne_zero (n i k : Nat) (h : i < k) : (n ||| 2 ^ i) % 2 ^ k ≠ 0 := by
  intro e
  have hb : ((n ||| 2 ^ i) % 2 ^ k).testBit i = true := by
    simp [Nat.testBit_mod_two_pow, Nat.testBit_two_pow_self, h]
  simp [e] at hb

theorem regKey_ne_of_ne (sp : Space) {a b : Nat} (h : a ≠ b) : regKey sp a ≠ regKey sp b := by
  unfold regKey; omega

/-- No register of a unit's own space has the key of a register of the shared space. -/
theorem regKey_unit_ne_shared (u : UnitId) {a b : Nat} (hb : b < 2 ^ 32) : regKey (.unit u) a ≠ regKey .shared b := by
  cases u <;> simp only [regKey, Space.toNat] <;> omega

/-- HL_FAULT holds the sticky cause that was set last, in any register map: its reset value is 0. -/
theorem State.natBit_setStat_hlFault (s : State) (u : UnitId) (i : Nat) :
    natBit ((s.setStat (.unit u) 0x20090008 (2 ^ i)).reg (.unit u) 0x20090008) i = true := by
  have hreset : regReset 0x20090008 = 0 := by decide +kernel
  have hset : s.reg (.unit u) 0x20090008 ||| 2 ^ i ≠ 0 := by
    simp [Nat.or_eq_zero_iff]
  have hread : (s.setStat (.unit u) 0x20090008 (2 ^ i)).reg (.unit u) 0x20090008 = s.reg (.unit u) 0x20090008 ||| 2 ^ i := by
    simp only [State.reg, State.setStat_regs]
    exact agetD_aputD_ne _ _ _ _ (by rw [hreset]; exact hset)
  rw [hread]; exact natBit_or_two_pow _ i

/-! ### Changes of one unit's part -/

@[simp] theorem State.onArb_unit (s : State) (f : Arbiter → Arbiter) (v : UnitId) : (s.onArb f).unit v = s.unit v := by
  cases v <;> rfl

@[simp] theorem State.setStat_unit (s : State) (sp : Space) (a m : Nat) (v : UnitId) : (s.setStat sp a m).unit v = s.unit v := by
  cases v <;> simp [State.unit]

theorem unit_other_ne (u : UnitId) : u.other ≠ u := by cases u <;> decide

/-- From `s` to `t` the other unit and every byte memory stay as they are. -/
structure State.KeepsOthers (u : UnitId) (s t : State) : Prop where
  other : t.unit u.other = s.unit u.other
  fab : (t.unit u).fab = (s.unit u).fab
  mgmtMem : t.sub.mgmtMem = s.sub.mgmtMem

namespace State.KeepsOthers

variable {u : UnitId} {s t w : State}

theorem trans (h : KeepsOthers u s t) (k : KeepsOthers u t w) : KeepsOthers u s w :=
  ⟨k.other.trans h.other, k.fab.trans h.fab, k.mgmtMem.trans h.mgmtMem⟩

theorem onUnit (f : RUnit → RUnit) (h : (f (s.unit u)).fab = (s.unit u).fab) : KeepsOthers u s (s.onUnit u f) :=
  ⟨s.onUnit_unit_other u _ f (unit_other_ne u), by rw [State.onUnit_unit, h], by simp⟩

theorem onArb (f : Arbiter → Arbiter) : KeepsOthers u s (s.onArb f) := ⟨by simp, by simp, by simp⟩

theorem sameBytes (h : KeepsOthers u s t) : s.sameBytes t := by
  have hfab : ∀ v, (t.unit v).fab = (s.unit v).fab := by
    intro v
    by_cases hv : v = u
    · rw [hv, h.fab]
    · have : v = u.other := by cases u <;> cases v <;> simp_all [UnitId.other]
      rw [this, h.other]
  intro m a
  cases m <;> simp only [State.byteOf, State.cellsOf, hfab, h.mgmtMem]

end State.KeepsOthers

/-- From `s` to `t` the arbiter stays as it is as well. -/
structure State.LocalTo (u : UnitId) (s t : State) : Prop extends State.KeepsOthers u s t where
  arb : t.arb = s.arb

namespace State.LocalTo

variable {u : UnitId} {s t w : State}

theorem refl (u : UnitId) (s : State) : LocalTo u s s := ⟨⟨rfl, rfl, rfl⟩, rfl⟩

theorem trans (h : LocalTo u s t) (k : LocalTo u t w) : LocalTo u s w :=
  ⟨h.toKeepsOthers.trans k.toKeepsOthers, k.arb.trans h.arb⟩

theorem of_units (hua : t.ua = s.ua) (hub : t.ub = s.ub) (harb : t.arb = s.arb) (hmem : t.sub.mgmtMem = s.sub.mgmtMem) :
    LocalTo u s t := by
  have hunit : ∀ v, t.unit v = s.unit v := by intro v; cases v <;> simp only [State.unit, hua, hub]
  exact ⟨⟨hunit _, by rw [hunit], hmem⟩, harb⟩

theorem onUnit (f : RUnit → RUnit) (h : (f (s.unit u)).fab = (s.unit u).fab) : LocalTo u s (s.onUnit u f) :=
  ⟨.onUnit f h, by simp⟩

theorem ite {c : Prop} [Decidable c] (ht : LocalTo u s t) (hw : LocalTo u s w) : LocalTo u s (if c then t else w) := by
  split
  · exact ht
  · exact hw

end State.LocalTo

/-- From `s` to `t` the unit's health state, its render path and HL_FAULT stay as they are as well. -/
structure State.KeepsHealth (u : UnitId) (s t : State) : Prop extends State.LocalTo u s t where
  hl : (t.unit u).hl = (s.unit u).hl
  rd : (t.unit u).rd = (s.unit u).rd
  hlFault : t.reg (.unit u) 0x20090008 = s.reg (.unit u) 0x20090008

namespace State.KeepsHealth

variable {u : UnitId} {s t w : State}

theorem refl (u : UnitId) (s : State) : KeepsHealth u s s := ⟨.refl u s, rfl, rfl, rfl⟩

theorem trans (h : KeepsHealth u s t) (k : KeepsHealth u t w) : KeepsHealth u s w :=
  ⟨h.toLocalTo.trans k.toLocalTo, k.hl.trans h.hl, k.rd.trans h.rd, k.hlFault.trans h.hlFault⟩

theorem ite {c : Prop} [Decidable c] (ht : KeepsHealth u s t) (hw : KeepsHealth u s w) :
    KeepsHealth u s (if c then t else w) := by
  split
  · exact ht
  · exact hw

theorem of_units (hua : t.ua = s.ua) (hub : t.ub = s.ub) (harb : t.arb = s.arb) (hmem : t.sub.mgmtMem = s.sub.mgmtMem)
    (hreg : t.reg (.unit u) 0x20090008 = s.reg (.unit u) 0x20090008) : KeepsHealth u s t := by
  have hu : t.unit u = s.unit u := by cases u <;> simp only [State.unit, hua, hub]
  exact ⟨.of_units hua hub harb hmem, by rw [hu], by rw [hu], hreg⟩

theorem onUnit (f : RUnit → RUnit) (hfab : (f (s.unit u)).fab = (s.unit u).fab) (hhl : (f (s.unit u)).hl = (s.unit u).hl)
    (hrd : (f (s.unit u)).rd = (s.unit u).rd) : KeepsHealth u s (s.onUnit u f) :=
  ⟨.onUnit f hfab, by rw [State.onUnit_unit, hhl], by rw [State.onUnit_unit, hrd], by simp [State.reg]⟩

theorem onNv (f : NovilArray → NovilArray) : KeepsHealth u s (s.onNv u f) := .onUnit _ rfl rfl rfl

theorem setReg {sp : Space} {a v : Nat} (h : regKey (.unit u) 0x20090008 ≠ regKey sp a) : KeepsHealth u s (s.setReg sp a v) :=
  .of_units rfl rfl rfl rfl (s.reg_setReg_other sp (.unit u) a 0x20090008 v h)

theorem setStat {sp : Space} {a m : Nat} (h : regKey (.unit u) 0x20090008 ≠ regKey sp a) : KeepsHealth u s (s.setStat sp a m) :=
  .of_units (by simp) (by simp) (by simp) (by simp) (s.reg_setStat_other sp (.unit u) a 0x20090008 m h)

theorem setFeN (i b e : Nat) (v : Int) : KeepsHealth u s (s.setFeN i b e v) :=
  .of_units (by simp) (by simp) (by simp) (by simp) (by simp [State.reg])

theorem foldl {β : Type} (f : State → β → State) (l : List β) (h : ∀ s, ∀ b ∈ l, KeepsHealth u s (f s b)) (s : State) :
    KeepsHealth u s (l.foldl f s) :=
  List.foldlRecOn l f (refl u s) (fun t ht b hb => ht.trans (h t b hb))

end State.KeepsHealth

/-! ### What the parts of a block's end leave alone -/

section
variable (s : State) (u : UnitId)

theorem State.evqPut_keepsHealth (q : Nat) (w : List Nat) : KeepsHealth u s (s.evqPut q w) :=
  have hmb : regKey (.unit u) 0x20090008 ≠ regKey .shared mbStat := regKey_unit_ne_shared u (by decide)
  have hput (l : List (Fifo (List Nat))) : KeepsHealth u s { s with sub := { s.sub with evq := l } } :=
    .of_units rfl rfl rfl rfl rfl
  .ite ((hput _).trans (.setStat hmb)) (hput _)

theorem State.evqLog_keepsHealth (q code source level data0 data1 : Nat) :
    KeepsHealth u s (s.evqLog q code source level data0 data1) :=
  .ite (s.evqPut_keepsHealth u _ _) (.refl u s)

theorem State.countFault_keepsHealth (n : Nat) : KeepsHealth u s (s.countFault u n) :=
  have hcount : KeepsHealth u s (s.countReg (.unit u) 0x20090020 1) := .setReg (regKey_ne_of_ne _ (by decide))
  (hcount.trans (.setFeN _ _ _ _)).trans (State.evqLog_keepsHealth _ u _ _ _ _ _ _)

theorem State.siltSet_keepsHealth (t mask : Nat) : KeepsHealth u s (s.siltSet u t mask) :=
  have hne : regKey (.unit u) 0x20090008 ≠ regKey (.unit u) siltStat := regKey_ne_of_ne _ (by decide)
  .trans (.ite (.setReg hne) (.refl u s)) (.setStat hne)

theorem State.paceEngines_keepsHealth (js : List NvJob) : KeepsHealth u s (s.paceEngines u js) := by
  refine .foldl _ _ (fun t e he => ?_) s
  have he : e < 16 := List.mem_range.mp he
  exact .trans (.setReg (regKey_ne_of_ne _ (by omega))) (.setReg (regKey_ne_of_ne _ (by omega)))

theorem State.takeGraph_keepsHealth (g : Nat) (js : List NvJob) : KeepsHealth u s (s.takeGraph u g js) :=
  have hpend (l : List JRec) : KeepsHealth u s { s with fePend := l } := .of_units rfl rfl rfl rfl rfl
  ((((hpend _).trans (.onNv _)).trans (State.paceEngines_keepsHealth _ u js)).trans (.setFeN _ _ _ _)).trans (.setFeN _ _ _ _)

theorem State.passGraph_keepsHealth (b : Nat) : KeepsHealth u s (s.passGraph u b) := by
  unfold State.passGraph
  split
  · exact .ite (s.takeGraph_keepsHealth u _ _) (.refl u s)
  · exact .refl u s

theorem State.nvEndJob_keepsHealth (e : Nat) (j : NvJob) (x : Novil) : KeepsHealth u s (s.nvEndJob u e j x) :=
  .ite (.onNv _) (.trans (.onNv _) (.onUnit _ rfl rfl rfl))

theorem State.stopEngine_keepsHealth (n e : Nat) : KeepsHealth u s (s.stopEngine u n e) := by
  have hstat : KeepsHealth u s (s.setStat (.unit u) (nvReg e 4) 4) :=
    .setStat (regKey_ne_of_ne _ (by unfold nvReg; omega))
  have hmark {t : State} (h : KeepsHealth u s t) (f : NovilArray → NovilArray) : KeepsHealth u s (t.onNv u f) :=
    h.trans (.onNv f)
  refine .ite (.refl u s) ?_
  split
  · next j _ =>
    have hjob := hstat.trans (State.nvEndJob_keepsHealth _ u e j ((s.unit u).nv.engine e))
    exact .ite (hmark (hmark hjob _) _) (hmark hjob _)
  · exact .ite (hmark (hmark hstat _) _) (hmark hstat _)

theorem State.clearDiag_localTo (v : UnitId) : LocalTo u s (s.clearDiag v) :=
  (KeepsHealth.foldl _ _ (fun _ _ _ => .setFeN _ _ _ _) s).toLocalTo

theorem State.noteMargin_localTo (n : Nat) (m : Int) (sec : Nat) : LocalTo u s (s.noteMargin u n m sec) :=
  .ite (.onUnit _ rfl) (.refl u s)

@[simp] theorem State.noteMargin_rd (n : Nat) (m : Int) (sec : Nat) :
    ((s.noteMargin u n m sec).unit u).rd = (s.unit u).rd := by
  unfold State.noteMargin; split <;> simp

@[simp] theorem State.noteMargin_regs (n : Nat) (m : Int) (sec : Nat) : (s.noteMargin u n m sec).regs = s.regs := by
  unfold State.noteMargin; split <;> simp

/-! ### The end of a RENDER -/

theorem applyClear_localTo (j : JRec) : State.LocalTo u s (applyClear u j s) :=
  .ite (.onUnit _ rfl) <| .ite (.onUnit _ rfl) <| .ite (.onUnit _ rfl) <| .ite (.onUnit _ rfl) <| .ite (.onUnit _ rfl) <|
    .ite (.of_units rfl rfl rfl rfl) <| .ite (s.clearDiag_localTo u u) (.refl u s)

theorem applyClears_localTo : ∀ (l : List JRec) (s : State), State.LocalTo u s (applyClears u l s)
  | [], s => .refl u s
  | j :: l, s => (applyClear_localTo s u j).trans (applyClears_localTo l (applyClear u j s))

theorem State.beginUnit_localTo (b : Nat) : LocalTo u s (s.beginUnit u b) := by
  have hclears (l : List JRec) : LocalTo u s ((applyClears u l s).passGraph u b) :=
    (applyClears_localTo u l s).trans (State.passGraph_keepsHealth _ u b).toLocalTo
  have hcalm (t : State) (l m : List Bool) :
      LocalTo u t { t with sub := { t.sub with win := { t.sub.win with slow := l }, slowLast := m } } :=
    .of_units rfl rfl rfl rfl
  unfold State.beginUnit
  exact ((hclears _).trans (hcalm _ _ _)).trans (.onUnit _ rfl)

/-- A unit that starts has no end of a RENDER before it. -/
theorem State.beginUnit_endBlk (b : Nat) : ((s.beginUnit u b).unit u).rd.endBlk = none := by
  simp [State.beginUnit, Render.fresh]

/-- The end of a RENDER is still ahead and nothing changes, or the unit stops and the RENDER that follows starts. -/
theorem State.tailEnd_cases :
    s.tailEnd u = s ∧ (∀ e, (s.unit u).rd.endBlk = some e → (s.unit u).hl.blk < e) ∨
    ∃ w, LocalTo u s w ∧ (w.unit u).rd.endBlk = none ∧ (w.unit u).hl = { (s.unit u).hl with resync := {}, need := false } ∧
      s.tailEnd u = match (s.unit u).rd.beginBlk with
        | some b => w.beginUnit u b
        | none => w := by
  unfold State.tailEnd
  dsimp only
  split
  · next h => simp [h]
  · next e he =>
    split
    · next hlt => exact .inl ⟨rfl, by simp [he, hlt]⟩
    · exact .inr ⟨_, .trans (.onUnit _ rfl) (.onUnit _ rfl), by simp, by simp, rfl⟩

theorem State.tailEnd_localTo : LocalTo u s (s.tailEnd u) := by
  obtain ⟨h, _⟩ | ⟨w, hw, _, _, h⟩ := s.tailEnd_cases u
  · rw [h]; exact .refl u s
  · rw [h]
    split
    · exact hw.trans (w.beginUnit_localTo u _)
    · exact hw

end

/-- A unit whose RENDER has no end in sight goes on. -/
theorem State.tailEnd_of_no_end (s : State) (u : UnitId) (h : (s.unit u).rd.endBlk = none) : s.tailEnd u = s := by
  simp [State.tailEnd, h]

/-- A unit that starts no RENDER shows the seal it closed last. -/
theorem State.tailEnd_lastSeal (s : State) (u : UnitId)
    (h : (s.unit u).rd.endBlk = none ∨ (s.unit u).rd.beginBlk = none) :
    ((s.tailEnd u).unit u).hl.blk = (s.unit u).hl.blk ∧ ((s.tailEnd u).unit u).hl.lastHealth = (s.unit u).hl.lastHealth ∧
      ((s.tailEnd u).unit u).hl.last = (s.unit u).hl.last := by
  rcases h with h | h
  · simp [s.tailEnd_of_no_end u h]
  · obtain ⟨heq, _⟩ | ⟨w, _, _, hhl, heq⟩ := s.tailEnd_cases u
    · simp [heq]
    · simp [heq, h, hhl]

/-- Once the blocks before the end of a RENDER are computed the end is behind the unit. -/
theorem State.tailEnd_endBlk (s : State) (u : UnitId) (e : Nat) (he : (s.unit u).rd.endBlk = some e)
    (hle : e ≤ (s.unit u).hl.blk) : ((s.tailEnd u).unit u).rd.endBlk = none := by
  obtain ⟨_, hlt⟩ | ⟨w, _, hw, _, heq⟩ := s.tailEnd_cases u
  · have := hlt e he; omega
  · rw [heq]
    split
    · exact w.beginUnit_endBlk u _
    · exact hw

/-! ### Closing a block (R215, R216) -/

/-- From `s` to `w` unit `u` has closed a block with a seal and a health, and where it is the source its values are those read;
the other unit, the byte memories, the unit's render path and HL_FAULT are as they were. -/
structure State.SealNoted (u : UnitId) (q : Seal) (health : Nat) (s w : State) : Prop extends State.KeepsOthers u s w where
  arb : w.arb = { s.arb with reads := if s.arb.source = u then u else s.arb.reads }
  rd : (w.unit u).rd = (s.unit u).rd
  blk : (w.unit u).hl.blk = q.block + 1
  lastHealth : (w.unit u).hl.lastHealth = health
  last : (w.unit u).hl.last = some q
  hlFault : w.reg (.unit u) 0x20090008 = s.reg (.unit u) 0x20090008

theorem State.SealNoted.then_keeps {u : UnitId} {q : Seal} {health : Nat} {s w t : State} (h : SealNoted u q health s w)
    (k : KeepsHealth u w t) : SealNoted u q health s t where
  toKeepsOthers := h.toKeepsOthers.trans k.toKeepsOthers
  arb := k.arb.trans h.arb
  rd := k.rd.trans h.rd
  blk := by rw [k.hl, h.blk]
  lastHealth := by rw [k.hl, h.lastHealth]
  last := by rw [k.hl, h.last]
  hlFault := k.hlFault.trans h.hlFault

section
variable (s : State) (u : UnitId) (q : Seal) (health : Nat)

/-- A unit's seal is noted, and then the end of a RENDER is looked at. -/
theorem State.closeBlock_noted : ∃ w, SealNoted u q health s w ∧ s.closeBlock u q health = w.tailEnd u := by
  refine ⟨_, ?_, rfl⟩
  dsimp only
  refine State.SealNoted.then_keeps (w := State.onArb (State.onUnit s u _) _) ?_
    (.ite (State.countFault_keepsHealth _ u _) (.refl u _))
  constructor
  case toKeepsOthers => exact .trans (.onUnit _ rfl) (.onArb _)
  case arb => simp only [State.onArb_arb, State.onUnit_arb]; split <;> rfl
  case hlFault => simp [State.reg]
  all_goals simp

theorem State.closeBlock_arb :
    (s.closeBlock u q health).arb = { s.arb with reads := if s.arb.source = u then u else s.arb.reads } := by
  obtain ⟨w, hw, heq⟩ := s.closeBlock_noted u q health
  rw [heq, (w.tailEnd_localTo u).arb, hw.arb]

theorem State.closeBlock_keepsOthers : KeepsOthers u s (s.closeBlock u q health) := by
  obtain ⟨w, hw, heq⟩ := s.closeBlock_noted u q health
  rw [heq]
  exact hw.toKeepsOthers.trans (w.tailEnd_localTo u).toKeepsOthers

theorem State.closeBlock_of_no_end (h : (s.unit u).rd.endBlk = none) : SealNoted u q health s (s.closeBlock u q health) := by
  obtain ⟨w, hw, heq⟩ := s.closeBlock_noted u q health
  rwa [heq, w.tailEnd_of_no_end u (by rw [hw.rd, h])]

theorem State.closeBlock_lastSeal (h : (s.unit u).rd.endBlk = none ∨ (s.unit u).rd.beginBlk = none) :
    ((s.closeBlock u q health).unit u).hl.blk = q.block + 1 ∧ ((s.closeBlock u q health).unit u).hl.lastHealth = health ∧
      ((s.closeBlock u q health).unit u).hl.last = some q := by
  obtain ⟨w, hw, heq⟩ := s.closeBlock_noted u q health
  rw [heq, ← hw.blk, ← hw.lastHealth, ← hw.last]
  exact w.tailEnd_lastSeal u (by rwa [hw.rd])

theorem State.closeBlock_endBlk (e : Nat) (he : (s.unit u).rd.endBlk = some e) (hle : e ≤ q.block + 1) :
    ((s.closeBlock u q health).unit u).rd.endBlk = none := by
  obtain ⟨w, hw, heq⟩ := s.closeBlock_noted u q health
  rw [heq]
  exact w.tailEnd_endBlk u e (by rw [hw.rd, he]) (by rw [hw.blk]; exact hle)

end

/-! ### Health and claim (R210, R211) -/

/-- The rows of R210 in order of health: the first whose condition holds gives the health. -/
theorem State.healthAt_eq (s : State) (u : UnitId) (n : Nat) :
    let h := (s.unit u).hl
    s.healthAt u n =
      if h.enabled = false ∨ h.loaded = false ∨ h.loading = true then 0
      else if h.resync.phase ≠ 0 ∨ h.need = true then 2
      else if agetD h.blkFaults n 0 % 64 ≠ 0 then 6
      else if s.unitWarns u = true then 12
      else if h.returning = true then 14
      else 15 := by
  simp only [State.healthAt, Bool.or_eq_true, Bool.not_eq_true', or_assoc]

theorem State.healthAt_rows (s : State) (u : UnitId) (n : Nat) :
    let h := (s.unit u).hl
    (s.healthAt u n = 0 ↔ h.enabled = false ∨ h.loaded = false ∨ h.loading = true) ∧
    (s.healthAt u n ≤ 2 ↔ s.healthAt u n = 0 ∨ h.resync.phase ≠ 0 ∨ h.need = true) ∧
    (s.healthAt u n ≤ 6 ↔ s.healthAt u n ≤ 2 ∨ agetD h.blkFaults n 0 % 64 ≠ 0) ∧
    (s.healthAt u n ≤ 12 ↔ s.healthAt u n ≤ 6 ∨ s.unitWarns u = true) ∧
    (s.healthAt u n ≤ 14 ↔ s.healthAt u n ≤ 12 ∨ h.returning = true) ∧
    s.healthAt u n ∈ [0, 2, 6, 12, 14, 15] := by
  intro h
  rw [s.healthAt_eq u n]
  by_cases hoff : (s.unit u).hl.enabled = false ∨ (s.unit u).hl.loaded = false ∨ (s.unit u).hl.loading = true
  · simp [hoff, h]
  by_cases hbehind : (s.unit u).hl.resync.phase ≠ 0 ∨ (s.unit u).hl.need = true
  · simp [hoff, hbehind, h]
  by_cases hfault : agetD (s.unit u).hl.blkFaults n 0 % 64 ≠ 0
  · simp [hoff, hbehind, hfault, h]
  by_cases hwarns : s.unitWarns u = true
  · simp [hoff, hbehind, hfault, hwarns, h]
  by_cases hreturning : (s.unit u).hl.returning = true
  · simp [hoff, hbehind, hfault, hwarns, hreturning, h]
  · simp [hoff, hbehind, hfault, hwarns, hreturning, h]

/-- A block with a fault cause has health 6 at most. -/
theorem State.healthAt_le_six (s : State) (u : UnitId) (n : Nat) (h : agetD (s.unit u).hl.blkFaults n 0 % 64 ≠ 0) :
    s.healthAt u n ≤ 6 := by
  obtain ⟨_, _, hsix, _⟩ := s.healthAt_rows u n
  exact hsix.mpr (.inr h)

/-! ### The compute deadline (R134, R216) -/

theorem Render.stopTiles_endBlk (r : Render) (n : Nat) : (r.stopTiles n).endBlk = r.endBlk :=
  List.foldlRecOn (motive := fun q : Render => q.endBlk = r.endBlk) _ _ rfl (fun _ h _ _ => h)

theorem Render.abandon_endBlk (r : Render) (n : Nat) : (r.abandon n).endBlk = r.endBlk := r.stopTiles_endBlk n

theorem Render.lt_abandon_chain (r : Render) (n : Nat) : n < (r.abandon n).chain := Nat.le_max_right r.chain (n + 1)

/-- From `s` to `w` an overrun of block `n` has entered the unit's health (R210, R242). -/
structure State.OverrunNoted (u : UnitId) (n : Nat) (s w : State) : Prop extends State.LocalTo u s w where
  rd : (w.unit u).rd = (s.unit u).rd
  faulty : agetD (w.unit u).hl.blkFaults n 0 % 64 ≠ 0
  overrun : natBit (w.reg (.unit u) 0x20090008) 2 = true

theorem State.blockFault_overrunNoted (s : State) (u : UnitId) (n : Nat) : OverrunNoted u n s (s.blockFault u n 2) where
  toLocalTo := .trans (.of_units (by simp) (by simp) (by simp) (by simp)) (.onUnit _ rfl)
  rd := by simp [State.blockFault]
  faulty := by
    simp only [State.blockFault, State.onUnit_unit, agetD, aget?_aput_same, Option.getD_some]
    exact or_two_pow_mod_ne_zero _ 2 6 (by decide)
  overrun := by
    simp only [State.blockFault, State.reg, State.onUnit_regs]
    exact s.natBit_setStat_hlFault u 2

theorem State.OverrunNoted.after_keeps {u : UnitId} {n : Nat} {s t w : State} (k : KeepsHealth u s t) (h : OverrunNoted u n t w) :
    OverrunNoted u n s w :=
  ⟨k.toLocalTo.trans h.toLocalTo, h.rd.trans k.rd, h.faulty, h.overrun⟩

theorem State.OverrunNoted.then_keeps {u : UnitId} {n : Nat} {s t w : State} (h : OverrunNoted u n s t) (k : KeepsHealth u t w) :
    OverrunNoted u n s w :=
  ⟨h.toLocalTo.trans k.toLocalTo, k.rd.trans h.rd, by rw [k.hl]; exact h.faulty, by rw [k.hlFault]; exact h.overrun⟩

section
variable (s : State) (u : UnitId)

/-- An overrun is noted, the render path leaves the block, and the block is closed with a CRC field of 0. -/
theorem State.closeOverrun_noted (n : Nat) : ∃ w, OverrunNoted u n s w ∧
    s.closeOverrun u n = ((w.onRd u (fun r => r.abandon n)).noteMargin u n (-1) s.tb.sec).closeBlock u
      ⟨n, w.claimAt u n (w.healthAt u n), 0⟩ (w.healthAt u n) := by
  refine ⟨_, ?_, rfl⟩
  have hlate (c : Bool) : KeepsHealth u s (if c then s.siltSet u 0 4 else s) :=
    .ite (s.siltSet_keepsHealth u 0 4) (.refl u s)
  exact .then_keeps (.after_keeps ((hlate _).trans (State.passGraph_keepsHealth _ u n)) (State.blockFault_overrunNoted _ u n))
    (.foldl _ _ (fun t e _ => t.stopEngine_keepsHealth u n e) _)

/-- A block that missed its deadline is closed with health at most 6 and a CRC field of 0, and the unit goes on. -/
theorem State.closeOverrun_sealed (n : Nat) (hend : (s.unit u).rd.endBlk = none) :
    ∃ q, ((s.closeOverrun u n).unit u).hl.blk = n + 1 ∧ ((s.closeOverrun u n).unit u).hl.lastHealth ≤ 6 ∧
      ((s.closeOverrun u n).unit u).hl.last = some q ∧ q.block = n ∧ q.crc = 0 ∧
      natBit ((s.closeOverrun u n).reg (.unit u) 0x20090008) 2 = true ∧
      n < ((s.closeOverrun u n).unit u).rd.chain ∧ ((s.closeOverrun u n).unit u).rd.staged = none ∧
      (s.closeOverrun u n).arb = { s.arb with reads := if s.arb.source = u then u else s.arb.reads } ∧
      (s.closeOverrun u n).unit u.other = s.unit u.other := by
  obtain ⟨w, hw, heq⟩ := s.closeOverrun_noted u n
  let x := (w.onRd u (fun r => r.abandon n)).noteMargin u n (-1) s.tb.sec
  have hx : LocalTo u s x := (hw.toLocalTo.trans (.onUnit _ rfl)).trans (State.noteMargin_localTo _ u _ _ _)
  have hrd : (x.unit u).rd = (s.unit u).rd.abandon n := by simp [x, hw.rd]
  have hreg : x.reg (.unit u) 0x20090008 = w.reg (.unit u) 0x20090008 := by simp [x, State.reg]
  have hclosed := x.closeBlock_of_no_end u ⟨n, w.claimAt u n (w.healthAt u n), 0⟩ (w.healthAt u n)
    (by rw [hrd, Render.abandon_endBlk, hend])
  rw [heq]
  refine ⟨_, hclosed.blk, ?_, hclosed.last, rfl, rfl, ?_, ?_, ?_, ?_, hclosed.other.trans hx.other⟩
  · rw [hclosed.lastHealth]; exact w.healthAt_le_six u n hw.faulty
  · rw [hclosed.hlFault, hreg]; exact hw.overrun
  · rw [hclosed.rd, hrd]; exact Render.lt_abandon_chain _ n
  · rw [hclosed.rd, hrd]; rfl
  · rw [hclosed.arb, hx.arb]

theorem exec_computeDeadline_due (hrun : s.unitRuns u = true) (harb : s.arb.run = true)
    (hdue : 32 * ((s.unit u).hl.blk + s.arb.lat) ≤ s.tb.sidx) (hend : (s.unit u).rd.endBlk = none) :
    exec (.computeDeadline u) s = .next (s.closeOverrun u (s.unit u).hl.blk) := by
  change execComputeDeadline u s = _
  unfold execComputeDeadline
  refine if_neg ?_
  rintro (hstopped | hearly | hidle | hpast)
  · exact hstopped hrun
  · omega
  · exact hidle harb
  · rw [hend] at hpast; exact Bool.noConfusion hpast

theorem exec_sealClose_late (o : OutBlock) (hrun : s.unitRuns u = true) (hst : (s.unit u).rd.staged = some o)
    (hblk : o.block = (s.unit u).hl.blk) (hlate : 32 * ((s.unit u).hl.blk + s.arb.lat) < s.tb.sidx) :
    exec (.sealClose u) s = .next (s.closeOverrun u (s.unit u).hl.blk) := by
  change execSealClose u s = _
  simp only [execSealClose, hst]
  rw [if_neg (by simp [hrun, hblk]), if_pos hlate]

/-! ### The seal of a complete block (R215) -/

/-- The seal of a unit's complete block. -/
def State.sealOf (o : OutBlock) : Seal := ⟨o.block, s.claimAt u o.block (s.healthAt u o.block), crc64 (sealBytes o)⟩

/-- The state in which a complete block's words are staged, its seal has reached the arbiter and its margin is noted. -/
def State.sealSent (o : OutBlock) : State :=
  (s.onArb (fun a => (a.stage u o).takeSeal u (s.sealOf u o))).noteMargin u o.block (s.marginNow o.block).1
    (s.marginNow o.block).2

theorem State.sealSent_arb (o : OutBlock) : (s.sealSent u o).arb = (s.arb.stage u o).takeSeal u (s.sealOf u o) :=
  (State.noteMargin_localTo _ u _ _ _).arb

theorem State.sealSent_keepsOthers (o : OutBlock) : KeepsOthers u s (s.sealSent u o) :=
  .trans (.onArb _) (State.noteMargin_localTo _ u _ _ _).toKeepsOthers

theorem State.sealSent_rd (o : OutBlock) : ((s.sealSent u o).unit u).rd = (s.unit u).rd := by
  simp [State.sealSent]

theorem exec_sealClose_complete (o : OutBlock) (hrun : s.unitRuns u = true) (hst : (s.unit u).rd.staged = some o)
    (hblk : o.block = (s.unit u).hl.blk) (hdue : s.tb.sidx ≤ 32 * (o.block + s.arb.lat)) :
    exec (.sealClose u) s = .next ((s.sealSent u o).closeBlock u (s.sealOf u o) (s.healthAt u o.block)) := by
  change execSealClose u s = _
  simp only [execSealClose, hst]
  rw [if_neg (by simp [hrun, hblk]), ← hblk, if_neg (by omega)]
  rfl

/-! ### Late check reports (R216) -/

theorem State.reportBlock_some {e : Nat × Nat} (h : s.reportBlock u = some e) :
    e ∈ (s.unit u).hl.healths ∧ s.tb.sidx < 32 * (e.1 + s.arb.lat) + s.relC ∧ s.arb.reported u e.1 = false := by
  have hmem := List.mem_of_find?_eq_some h
  have hopen := List.find?_some h
  simp only [Bool.and_eq_true, decide_eq_true_eq, Bool.not_eq_true'] at hopen
  exact ⟨List.mem_reverse.mp hmem, hopen⟩

theorem exec_lateCheckReport_passed {e : Nat × Nat} (harb : s.arb.run = true) (h : s.reportBlock u = some e) :
    exec (.lateCheckReport u true) s = .next (s.onArb (fun a => a.takeLate u (e.1, true))) := by
  change execLateCheckReport u true s = _
  simp [execLateCheckReport, h, harb]

/-- The block of a failed report counts as one with health 6. -/
def HealthSt.lowerTo6 (h : HealthSt) (n : Nat) : HealthSt :=
  { h with healths := h.healths.map (fun q => if q.1 = n then (q.1, 6) else q) }

/-- A failed report reaches the arbiter and shows in HL_FAULT. -/
def State.lateNoted (n : Nat) : State :=
  (s.onArb (fun a => a.takeLate u (n, false))).setStat (.unit u) 0x20090008 0x20

/-- A failed report on a block whose health was higher lowers it to 6 and counts the block. -/
def State.lateCounted (n : Nat) : State :=
  ((s.lateNoted u n).onUnit u (fun r => { r with hl := r.hl.lowerTo6 n })).countFault u n

theorem exec_lateCheckReport_failed {e : Nat × Nat} (harb : s.arb.run = true) (h : s.reportBlock u = some e) :
    exec (.lateCheckReport u false) s = .next (if e.2 ≤ 6 then s.lateNoted u e.1 else s.lateCounted u e.1) := by
  change execLateCheckReport u false s = _
  simp only [execLateCheckReport, h, harb]
  by_cases hle : e.2 ≤ 6
  · simp [hle, State.lateNoted]
  · simp [hle, State.lateCounted, State.lateNoted, HealthSt.lowerTo6]
end

/-! ### A failed report: the arbiter, HL_FAULT and the count of fault blocks (R216, R238) -/

section
variable (s : State) (u : UnitId)

/-- An event record's watermark shows in the shared space only. -/
theorem State.evqLog_reg_unit (q code source level data0 data1 a : Nat) :
    (s.evqLog q code source level data0 data1).reg (.unit u) a = s.reg (.unit u) a := by
  unfold State.evqLog
  split
  · unfold State.evqPut
    dsimp only
    split
    · exact State.reg_setStat_other _ .shared (.unit u) mbStat a 2 (regKey_unit_ne_shared u (by decide))
    · rfl
  · rfl

/-- The count of fault blocks grows by 1 and saturates, in any register map: its reset value is 0. -/
theorem State.countFault_count (n : Nat) :
    (s.countFault u n).reg (.unit u) 0x20090020 = min 0xFFFFFFFF (s.reg (.unit u) 0x20090020 + 1) := by
  have hreset : regReset 0x20090020 = 0 := by decide +kernel
  simp only [State.countFault, State.evqLog_reg_unit]
  simp only [State.reg, State.countFe_regs, State.countReg_regs]
  exact agetD_aputD_ne _ _ _ _ (by omega)

theorem State.lateNoted_arb (n : Nat) : (s.lateNoted u n).arb = s.arb.takeLate u (n, false) := by
  simp [State.lateNoted]

theorem State.lateNoted_other (n : Nat) : (s.lateNoted u n).unit u.other = s.unit u.other := by
  simp [State.lateNoted]

theorem State.lateNoted_late (n : Nat) : natBit ((s.lateNoted u n).reg (.unit u) 0x20090008) 5 = true :=
  State.natBit_setStat_hlFault _ u 5

theorem State.lateNoted_count (n : Nat) : (s.lateNoted u n).reg (.unit u) 0x20090020 = s.reg (.unit u) 0x20090020 :=
  State.reg_setStat_other _ _ _ _ _ _ (regKey_ne_of_ne _ (by decide))

theorem State.lateCounted_localTo (n : Nat) : LocalTo u (s.lateNoted u n) (s.lateCounted u n) :=
  .trans (.onUnit _ rfl) (State.countFault_keepsHealth _ u n).toLocalTo

theorem State.lateCounted_late (n : Nat) : natBit ((s.lateCounted u n).reg (.unit u) 0x20090008) 5 = true := by
  have hlowered : ((s.lateNoted u n).onUnit u (fun r => { r with hl := r.hl.lowerTo6 n })).reg (.unit u) 0x20090008 =
      (s.lateNoted u n).reg (.unit u) 0x20090008 := by simp [State.reg]
  rw [State.lateCounted, (State.countFault_keepsHealth _ u n).hlFault, hlowered]
  exact s.lateNoted_late u n

theorem State.lateCounted_count (n : Nat) :
    (s.lateCounted u n).reg (.unit u) 0x20090020 = min 0xFFFFFFFF (s.reg (.unit u) 0x20090020 + 1) := by
  have hlowered : ((s.lateNoted u n).onUnit u (fun r => { r with hl := r.hl.lowerTo6 n })).reg (.unit u) 0x20090020 =
      (s.lateNoted u n).reg (.unit u) 0x20090020 := by simp [State.reg]
  rw [State.lateCounted, State.countFault_count, hlowered, s.lateNoted_count u n]

/-- A failed report reaches the arbiter, shows in HL_FAULT, and counts the block unless its health was 6 or lower. -/
theorem lateCheckReport_failed {e : Nat × Nat} (harb : s.arb.run = true) (h : s.reportBlock u = some e) :
    ∃ t, exec (.lateCheckReport u false) s = .next t ∧ t.arb = s.arb.takeLate u (e.1, false) ∧
      natBit (t.reg (.unit u) 0x20090008) 5 = true ∧
      t.reg (.unit u) 0x20090020 = (if e.2 ≤ 6 then s.reg (.unit u) 0x20090020 else
        min 0xFFFFFFFF (s.reg (.unit u) 0x20090020 + 1)) ∧ t.unit u.other = s.unit u.other := by
  refine ⟨_, exec_lateCheckReport_failed s u harb h, ?_⟩
  by_cases hle : e.2 ≤ 6
  · simp only [if_pos hle]
    exact ⟨s.lateNoted_arb u _, s.lateNoted_late u _, s.lateNoted_count u _, s.lateNoted_other u _⟩
  · have hlocal := s.lateCounted_localTo u e.1
    simp only [if_neg hle]
    exact ⟨hlocal.arb.trans (s.lateNoted_arb u _), s.lateCounted_late u _, s.lateCounted_count u _,
      hlocal.other.trans (s.lateNoted_other u _)⟩

/-! ### A complete block closed in time (R215) -/

/-- What SEAL_CLOSE leaves in the arbiter: the seal and the staged words of the unit that closed its block. -/
theorem sealClose_arb (o : OutBlock) (health : Nat) :
    ((s.sealSent u o).closeBlock u (s.sealOf u o) health).arb =
      { (s.arb.stage u o).takeSeal u (s.sealOf u o) with reads := if s.arb.source = u then u else s.arb.reads } := by
  rw [State.closeBlock_arb, State.sealSent_arb]
  cases u <;> rfl

end

/-- Settles O37: the rows of health are a chain of tests, closing a block stays in the unit but for its seal and whose values
are read, and a missed deadline enters the block's fault causes before its health is taken. -/
theorem blocksAreSealedWithTheirHealth : Obligations.BlocksAreSealedWithTheirHealth := by
  refine ⟨fun s u n => ⟨s.healthAt_rows u n, fun v => rfl⟩, ?_, ?_, ?_, ?_, ?_⟩
  · intro u s o hrun hst hblk hdue
    refine ⟨_, exec_sealClose_complete s u o hrun hst hblk hdue, ?_, ?_, ?_, ?_, ?_⟩
    · refine ⟨?_, ?_, ?_⟩
      · rintro rfl; rw [sealClose_arb]; exact ⟨rfl, rfl⟩
      · rintro rfl; rw [sealClose_arb]; exact ⟨rfl, rfl⟩
      · intro hnext
        exact State.closeBlock_lastSeal _ u _ _ (by rwa [s.sealSent_rd u o])
    · intro e he hle
      exact State.closeBlock_endBlk _ u _ _ e (by rw [s.sealSent_rd u o, he]) hle
    · rw [sealClose_arb]; cases u <;> simp [Arbiter.staged, Arbiter.takeSeal, Arbiter.stage]
    · exact (State.closeBlock_keepsOthers _ u _ _).other.trans (s.sealSent_keepsOthers u o).other
    · exact ((s.sealSent_keepsOthers u o).trans (State.closeBlock_keepsOthers _ u _ _)).sameBytes
  · rintro u cmd s - hrun hend (⟨rfl, harb, hdue⟩ | ⟨rfl, ⟨o, hst, hblk⟩, hlate⟩)
    · obtain ⟨q, hq⟩ := s.closeOverrun_sealed u (s.unit u).hl.blk hend
      exact ⟨_, q, exec_computeDeadline_due s u hrun harb hdue hend, hq⟩
    · obtain ⟨q, hq⟩ := s.closeOverrun_sealed u (s.unit u).hl.blk hend
      exact ⟨_, q, exec_sealClose_late s u o hrun hst hblk hlate, hq⟩
  · exact fun u s e h => s.reportBlock_some u h
  · intro u s e harb h
    rw [exec_lateCheckReport_passed s u harb h]
    cases u <;> rfl
  · intro u s e _ harb h
    obtain ⟨t, hexec, ht, hrest⟩ := lateCheckReport_failed s u harb h
    exact ⟨t, hexec, by rw [ht]; cases u <;> rfl, hrest⟩

end Sys2Proof.Machine
end

section
/-!
PROOFS. Fall-through FIFOs (R477, R478): the gap marker of a full FIFO, and what DROP_PKT and FLUSH discard. Settles O17 and O18.
-/
namespace Sys2Proof.Machine
open Sys2Proof

/-! ### Gap markers (R477) -/

section
variable {α : Type}

/-- Only the input-most stage takes part when a marker forms or grows. -/
theorem gapLast_concat (x : FItem α) : ∀ pre : List (FItem α), gapLast (pre ++ [x]) = pre ++ gapLast [x]
  | [] => rfl
  | [_] => by simp [gapLast]
  | y :: z :: pre => by simpa [gapLast] using gapLast_concat x (z :: pre)

theorem Fifo.push_gapSeen_of_room (d : Nat) (f : Fifo α) (v : α) (e : Bool) (hd : f.dropping = false)
    (h : f.items.length < d) : (f.push d v e).gapSeen = f.gapSeen := by
  simp [Fifo.push, hd, h, Fifo.relevel]

/-- A marker forms where the input-most stage of a full FIFO holds an item. -/
theorem Fifo.push_gapSeen_of_full_item (d : Nat) (f : Fifo α) (v : α) (e : Bool) {pre : List (FItem α)} {w : α} {l : Bool}
    (hd : f.dropping = false) (h : ¬ f.items.length < d) (hf : f.items = pre ++ [.item w l]) :
    (f.push d v e).gapSeen = true := by
  have hlast : f.items.getLast? = some (.item w l) := by rw [hf, List.getLast?_concat]
  simp [Fifo.push, hd, h, hlast]

/-- A loss that a marker already there counts forms none. -/
theorem Fifo.push_gapSeen_of_full_gap (d : Nat) (f : Fifo α) (v : α) (e : Bool) {pre : List (FItem α)} {n : Nat}
    (hd : f.dropping = false) (h : ¬ f.items.length < d) (hf : f.items = pre ++ [.gap n]) :
    (f.push d v e).gapSeen = f.gapSeen := by
  have hlast : f.items.getLast? = some (.gap n) := by rw [hf, List.getLast?_concat]
  simp [Fifo.push, hd, h, hlast]

end

/-- The four flags of FIFO_STAT stand in bits of their own; GAP is bit 2 (R480). -/
theorem natBit_two_fifoStat (crossed above gap empty : Bool) :
    natBit (flag crossed 1 + flag above 2 + flag gap 4 + flag empty 8) 2 = gap := by
  decide +revert

/-- Settles O17: a full FIFO changes its input-most stage alone, and only software clears GAP. -/
theorem fullFifoRecordsALossInAGapMarker : Obligations.FullFifoRecordsALossInAGapMarker := by
  refine ⟨?_, ?_, ?_, ?_, fun f v => rfl, fun f => natBit_two_fifoStat _ _ _ _⟩
  · intro α depth f pre v last w l hd hf hfull
    have hroom : ¬ f.items.length < depth := Nat.not_lt.mpr hfull
    refine ⟨?_, f.push_gapSeen_of_full_item depth v last hd hroom hf⟩
    rw [f.push_items_of_full depth v last hd hroom, hf, gapLast_concat]
    rfl
  · intro α depth f pre v last n hd hf hfull
    have hroom : ¬ f.items.length < depth := Nat.not_lt.mpr hfull
    refine ⟨?_, f.push_gapSeen_of_full_gap depth v last hd hroom hf⟩
    rw [f.push_items_of_full depth v last hd hroom, hf, gapLast_concat]
    rfl
  · intro α depth f v last hd hroom
    exact ⟨f.push_items_of_room depth v last hd hroom, f.push_gapSeen_of_room depth v last hd hroom⟩
  · intro α f n l hf
    simp [Fifo.pop, hf]

/-! ### DROP_PKT and FLUSH of a FIFO (R478) -/

section
variable {α : Type}

/-- DROP_PKT passes over everything that ends no packet, markers included. -/
theorem dropPkt_append (l : List (FItem α)) : ∀ pre : List (FItem α), (∀ w, FItem.item w true ∉ pre) →
    dropPkt (pre ++ l) = dropPkt l
  | [], _ => rfl
  | .item w true :: _, h => absurd List.mem_cons_self (h w)
  | .gap _ :: pre, h => dropPkt_append l pre (fun w hw => h w (List.mem_cons_of_mem _ hw))
  | .item _ false :: pre, h => dropPkt_append l pre (fun w hw => h w (List.mem_cons_of_mem _ hw))

theorem Fifo.drop_of_end (f : Fifo α) {pre rest : List (FItem α)} {v : α} (hf : f.items = pre ++ .item v true :: rest)
    (h : ∀ w, FItem.item w true ∉ pre) : f.drop.items = rest ∧ f.drop.dropping = false := by
  have hdrop : dropPkt f.items = (rest, false) := by rw [hf, dropPkt_append _ pre h]; rfl
  simp [Fifo.drop, hdrop]

theorem Fifo.drop_of_no_end (f : Fifo α) (h : ∀ w, FItem.item w true ∉ f.items) :
    f.drop.items = [] ∧ f.drop.dropping = true := by
  have hdrop : dropPkt f.items = ([], true) := by
    have happend := dropPkt_append [] f.items h
    rwa [List.append_nil] at happend
  simp [Fifo.drop, hdrop]

/-- A pending DROP_PKT ends with the first end item that arrives, which it discards. -/
theorem Fifo.push_dropping_of_dropping (d : Nat) (f : Fifo α) (v : α) (e : Bool) (hd : f.dropping = true) :
    (f.push d v e).dropping = !e := by
  simp [Fifo.push, hd]

end

/-! ### The exposed FIFOs (R480) -/

@[simp] theorem Fabric.fifo_setFifo (f : Fabric) (inst : Nat) (q : Fifo (List Nat)) : (f.setFifo inst q).fifo inst = q := by
  by_cases h : inst = 0 <;> simp [Fabric.fifo, Fabric.setFifo, h]

@[simp] theorem Fabric.setFifo_core (f : Fabric) (inst : Nat) (q : Fifo (List Nat)) : (f.setFifo inst q).core = f.core := by
  unfold Fabric.setFifo; split <;> rfl

@[simp] theorem Fabric.setFifo_lp5mem (f : Fabric) (inst : Nat) (q : Fifo (List Nat)) :
    (f.setFifo inst q).lp5mem = f.lp5mem := by
  unfold Fabric.setFifo; split <;> rfl

/-- The other unit has no part in a change of a unit's fabric. -/
theorem State.onFab_unit_other (s : State) (u : UnitId) (f : Fabric → Fabric) : (s.onFab u f).unit u.other = s.unit u.other :=
  s.onUnit_unit_other u _ _ (unit_other_ne u)

/-- A change of a unit's fabric that leaves its core SRAM and its LP5 memory leaves every byte. -/
theorem State.onFab_sameBytes (s : State) (u : UnitId) (f : Fabric → Fabric) (hcore : (f (s.unit u).fab).core = (s.unit u).fab.core)
    (hlp5 : (f (s.unit u).fab).lp5mem = (s.unit u).fab.lp5mem) : s.sameBytes (s.onFab u f) := by
  have hunit : ∀ v, ((s.onFab u f).unit v).fab.core = (s.unit v).fab.core ∧
      ((s.onFab u f).unit v).fab.lp5mem = (s.unit v).fab.lp5mem := by
    intro v
    by_cases hv : v = u
    · rw [hv, State.onFab_fab]; exact ⟨hcore, hlp5⟩
    · have hkept : (s.onFab u f).unit v = s.unit v := s.onUnit_unit_other u v _ hv
      rw [hkept]; exact ⟨rfl, rfl⟩
  intro m a
  cases m with
  | mgmt => simp [State.byteOf, State.cellsOf]
  | core v => simp only [State.byteOf, State.cellsOf, (hunit v).1]
  | lp5 v => simp only [State.byteOf, State.cellsOf, (hunit v).2]

/-- The state in which an exposed FIFO of a unit has taken a command. -/
def State.onFifo (s : State) (u : UnitId) (inst : Nat) (f : Fifo (List Nat) → Fifo (List Nat)) : State :=
  s.onFab u (fun x => x.setFifo inst (f (x.fifo inst)))

section
variable (s : State) (u : UnitId) (inst : Nat) (f : Fifo (List Nat) → Fifo (List Nat))

theorem State.onFifo_fifo : ((s.onFifo u inst f).unit u).fab.fifo inst = f ((s.unit u).fab.fifo inst) := by
  simp [State.onFifo]

theorem State.onFifo_unit_other : (s.onFifo u inst f).unit u.other = s.unit u.other := s.onFab_unit_other u _

theorem State.onFifo_sameBytes : s.sameBytes (s.onFifo u inst f) :=
  s.onFab_sameBytes u _ (Fabric.setFifo_core _ _ _) (Fabric.setFifo_lp5mem _ _ _)

theorem State.onFifo_regs : (s.onFifo u inst f).regs = s.regs := s.onFab_regs u _

/-- A master that reaches the unit's registers drops a packet. -/
theorem exec_fifoDropPkt {c : Core} (h : c ≠ u.other.core) :
    exec (.fifoDropPkt c u inst) s = .next (s.onFifo u inst Fifo.drop) := if_neg h

/-- A master that reaches the unit's registers flushes a FIFO. -/
theorem exec_fifoFlush {c : Core} (h : c ≠ u.other.core) :
    exec (.fifoFlush c u inst) s = .next (s.onFifo u inst Fifo.flush) := if_neg h

end

/-- Settles O18: DROP_PKT passes over what ends no packet, and the two commands change nothing but their FIFO. -/
theorem dropPacketAndFlush : Obligations.DropPacketAndFlush := by
  refine ⟨fun α f pre v rest hf h => f.drop_of_end hf h, fun α f h => f.drop_of_no_end h, ?_, fun α f => ⟨rfl, rfl⟩, ?_⟩
  · intro α depth f v last hd
    exact ⟨f.push_items_of_dropping depth v last hd, f.push_dropping_of_dropping depth v last hd⟩
  · intro c u inst s hc _
    exact ⟨_, _, exec_fifoDropPkt s u inst hc, exec_fifoFlush s u inst hc, s.onFifo_fifo u inst _, s.onFifo_fifo u inst _,
      s.onFifo_unit_other u inst _, s.onFifo_unit_other u inst _, s.onFifo_sameBytes u inst _, s.onFifo_sameBytes u inst _,
      s.onFifo_regs u inst _⟩

end Sys2Proof.Machine
end

section
/-!
PROOFS. The interrupt controller (R517): which sources are deliverable, the one that a claim takes, and the end of a source's
service. Settles O14.
-/
namespace Sys2Proof.Machine
open Sys2Proof

/-! ### Sets of sources, and a core's controller -/

@[simp] theorem mem_setDel (l : List Nat) (k p : Nat) : p ∈ setDel l k ↔ p ∈ l ∧ p ≠ k := by
  simp [setDel]

@[simp] theorem mem_setAdd (l : List Nat) (k p : Nat) : p ∈ setAdd l k ↔ p = k ∨ p ∈ l := by
  unfold setAdd
  split
  · next h => exact ⟨.inr, fun hp => hp.elim (fun e => e ▸ h) id⟩
  · exact List.mem_cons

@[simp] theorem State.setIc_ic_self (s : State) (c : Core) : s.setIc c (s.ic c) = s := by cases c <;> rfl

@[simp] theorem State.emit_ic (s : State) (o : Out) (c : Core) : (s.emit o).ic c = s.ic c := by cases c <;> rfl

/-- Source 0 does not exist (R515), so that it is never pending. -/
theorem State.zero_notMem_pend {s : State} (h : s.canonical = true) (c : Core) : 0 ∉ (s.ic c).pend := by
  simp only [State.canonical, Bool.and_eq_true, Bool.not_eq_true', List.contains_eq_mem, decide_eq_false_iff_not] at h
  obtain ⟨⟨⟨-, hM⟩, hA⟩, hB⟩ := h
  cases c
  case mgmt => exact hM
  case ua => exact hA
  case ub => exact hB

namespace IntCtl

variable (i : IntCtl)

/-! ### Deliverable sources -/

/-- The five conditions of R517. -/
theorem deliverable_iff (src : Nat) : i.deliverable src = true ↔
    src ∈ i.pend ∧ natBit (agetD i.enable (src / 32) 0) (src % 32) = true ∧ i.threshold < agetD i.srccfg src 0 % 16 ∧
      src ∉ i.insvc ∧ ∀ g, i.modGroup src = some g → (agetD i.groups g {}).released = true := by
  cases hg : i.modGroup src <;> simp [deliverable, hg, and_assoc]

variable {i} {src : Nat}

theorem mem_pend_of_deliverable (h : i.deliverable src = true) : src ∈ i.pend :=
  ((i.deliverable_iff src).mp h).1

theorem threshold_lt_of_deliverable (h : i.deliverable src = true) : i.threshold < agetD i.srccfg src 0 % 16 :=
  ((i.deliverable_iff src).mp h).2.2.1

theorem not_deliverable_of_notMem_pend (h : src ∉ i.pend) : i.deliverable src = false :=
  Bool.eq_false_iff.mpr (mt mem_pend_of_deliverable h)

theorem not_deliverable_of_priority_zero (h : agetD i.srccfg src 0 % 16 = 0) : i.deliverable src = false :=
  Bool.eq_false_iff.mpr fun hd => Nat.not_lt_zero _ (h ▸ threshold_lt_of_deliverable hd)

/-! ### The source of highest priority -/

variable (i) in
/-- Source `p` comes before `q` in the order in which sources are claimed: by priority, then by number. -/
def Precedes (p q : Nat) : Prop :=
  agetD i.srccfg q 0 % 16 < agetD i.srccfg p 0 % 16 ∨ (agetD i.srccfg q 0 % 16 = agetD i.srccfg p 0 % 16 ∧ p ≤ q)

variable {p : Nat} {l : List Nat}

theorem best_cons_of_precedes (h : i.deliverable p = true) (hp : i.best l = 0 ∨ i.Precedes p (i.best l)) :
    i.best (p :: l) = p := by
  simp only [best, h, if_true]
  unfold Precedes at hp
  split
  · rfl
  · split
    · rfl
    · omega

theorem best_cons_of_precedes_head (hb : i.best l ≠ 0) (hp : i.deliverable p = true → i.Precedes (i.best l) p) :
    i.best (p :: l) = i.best l := by
  simp only [best, if_neg hb]
  unfold Precedes at hp
  split
  · next h =>
    have hbefore := hp h
    rw [if_neg (by omega)]
  · rfl

/-- What is returned is deliverable, or 0. -/
theorem best_eq_zero_or_deliverable : ∀ l : List Nat, i.best l = 0 ∨ i.deliverable (i.best l) = true
  | [] => .inl rfl
  | p :: l => by
    have ih := best_eq_zero_or_deliverable l
    simp only [best]
    split
    · next h =>
      split
      · exact .inr h
      · split
        · exact .inr h
        · exact ih
    · exact ih

/-- Of the sources of a list the deliverable one that precedes every other is returned. -/
theorem best_eq_of_precedes (hne : src ≠ 0) (hd : i.deliverable src = true)
    (htop : ∀ p, i.deliverable p = true → i.Precedes src p) : ∀ l : List Nat, src ∈ l → i.best l = src
  | p :: l, hmem => by
    by_cases hl : src ∈ l
    · have ih := best_eq_of_precedes hne hd htop l hl
      rw [best_cons_of_precedes_head (by rwa [ih]) (by rw [ih]; exact htop p), ih]
    · obtain rfl : src = p := (List.mem_cons.mp hmem).resolve_right hl
      exact best_cons_of_precedes hd ((best_eq_zero_or_deliverable l).imp_right (htop _))

theorem claimed_eq_zero (h : ∀ p, i.deliverable p = false) : i.claimed = 0 :=
  (best_eq_zero_or_deliverable i.pend).resolve_right (by simp [h])

theorem claimed_eq_of_precedes (hne : src ≠ 0) (hd : i.deliverable src = true)
    (htop : ∀ p, i.deliverable p = true → i.Precedes src p) : i.claimed = src :=
  best_eq_of_precedes hne hd htop i.pend (mem_pend_of_deliverable hd)

/-! ### The claim -/

@[simp] theorem rehold_pend (j : IntCtl) (n : Nat) : (j.rehold n).pend = j.pend := by
  unfold rehold
  split
  · split <;> rfl
  · rfl

@[simp] theorem rehold_insvc (j : IntCtl) (n : Nat) : (j.rehold n).insvc = j.insvc := by
  unfold rehold
  split
  · split <;> rfl
  · rfl

theorem claim_of_claimed_zero (h : i.claimed = 0) : i.claim = i := by simp [claim, h]

theorem claim_pend (h : i.claimed ≠ 0) : i.claim.pend = setDel i.pend i.claimed := by simp [claim, h]

theorem claim_insvc (h : i.claimed ≠ 0) : i.claim.insvc = setAdd i.insvc i.claimed := by simp [claim, h]

@[simp] theorem setPend_badComplete (j : IntCtl) (us n : Nat) : (j.setPend us n).badComplete = j.badComplete := by
  unfold setPend
  split
  · rfl
  · dsimp only
    split <;> rfl

end IntCtl

/-! ### IC_CLAIM and IC_COMPLETE -/

section
variable (s : State) (c : Core)

theorem exec_icClaim :
    exec (.icClaim c) s = .next ((s.setIc c (s.ic c).claim).emit (.regValue c (icBase c + 0x444) (s.ic c).claimed)) := rfl

/-- A claim that finds no deliverable source returns 0 and changes nothing. -/
theorem exec_icClaim_of_none (h : (s.ic c).claimed = 0) :
    exec (.icClaim c) s = .next (s.emit (.regValue c (icBase c + 0x444) 0)) := by
  rw [exec_icClaim, IntCtl.claim_of_claimed_zero h, State.setIc_ic_self, h]

/-- The state in which a core has ended the service of a source. -/
def State.endService (n : Nat) : State := s.setIc c { s.ic c with insvc := setDel (s.ic c).insvc n }

theorem exec_icComplete (src : Nat) : exec (.icComplete c c src) s = execIcComplete c c src s := rfl

theorem exec_icComplete_of_insvc {src : Nat} (h : src % 256 ∈ (s.ic c).insvc) :
    exec (.icComplete c c src) s =
      .next (if isLevel c (src % 256) ∧ (s.endService c (src % 256)).asserted c (src % 256) then
        (s.endService c (src % 256)).raiseLevel c (src % 256) else s.endService c (src % 256)) := by
  simp only [exec_icComplete, execIcComplete, ne_eq, not_true_eq_false, if_false, if_pos h]
  rfl

theorem exec_icComplete_of_not_insvc {src : Nat} (h : src % 256 ∉ (s.ic c).insvc) :
    exec (.icComplete c c src) s = .next (s.setIc c { s.ic c with badComplete := true }) := by
  simp only [exec_icComplete, execIcComplete, ne_eq, not_true_eq_false, if_false, if_neg h]

/-- A level source that asserts changes neither what is in service nor BAD_COMPLETE. -/
theorem State.raiseLevel_service (n : Nat) : ((s.raiseLevel c n).ic c).insvc = (s.ic c).insvc ∧
    ((s.raiseLevel c n).ic c).badComplete = (s.ic c).badComplete := by
  unfold State.raiseLevel
  split
  · exact ⟨rfl, rfl⟩
  · simp [State.raiseEdge]

theorem State.endService_service (n : Nat) : n ∉ ((s.endService c n).ic c).insvc ∧
    ((s.endService c n).ic c).badComplete = (s.ic c).badComplete := by
  simp [State.endService]

end

/-- Settles O14: the claim takes the one deliverable source that precedes the others, and a level source whose condition holds
at COMPLETE becomes pending without entering service. -/
theorem claimReturnsTheHighestDeliverableSource : Obligations.ClaimReturnsTheHighestDeliverableSource := by
  refine ⟨IntCtl.deliverable_iff, ?_, ?_, ?_, fun c s src h => exec_icComplete_of_not_insvc s c h,
    fun i src h => IntCtl.not_deliverable_of_priority_zero h⟩
  · intro c s _ hnone
    exact exec_icClaim_of_none s c (IntCtl.claimed_eq_zero hnone)
  · intro c s src hcan hd htop
    have hne : src ≠ 0 := fun e => State.zero_notMem_pend hcan c (e ▸ IntCtl.mem_pend_of_deliverable hd)
    have hsrc : (s.ic c).claimed = src := IntCtl.claimed_eq_of_precedes hne hd htop
    have hclaims : (s.ic c).claimed ≠ 0 := hsrc ▸ hne
    have hpend := hsrc ▸ IntCtl.claim_pend hclaims
    have hinsvc := hsrc ▸ IntCtl.claim_insvc hclaims
    refine ⟨_, exec_icClaim s c, by simp [hsrc], by simp [hpend], by simp [hinsvc], ?_, ?_⟩
    · intro p hp
      simp [hpend, hinsvc, hp]
    · exact IntCtl.not_deliverable_of_notMem_pend (by simp [hpend])
  · intro c s src h
    obtain ⟨hout, hbad⟩ := s.endService_service c (src % 256)
    refine ⟨_, exec_icComplete_of_insvc s c h, ?_⟩
    split
    · obtain ⟨hkeep, hkeepBad⟩ := (s.endService c (src % 256)).raiseLevel_service c (src % 256)
      exact ⟨hkeep ▸ hout, hkeepBad.trans hbad⟩
    · exact ⟨hout, hbad⟩

end Sys2Proof.Machine
end
